-- ==== Sys2Proof/Word.lean ====
section
/-! DEFINITION. Bytes, serial comparison, and the small index and container types of the station:
four leaves or outputs, eight zones, two loops. -/

namespace Sys2Proof

/-- A byte of the line or of the settings store; also a mark, a sequence number, a set of zones. -/
abbrev Byte := BitVec 8

/-- Conventions of 00 (serial comparison): `a` is serially greater than `b` when `(a - b) mod 256` lies in 1..127. -/
def serialGreater (a b : Byte) : Bool :=
  1 ≤ (a - b).toNat && (a - b).toNat ≤ 127

/-- A field counter saturates at 65535 (Conventions of 00). -/
def fieldSucc (n : Nat) : Nat := if n < 65535 then n + 1 else n

/-- The distance of two positions. -/
def distance (a b : Nat) : Nat := (a - b) + (b - a)

/-- A number 1..4: a logical leaf or a physical output. -/
inductive N4 where
  | n1 | n2 | n3 | n4
deriving DecidableEq, Repr

abbrev Leaf := N4
abbrev Output := N4

namespace N4

def all : List N4 := [.n1, .n2, .n3, .n4]

def number : N4 → Nat
  | .n1 => 1
  | .n2 => 2
  | .n3 => 3
  | .n4 => 4

def ofNumber? : Nat → Option N4
  | 1 => some .n1
  | 2 => some .n2
  | 3 => some .n3
  | 4 => some .n4
  | _ => none

end N4

/-- One value per leaf (or per output). -/
structure Four (α : Type) where
  f1 : α
  f2 : α
  f3 : α
  f4 : α
deriving DecidableEq, Repr

namespace Four

variable {α : Type}

def get (v : Four α) : N4 → α
  | .n1 => v.f1
  | .n2 => v.f2
  | .n3 => v.f3
  | .n4 => v.f4

def set (v : Four α) (i : N4) (x : α) : Four α :=
  match i with
  | .n1 => { v with f1 := x }
  | .n2 => { v with f2 := x }
  | .n3 => { v with f3 := x }
  | .n4 => { v with f4 := x }

def const (x : α) : Four α := ⟨x, x, x, x⟩

def map {β : Type} (f : α → β) (v : Four α) : Four β := ⟨f v.f1, f v.f2, f v.f3, f v.f4⟩

def ofFn (f : N4 → α) : Four α := ⟨f .n1, f .n2, f .n3, f .n4⟩

def toList (v : Four α) : List α := [v.f1, v.f2, v.f3, v.f4]

end Four

/-- The zones 1..8. -/
inductive Zone where
  | z1 | z2 | z3 | z4 | z5 | z6 | z7 | z8
deriving DecidableEq, Repr

namespace Zone

def all : List Zone := [.z1, .z2, .z3, .z4, .z5, .z6, .z7, .z8]

def number : Zone → Nat
  | .z1 => 1
  | .z2 => 2
  | .z3 => 3
  | .z4 => 4
  | .z5 => 5
  | .z6 => 6
  | .z7 => 7
  | .z8 => 8

def ofNumber? : Nat → Option Zone
  | 1 => some .z1
  | 2 => some .z2
  | 3 => some .z3
  | 4 => some .z4
  | 5 => some .z5
  | 6 => some .z6
  | 7 => some .z7
  | 8 => some .z8
  | _ => none

/-- A set of zones is one byte, bit `n - 1` set for zone `n` (R27, R183). -/
def isIn (z : Zone) (set : Byte) : Bool := set.getLsbD (z.number - 1)

/-- The set with one zone alone. -/
def bit (z : Zone) : Byte := BitVec.ofNat 8 (2 ^ (z.number - 1))

/-- The byte of the zones that satisfy `p`. -/
def setOf (p : Zone → Bool) : Byte :=
  all.foldl (fun acc z => if p z then acc ||| bit z else acc) 0#8

end Zone

/-- One value per zone. -/
structure PerZone (α : Type) where
  z1 : α
  z2 : α
  z3 : α
  z4 : α
  z5 : α
  z6 : α
  z7 : α
  z8 : α
deriving DecidableEq, Repr

namespace PerZone

variable {α : Type}

def get (v : PerZone α) : Zone → α
  | .z1 => v.z1
  | .z2 => v.z2
  | .z3 => v.z3
  | .z4 => v.z4
  | .z5 => v.z5
  | .z6 => v.z6
  | .z7 => v.z7
  | .z8 => v.z8

def ofFn (f : Zone → α) : PerZone α :=
  ⟨f .z1, f .z2, f .z3, f .z4, f .z5, f .z6, f .z7, f .z8⟩

def set (v : PerZone α) (z : Zone) (x : α) : PerZone α :=
  ofFn fun y => if y = z then x else v.get y

def toList (v : PerZone α) : List α := [v.z1, v.z2, v.z3, v.z4, v.z5, v.z6, v.z7, v.z8]

end PerZone

/-- The detector loops D1 and D2. -/
inductive Loop where
  | d1 | d2
deriving DecidableEq, Repr

/-- One value per detector loop. -/
structure PerLoop (α : Type) where
  d1 : α
  d2 : α
deriving DecidableEq, Repr

namespace PerLoop

variable {α : Type}

def get (v : PerLoop α) : Loop → α
  | .d1 => v.d1
  | .d2 => v.d2

def set (v : PerLoop α) (l : Loop) (x : α) : PerLoop α :=
  match l with
  | .d1 => { v with d1 := x }
  | .d2 => { v with d2 := x }

def ofFn (f : Loop → α) : PerLoop α := ⟨f .d1, f .d2⟩

end PerLoop

end Sys2Proof
end

