-- ==== Sys2Proof/Syntax.lean ====
section
/-! DEFINITION. The commands the station takes: one constructor for each row of spec/opcode_table.json, with the operands
the row's rule reads. Timer expiries carry no time: the moment of a command is the station time at which it is taken. -/

namespace Sys2Proof

/-- The feedback lines A and B of an actuator (R159). -/
inductive FeedbackLine where
  | a | b
deriving DecidableEq, Repr

/-- What R71's debounce works on: a loop, or the call point (R73). -/
inductive DebouncedInput where
  | loop (l : Loop)
  | callPoint
deriving DecidableEq, Repr

/-- The two service buttons (R81). -/
inductive ServiceButton where
  | openButton | closeButton
deriving DecidableEq, Repr

/-- A reading of the rain contact (R95). -/
inductive RainReading where
  | wet | dry | circuitOpen
deriving DecidableEq, Repr

/-- A vane line as measured (R92): its level, `true` for HIGH, and its supervision current in 0.1 mA. -/
structure VaneLine where
  high        : Bool
  supervision : Nat
deriving DecidableEq, Repr

/-- One sample of the vane's lines G3 to G0 (R92). -/
structure VaneSample where
  g3 : VaneLine
  g2 : VaneLine
  g1 : VaneLine
  g0 : VaneLine
deriving DecidableEq, Repr

/-- One reading of every switch contact: `true` is made (R79). -/
structure SwitchContacts where
  keyService    : Bool
  keyLockout    : Bool
  brigadeOpen   : Bool
  brigadeClose  : Bool
  openButton    : Bool
  closeButton   : Bool
  zoneResetKey  : Bool
deriving DecidableEq, Repr

/-- What a start reads (R191, steps 2 and 4): the rotary switches, the supply (battery in 0.1 V), the key contacts, the
rain contact and the BM input (in 0.01 V). -/
structure StartInputs where
  tens       : Nat
  units      : Nat
  mains      : Bool
  battery    : Nat
  keyService : Bool
  keyLockout : Bool
  rain       : RainReading
  bm         : Int
deriving DecidableEq, Repr

/-- A byte as the receiver takes it: its data bits, and whether its stop bit read 0 (R35). -/
structure RxByte where
  data         : Byte
  framingError : Bool
deriving DecidableEq, Repr

/-- The names of WRITE SETTING (R183, R188), each with the index it carries; `unknown` is a name not in the table. -/
inductive SettingName where
  | smokeZone | answerSet | resetRight | brigadePanel | brigadeZones | weatherReporter | anemoK | stormThreshold
  | comfortSource | bmEnable | fireOpening | unknownWindOpening | rainGap | confirmTime | debounce
  | loopDisable (index : Nat)
  | outputMap (index : Nat)
  | gangPairs (index : Nat)
  | facing (index : Nat)
  | stroke (index : Nat)
  | fullTime (index : Nat)
  | quietTime (index : Nat)
  | stall (index : Nat)
  | pinch (index : Nat)
  | unknown
deriving DecidableEq, Repr

/-- The commands, in the order of spec/opcode_table.json. Currents of the motion rows are in 0.1 A, loop currents in
0.1 mA, voltages in 0.1 V (battery) or 0.01 V (BM input); setting values are in the units they are stored in (R183).
LINE_BUSY is a start bit, and gives the byte it begins or leaves it to the row of the verdict; the rows of a verdict carry the
bytes that come after those the receiver holds, up to the verdict (log entry 12). -/
inductive Instr where
  | powerOnStart (inp : StartInputs)
  | restart
  | restartStart (inp : StartInputs)
  | status
  | peer (n : Nat)
  | zones
  | leaf (n : Nat)
  | wind
  | settings
  | writeSetting (name : SettingName) (value : Int)
  | move (n : Nat) (target : Int)
  | stopAll
  | reference (n : Nat)
  | clearCounters
  | unknownCommand
  | serviceReplySent
  | lineIdle
  | lineBusy (rx : Option RxByte := none)
  | backoffExpiry
  | byteReadback (rx : RxByte)
  | goodFrameReceived (rest : List Byte)
  | badFrame (rest : List RxByte)
  | provingTimerExpiry
  | holdoffExpiry
  | heartbeatExpiry
  | firstAttemptBegins
  | peerSilenceExpiry (address : Nat)
  | settledTimeReached
  | loopSample (d1 d2 : Nat)
  | callPointSample (current : Nat)
  | debounceExpiry (input : DebouncedInput)
  | confirmTimerExpiry (l : Loop)
  | powerOffExpiry
  | settleEnd
  | keySwitchChange
  | serviceButtonPress (b : ServiceButton)
  | zoneResetKeyPress
  | brigadeSwitchChange
  | bmSample (centivolts : Int)
  | resetFlashEnd
  | anemometerWindowEnd (vane : VaneSample)
  | rainReading (r : RainReading)
  | dryOffExpiry
  | clearHoldExpiry
  | classHoldExpiry (l : Leaf)
  | startingEnd (l : Leaf)
  | blankingEnd (o : Output)
  | travelTimeout (l : Leaf)
  | rundownEnd (l : Leaf)
  | reversalPauseEnd (l : Leaf)
  | retryHoldExpiry (l : Leaf)
  | closedSwitchMade (o : Output)
  | endCutOut (o : Output) (highest : Nat)
  | probingSliceEnd (o : Output)
  | overcurrent (o : Output) (current : Nat)
  | stall (o : Output) (lowest : Nat)
  | pinch (o : Output) (lowest : Nat)
  | feedbackEdge (o : Output) (line : FeedbackLine)
  | watchdogApplied (o : Output)
  | pulseWatchdogExpiry (o : Output) (current : Nat)
  | timedEstimateUpdate (o : Output)
  | probeSettleEnd (o : Output)
  | probePulseEnd (o : Output) (highest : Nat)
  | supplyReading (mains : Bool) (battery : Option Nat)
  | mainsAbsentExpiry
  | mainsPresentExpiry
  | lowTimerExpiry
  | recoveryExpiry
  | switchSample (c : SwitchContacts)
  | anemometerPulse
  | anemometerCircuitTest (current : Nat)
deriving DecidableEq, Repr

end Sys2Proof
end

