-- ==== Sys2Proof/Config.lean ====
section
/-! DEFINITION. What the specification leaves open, as constants without a body: no proof can see a value of theirs. -/

namespace Sys2Proof

/-- The two speeds of a run (R129). -/
inductive Speed where
  | full | quiet
deriving DecidableEq, Repr, Inhabited

/-- FREE VALUE (log entry 5): the `n`-th random number drawn by the station. R31's jitter and R36's backoff count are
this number reduced to the range the rule gives. -/
opaque Config.draw : Nat → Nat

/-- FREE VALUE (log entry 21): the speed whose stroke time a motor-on period has when it begins during the closing pulse
of a presence probe, where no run and so no speed stands (R163, R164, R170). -/
opaque Config.probePeriodSpeed : Speed

end Sys2Proof
end

