-- ==== Sys2Proof/Machine/State.lean ====
section
/-! DEFINITION. The state of the station, block by block, as plain data; the reasons a step can stop; the state before the
first start. Moments are station time in ms; a timer is the moment it began (`since`) or the moment it falls due (`due`). -/

namespace Sys2Proof.Machine

/-- Reasons a step can stop with a fault. The specification gives the station none: every event has an effect or is
without effect. Raised by nobody (safe). -/
inductive Fault where
deriving DecidableEq, Repr

/-- Reasons a command is refused. -/
inductive Refusal where
  /-- Raised by `exec` for a command that has no meaning yet; safe, since the model stops. -/
  | notModelled (mnemonic : String)
deriving DecidableEq, Repr

/-- `off`: no start has been made (log entry 6). `restartWait`: R192's wait for the RUNDOWNs. -/
inductive Phase where
  | off | running | restartWait
deriving DecidableEq, Repr

/-! ### Settings (R183) -/

/-- The settings as stored: one byte, or two where the range goes above 255, each as an unsigned number (R183). Currents
are in 0.1 A, times in s. -/
structure StoredSettings where
  smokeZone          : Byte
  answerSet          : Byte
  resetRight         : Byte
  brigadePanel       : Byte
  brigadeZones       : Byte
  weatherReporter    : Byte
  anemoK             : Byte
  stormThreshold     : Byte
  comfortSource      : Byte
  bmEnable           : Byte
  fireOpening        : BitVec 16
  unknownWindOpening : BitVec 16
  rainGap            : Byte
  confirmTime        : BitVec 16
  debounce           : Byte
  loopDisable        : PerLoop Byte
  outputMap          : Four Byte
  gangPair12         : Byte
  gangPair34         : Byte
  facing             : Four Byte
  stroke             : Four (BitVec 16)
  fullTime           : Four (BitVec 16)
  quietTime          : Four (BitVec 16)
  stall              : Four Byte
  pinch              : Four Byte
deriving DecidableEq, Repr

/-- The settings in force since the last start (R183, R185). `outputMap` names the logical leaf of each enabled output;
`gang12`, `gang34` say which pairs are kept as gangs (R128). -/
structure Settings where
  smokeZone          : Zone
  answerSet          : Byte
  resetRight         : Bool
  brigadePanel       : Bool
  brigadeZones       : Byte
  weatherReporter    : Bool
  anemoK             : Nat
  stormThreshold     : Nat
  comfortSource      : Nat
  bmEnable           : Bool
  fireOpening        : Nat
  unknownWindOpening : Nat
  rainGap            : Nat
  confirmTime        : Nat
  debounce           : Nat
  loopDisable        : PerLoop Bool
  outputMap          : Four (Option Leaf)
  gang12             : Bool
  gang34             : Bool
  facing             : Four Nat
  stroke             : Four Nat
  fullTime           : Four Nat
  quietTime          : Four Nat
  stall              : Four Nat
  pinch              : Four Nat
deriving DecidableEq, Repr

/-- The settings store and its flags (R183, R184, R188). -/
structure SettingsStore where
  stored    : StoredSettings
  checkWord : BitVec 16
  inForce   : Settings
  settingsPending : Bool    -- settings-pending
  adjusted  : Bool          -- SETTINGS_ADJUSTED
  defaulted : Bool          -- SETTINGS_DEFAULTED
deriving DecidableEq, Repr

/-! ### Bay reports (R20 to R29) -/

inductive Condition where
  | running | atService
deriving DecidableEq, Repr

structure ReportFlags where
  fire     : Bool
  isolated : Bool
  degraded : Bool
  battery  : Bool
  low      : Bool
  lockout  : Bool
deriving DecidableEq, Repr

inductive Rain where
  | dry | wet | unknown
deriving DecidableEq, Repr

structure WeatherPart where
  speed  : Nat
  sector : Nat
  rain   : Rain
deriving DecidableEq, Repr

/-- The positions of a brigade switch that make an override (R15). -/
inductive OverrideAction where
  | actOpen | actClose
deriving DecidableEq, Repr

/-- An override: the own override record (R15), and the override part of a report (R24). -/
structure Override where
  action  : OverrideAction
  zoneSet : Byte
  epoch   : Nat
deriving DecidableEq, Repr

/-- Governing slots (R109, R120), lowest rank of the start queue first (R133). -/
inductive Slot where
  | none | comfort | rain | storm | service | fire | brigade
deriving DecidableEq, Repr

inductive Summary where
  | unref | idle | moving | out
deriving DecidableEq, Repr

/-- A leaf entry (R26); `position = none` is the unknown code. -/
structure LeafEntry where
  leaf          : Leaf
  position      : Option Nat
  summary       : Summary
  slot          : Slot
  atTarget      : Bool
  estimated     : Bool
  lastRunFailed : Bool
deriving DecidableEq, Repr

/-- A bay report (R20 to R26). `smokeZone` is the four-bit field as sent. -/
structure Report where
  source       : Nat
  sequence     : Byte
  condition    : Condition
  flags        : ReportFlags
  smokeZone    : Nat
  origin       : Bool
  latchSet     : Byte
  marks        : PerZone Byte
  weather      : Option WeatherPart
  comfort      : Option Nat
  overridePart : Option Override
  leaves       : List LeafEntry
deriving DecidableEq, Repr

/-- The report composer (chapter 2). `heartbeatDue` and `holdoffEnds` are the running timers. -/
structure Composer where
  lastComposed : Option Report
  ownSequence  : Byte
  heartbeatDue : Option Nat
  holdoffEnds  : Option Nat
deriving DecidableEq, Repr

/-! ### Line interface (chapter 3) -/

inductive MuteReason where
  | addressConflict | addressInvalid
deriving DecidableEq, Repr

inductive JoinState where
  | listen | running
  | mute (reason : MuteReason)
deriving DecidableEq, Repr

/-- The proving timer and counts, which exist only in LISTEN (R48). -/
structure Proving where
  due           : Nat
  badFrames     : Nat
  failedPeriods : Nat
deriving DecidableEq, Repr

/-- Where an attempt stands (R36 to R38): waiting for IDLE; counting out `r` slots of 500 us; transmitting, with the index
of the byte to be read back next. -/
inductive AttemptPhase where
  | waitingIdle
  | backoff (r : Nat) (since : Nat)
  | transmitting (next : Nat)
deriving DecidableEq, Repr

/-- The attempt series in flight: the frame, the attempt number 1..5, the backoff window W, the phase. -/
structure Series where
  frame   : List Byte
  attempt : Nat
  window  : Nat
  phase   : AttemptPhase
deriving DecidableEq, Repr

/-- R40: hunting; assembling a frame; discarding until the line is IDLE (a judged or complete frame, or own echo, R43). -/
inductive Receiver where
  | hunting | assembling | discarding
deriving DecidableEq, Repr

structure FrameCounters where
  good             : Nat
  bad              : Nat
  sent             : Nat
  collisions       : Nat
  transmitFailures : Nat
deriving DecidableEq, Repr

/-- The line interface. `rxBytes` are the bytes of the frame being assembled (R40). -/
structure LineInterface where
  ownAddress   : Nat
  join         : JoinState
  proving      : Option Proving
  series       : Option Series
  receiver     : Receiver
  rxBytes      : List RxByte
  busy         : Bool
  lastByte     : Nat
  errorCounter : Nat
  goodRun      : Nat
  degraded     : Bool
  counters     : FrameCounters
  pendingSlot  : Option Bool        -- the pending-report slot: a report due, with its urgency (R32)
deriving DecidableEq, Repr

/-! ### Peer table (chapter 4) -/

structure PeerWeather where
  speed   : Nat
  sector  : Nat
  rain    : Rain
  updated : Nat
deriving DecidableEq, Repr

/-- The fields of a FRESH or LOST record (R54). -/
structure PeerContent where
  lastSequence : Byte
  lastHeard    : Nat
  missScore    : Nat
  goodRun      : Nat
  reliable     : Bool
  condition    : Condition
  flags        : ReportFlags
  smokeZone    : Nat
  origin       : Bool
  latchSet     : Byte
  marks        : PerZone Byte
  weather      : Option PeerWeather
  comfort      : Option Nat
  overridePart : Option Override
  leaves       : List LeafEntry
deriving DecidableEq, Repr

/-- A record's status with what it holds: an ABSENT record holds its status alone (R54). -/
inductive PeerStatus where
  | absent
  | fresh (c : PeerContent)
  | lost (c : PeerContent)
deriving DecidableEq, Repr

structure PeerRecord where
  address : Nat
  status  : PeerStatus
deriving DecidableEq, Repr

/-- The records in ascending address order (R53), ISOLATED, and the moment the settled time began (R66). -/
structure PeerTable where
  records     : List PeerRecord
  isolated    : Bool
  settledFrom : Option Nat
deriving DecidableEq, Repr

/-! ### Detection unit (chapter 5) -/

/-- The four current bands of R70. For the call point `alarm` is OPERATED (R73). -/
inductive Band where
  | opened | normal | alarm | shorted
deriving DecidableEq, Repr

inductive LoopState where
  | normal | alarm | opened | shorted | disabled | resetting
deriving DecidableEq, Repr

/-- A candidate class with the time it appeared (R71). -/
structure Candidate where
  band  : Band
  since : Nat
deriving DecidableEq, Repr

inductive ConfirmTimer where
  | cleared
  | running (since : Nat)
  | expired
deriving DecidableEq, Repr

structure LoopRecord where
  state     : LoopState
  candidate : Option Candidate
  current   : Nat
  confirm   : ConfirmTimer
  hidden    : Option Band           -- the hidden class, during SETTLE (R78)
deriving DecidableEq, Repr

structure CallPoint where
  state     : Band
  candidate : Option Candidate
  current   : Nat
deriving DecidableEq, Repr

inductive LocalDetection where
  | quiet | preAlarm | alarm
deriving DecidableEq, Repr

inductive LoopReset where
  | none
  | powerOff (since : Nat)
  | settle (since : Nat)
deriving DecidableEq, Repr

/-- A reading of the key switch (R79, R80). -/
inductive KeyReading where
  | auto | service | lockout | faultCode
deriving DecidableEq, Repr

/-- A reading of the brigade switch (R79, R83). -/
inductive BrigadeReading where
  | auto | openPos | closePos | faultCode
deriving DecidableEq, Repr

/-- A two-contact switch: the reading held, and the new reading with the moment it appeared (R79). -/
structure SwitchRecord (α : Type) where
  held  : α
  hold  : Option (α × Nat)
deriving DecidableEq, Repr

/-- A single contact: made or released, and the moment the opposite reading appeared (R79). -/
structure ContactRecord where
  made : Bool
  hold : Option Nat
deriving DecidableEq, Repr

inductive ServiceDirection where
  | none | opening | closing
deriving DecidableEq, Repr

structure Detection where
  loops          : PerLoop LoopRecord
  callPoint      : CallPoint
  localState     : LocalDetection
  loopReset      : LoopReset
  key            : SwitchRecord KeyReading
  brigade        : SwitchRecord BrigadeReading
  firstReading   : Bool             -- whether the first contact reading since the start has been taken
  openButton     : ContactRecord
  closeButton    : ContactRecord
  zoneResetKey   : ContactRecord
  direction      : ServiceDirection
  heldStep       : Option Nat
  flashSince     : Option Nat       -- the refusal flash of the RESET lamp (R86)
deriving DecidableEq, Repr

/-! ### Zone logic (chapter 1) -/

inductive ZoneState where
  | clear | latched | pending
deriving DecidableEq, Repr

inductive LatchSource where
  | none | own
  | peer (address : Nat)
deriving DecidableEq, Repr

structure ZoneRecord where
  state  : ZoneState
  mark   : Byte
  source : LatchSource
deriving DecidableEq, Repr

structure ZoneLogic where
  records     : PerZone ZoneRecord
  ownOverride : Option Override
  remembered  : Nat
  brigade     : Option OverrideAction    -- the last resolution result (R19)
deriving DecidableEq, Repr

/-! ### Weather unit (chapter 6) -/

structure GoverningWind where
  speed  : Nat
  sector : Nat
  source : Nat
deriving DecidableEq, Repr

inductive Basis where
  | primary | fallback | none
deriving DecidableEq, Repr

inductive SideClass where
  | windward | cross | leeward | undecided
deriving DecidableEq, Repr

structure SideRecord where
  applied      : SideClass
  pendingClass : Option (SideClass × Nat)
deriving DecidableEq, Repr

structure Weather where
  windowStart   : Nat
  windowCount   : Nat
  windowOpen    : Bool              -- the anemometer circuit was found open in the present window (R91)
  speedWindow   : List Nat
  sectorWindow  : List Nat
  anemoFault    : Bool
  vaneFault     : Bool
  rainState     : Rain
  dryOffSince   : Option Nat
  rainFault     : Bool
  governing     : Option GoverningWind
  basis         : Basis
  governingRain : Rain
  stormActive   : Bool
  clearSince    : Option Nat
  sides         : Four SideRecord
deriving DecidableEq, Repr

/-! ### Demand resolver (chapter 7) and drive controller (chapter 8) -/

/-- What a demand table holds beside the slots, which are formed at each evaluation (R109, R113, R119). -/
structure DemandTable where
  serviceTarget : Option Nat
  restPosition  : Option Nat
deriving DecidableEq, Repr

/-- A target with its governing slot, or no target (R123). -/
structure Pair where
  target : Option Nat
  slot   : Slot
deriving DecidableEq, Repr

inductive Motion where
  | absent | unref | idle | waiting | starting | running | rundown | probing | outOfService
deriving DecidableEq, Repr

inductive Dir where
  | opening | closing
deriving DecidableEq, Repr

inductive RunFault where
  | stall | pinch | overcurrent | travelTimeout | closeUnconfirmed | openUnconfirmed
deriving DecidableEq, Repr

/-- A retry hold: its period in ms, and its beginning (R150). -/
structure RetryHold where
  period : Nat
  since  : Nat
deriving DecidableEq, Repr

/-- How a run in RUNDOWN goes on (R142, R148, R149). `stopped`: stop by retarget, preemption or reversal. `halted`: stop
by LOCKOUT, LOW or a RESTART, after which the leaf comes to rest. -/
inductive Ending where
  | clean
  | fault (f : RunFault)
  | pinched
  | stopped
  | halted
deriving DecidableEq, Repr

/-- The stage of a run (R130); PROBING is a member's, inside `running`. -/
inductive Stage where
  | starting (due : Nat)
  | running
  | rundown (due : Nat) (ending : Ending)
deriving DecidableEq, Repr

inductive RunKind where
  | normal | unref | reference
deriving DecidableEq, Repr

/-- A run in flight (R129, R137). `members` are the leaves that take part, so their number is the slots it holds (R134).
`slot` is the governing slot of the run. `pinchFrom`: when the pinch check of this run began by a slot change (R148). -/
structure Run where
  kind       : RunKind
  backoff    : Bool
  target     : Nat
  direction  : Dir
  speed      : Speed
  slot       : Slot
  stage      : Stage
  timeoutDue : Option Nat
  members    : List Leaf
  pinchFrom  : Nat
deriving DecidableEq, Repr

inductive UnitStatus where
  | rest
  | waiting (entryTime : Nat)
  | inFlight (r : Run)
deriving DecidableEq, Repr

/-- The part of the leaf record that a single leaf has, or a gang once, under its leader (R128, R129). `reversal`: the
direction of the last run and the end of its reversal pause, until it has run out (R135). -/
structure UnitRecord where
  pair          : Pair
  status        : UnitStatus
  lastDirection : Option Dir
  failureCount  : Nat
  lastFault     : Option RunFault
  lastRunFailed : Bool
  retryHold     : Option RetryHold
  fireOwed      : Bool
  referenceOwed : Bool
  reversal      : Option (Dir × Nat)
deriving DecidableEq, Repr

/-- A member in RUNNING (R152): driving; held for synchronisation; held at its arrival or end. -/
inductive MemberHold where
  | driving | syncHeld | done
deriving DecidableEq, Repr

/-- The current checks of a member (R137, R147): off; blanked until `due`; applied since a moment. -/
inductive Checks where
  | off
  | blanking (due : Nat)
  | applied (since : Nat)
deriving DecidableEq, Repr

/-- A probing slice in progress (R144): its number 1 or 2, and its end. -/
structure Slice where
  number : Nat
  due    : Nat
deriving DecidableEq, Repr

/-- The part of a run that each member has on its own (R128, R152, R165). -/
structure MemberRecord where
  motorOn    : Bool
  hold       : MemberHold
  switchedOn : Nat
  checks     : Checks
  slice      : Option Slice
  switchMade : Bool
deriving DecidableEq, Repr

/-! ### Feedback unit (chapter 9) -/

inductive Presence where
  | unprobed | present | absent
deriving DecidableEq, Repr

inductive FeedbackMode where
  | pulse | timed
deriving DecidableEq, Repr

/-- The motor-on period in progress (R164): its base, its beginning, and the speed whose stroke time it has. -/
structure Period where
  base  : Nat
  since : Nat
  speed : Speed
deriving DecidableEq, Repr

/-- A presence probe (R170). -/
inductive Probe where
  | none | requested
  | settle (due : Nat)
  | pulse (due : Nat)
deriving DecidableEq, Repr

structure FeedbackRecord where
  presence : Presence
  mode     : FeedbackMode
  count    : Option Nat
  estimate : Option Nat
  lastLine : Option FeedbackLine
  watchdog : Option Nat             -- running since this moment; none: not applied (R161)
  period   : Option Period
  drift    : Nat
  probe    : Probe
deriving DecidableEq, Repr

/-! ### Supply monitor and field outputs (chapter 10) -/

inductive SupplyState where
  | mains | battery | low
deriving DecidableEq, Repr

structure Supply where
  state             : SupplyState
  mainsAbsentSince  : Option Nat
  mainsPresentSince : Option Nat
  lowSince          : Option Nat
  recoverySince     : Option Nat
  mains             : Bool
  battery           : Nat
deriving DecidableEq, Repr

/-- A lamp: dark, lit, or flashing, lit for `half` ms and dark for `half` ms in turn, lit first from the station time `since`
(5.6, R85, R86; log entry 35). -/
inductive Lamp where
  | dark | lit
  | flashing (half since : Nat)
deriving DecidableEq, Repr

/-- An actuator output: motor and direction relay off; the relay set with the motor off; the motor driven. -/
inductive Drive where
  | off
  | relaySet (d : Dir)
  | driven (d : Dir)
deriving DecidableEq, Repr

/-- The pins (signal summary of 00): relays (`true` is energised), lamps, actuator outputs, loop power, line driver. -/
structure Pins where
  alarmRelay        : Bool
  faultRelay        : Bool
  confirmationRelay : Bool
  alarmLamp         : Lamp
  faultLamp         : Lamp
  fireLamp          : Lamp
  resetLamp         : Lamp
  outputs           : Four Drive
  loopPower         : PerLoop Bool
  lineDriver        : Bool
deriving DecidableEq, Repr

/-- The arbiter's state (R133, R134). -/
structure Arbiter where
  queue     : List Leaf
  slotCount : Nat
  slotsHeld : Nat
deriving DecidableEq, Repr

/-- What the drive controller shows of a leaf (R157). -/
structure LeafView where
  motion     : Motion
  referenced : Bool
  position   : Option Nat
  atTarget   : Bool
deriving DecidableEq, Repr

/-! ### Service port (chapter 11) -/

inductive RefusalReason where
  | notInService | busy | fireActive | badValue | badLeaf
deriving DecidableEq, Repr

/-- Every fault cause of R179. -/
structure FaultCauses where
  loopFault       : Bool
  callPointFault  : Bool
  keyFault        : Bool
  brigadeFault    : Bool
  anemoFault      : Bool
  vaneFault       : Bool
  rainFault       : Bool
  leafFault       : Bool
  supplyLow       : Bool
  lineDegraded    : Bool
  isolated        : Bool
  mute            : Bool
  adjusted        : Bool
  defaulted       : Bool
deriving DecidableEq, Repr

/-- The times the qualification timers have run (R177). -/
structure SupplyTimers where
  mainsAbsent  : Option Nat
  mainsPresent : Option Nat
  low          : Option Nat
  recovery     : Option Nat
deriving DecidableEq, Repr

/-- The data of STATUS (R187). Times are the times still to run or run, as R48 and R177 say. -/
structure StatusData where
  join           : JoinState
  provingLeft    : Option Nat
  provingCounts  : Option (Nat × Nat)
  ownAddress     : Nat
  ownSequence    : Byte
  slotFull       : Bool
  errorCounter   : Nat
  goodRun        : Nat
  degraded       : Bool
  counters       : FrameCounters
  isolated       : Bool
  fire           : Bool
  localState     : LocalDetection
  loopCurrents   : PerLoop Nat
  loopStates     : PerLoop LoopState
  callPoint      : Band
  supply         : SupplyState
  mains          : Bool
  battery        : Nat
  supplyTimers   : SupplyTimers
  alarmRelay     : Bool
  faultRelay     : Bool
  confirmation   : Bool
  causes         : FaultCauses
  drift          : Four (Option Nat)
  settingsPending : Bool
  adjusted       : Bool
  defaulted      : Bool
deriving DecidableEq, Repr

inductive StatusName where
  | absent | fresh | lost
deriving DecidableEq, Repr

/-- The data of PEER (R69): the status; for a FRESH or LOST record its fields, with the ages of the last-heard time and of
the weather's value-update time. -/
structure PeerData where
  status     : StatusName
  content    : Option PeerContent
  heardAge   : Option Nat
  weatherAge : Option Nat
deriving DecidableEq, Repr

structure ZonesData where
  records     : PerZone ZoneRecord
  ownOverride : Option Override
  remembered  : Nat
  brigade     : Option OverrideAction
deriving DecidableEq, Repr

/-- The six slots of a demand table: a present slot holds its value (R109). -/
structure SlotValues where
  brigade : Option Nat
  fire    : Option Nat
  service : Option Nat
  comfort : Option Nat
  storm   : Option Nat
  rain    : Option Nat
deriving DecidableEq, Repr

structure SideData where
  leaf         : Leaf
  facing       : Nat
  computed     : SideClass
  applied      : SideClass
  pendingClass : Option (SideClass × Nat)
deriving DecidableEq, Repr

/-- The data of LEAF (R126, R157, R173): the leaf record, the feedback record, the table that serves the leaf, its side
record. -/
structure LeafData where
  leaf           : Leaf
  tableLeader    : Leaf
  view           : LeafView
  unitRecord     : UnitRecord
  member         : MemberRecord
  retryLeft      : Option Nat
  queuePlace     : Option Nat
  slotCount      : Nat
  slotsHeld      : Nat
  feedback       : FeedbackRecord
  watchdogRun    : Option Nat
  periodRun      : Option Nat
  slots          : SlotValues
  serviceTarget  : Option Nat
  restPosition   : Option Nat
  comfortRecord  : Option StatusName
  lastPair       : Pair
  side           : SideData
deriving DecidableEq, Repr

/-- What WIND shows of a reporter alone (R107). -/
structure ReporterData where
  speedWindow    : List Nat
  sectorWindow   : List Nat
  reportedSpeed  : Option Nat
  reportedSector : Option Nat
  rainState      : Rain
  dryOffRun      : Option Nat
  anemoFault     : Bool
  vaneFault      : Bool
  rainFault      : Bool
  offered        : Bool
deriving DecidableEq, Repr

/-- The data of WIND (R107). -/
structure WindData where
  governing     : Option GoverningWind
  calm          : Bool
  basis         : Basis
  governingRain : Rain
  stormActive   : Bool
  clearLimit    : Nat
  clearRun      : Option Nat
  reporter      : Option ReporterData
  sides         : List SideData
deriving DecidableEq, Repr

inductive ReplyData where
  | none
  | status (d : StatusData)
  | peer (d : PeerData)
  | zones (d : ZonesData)
  | leaf (d : LeafData)
  | wind (d : WindData)
  | settings (stored : StoredSettings) (inForce : Settings)
deriving DecidableEq, Repr

/-- A reply of the service port (R186). -/
inductive Reply where
  | ok (d : ReplyData)
  | refused (r : RefusalReason)
deriving DecidableEq, Repr

/-- The reply being sent (the port is busy while there is one), and whether a RESTART accepted by it is to be taken. -/
structure ServicePort where
  sending        : Option Reply
  restartPending : Bool
deriving DecidableEq, Repr

/-! ### The station -/

structure State where
  now       : Nat
  phase     : Phase
  pending   : List Instr
  draws     : Nat
  store     : SettingsStore
  line      : LineInterface
  composer  : Composer
  peers     : PeerTable
  detection : Detection
  zones     : ZoneLogic
  weather   : Weather
  tables    : Four DemandTable
  units     : Four UnitRecord
  members   : Four MemberRecord
  feedback  : Four FeedbackRecord
  supply    : Supply
  port      : ServicePort
  pins      : Pins
  arbiter   : Arbiter
  views     : Four LeafView
deriving DecidableEq, Repr

/-! ### Starting values -/

/-- The defaults of R183, as they are stored. -/
def StoredSettings.defaults : StoredSettings where
  smokeZone := 1#8
  answerSet := 1#8
  resetRight := 0#8
  brigadePanel := 0#8
  brigadeZones := 1#8
  weatherReporter := 0#8
  anemoK := 70#8
  stormThreshold := 140#8
  comfortSource := 0#8
  bmEnable := 0#8
  fireOpening := 1000#16
  unknownWindOpening := 1000#16
  rainGap := 0#8
  confirmTime := 120#16
  debounce := 2#8
  loopDisable := ⟨0#8, 0#8⟩
  outputMap := ⟨1#8, 2#8, 3#8, 4#8⟩
  gangPair12 := 0#8
  gangPair34 := 0#8
  facing := Four.const 0#8
  stroke := Four.const 4800#16
  fullTime := Four.const 60#16
  quietTime := Four.const 120#16
  stall := Four.const 25#8
  pinch := Four.const 16#8

/-- The check word of the defaults (R183); that it is their CRC is shown in the tests. -/
def StoredSettings.defaultsCheckWord : BitVec 16 := 0x5AF8#16

/-- The defaults of R183 in force. -/
def Settings.defaults : Settings where
  smokeZone := .z1
  answerSet := 1#8
  resetRight := false
  brigadePanel := false
  brigadeZones := 1#8
  weatherReporter := false
  anemoK := 70
  stormThreshold := 140
  comfortSource := 0
  bmEnable := false
  fireOpening := 1000
  unknownWindOpening := 1000
  rainGap := 0
  confirmTime := 120
  debounce := 2
  loopDisable := ⟨false, false⟩
  outputMap := ⟨some .n1, some .n2, some .n3, some .n4⟩
  gang12 := false
  gang34 := false
  facing := Four.const 0
  stroke := Four.const 4800
  fullTime := Four.const 60
  quietTime := Four.const 120
  stall := Four.const 25
  pinch := Four.const 16

def SettingsStore.factory : SettingsStore where
  stored := .defaults
  checkWord := StoredSettings.defaultsCheckWord
  inForce := .defaults
  settingsPending := false
  adjusted := false
  defaulted := false

def LineInterface.atStart : LineInterface where
  ownAddress := 0
  join := .listen
  proving := none
  series := none
  receiver := .hunting
  rxBytes := []
  busy := true
  lastByte := 0
  errorCounter := 0
  goodRun := 0
  degraded := false
  counters := ⟨0, 0, 0, 0, 0⟩
  pendingSlot := none

def Composer.atStart : Composer where
  lastComposed := none
  ownSequence := 255#8
  heartbeatDue := none
  holdoffEnds := none

def PeerTable.atStart : PeerTable where
  records := []
  isolated := false
  settledFrom := none

def LoopRecord.atStart (disabled : Bool) : LoopRecord where
  state := if disabled then .disabled else .normal
  candidate := none
  current := 0
  confirm := .cleared
  hidden := none

def Detection.atStart : Detection where
  loops := ⟨.atStart false, .atStart false⟩
  callPoint := ⟨.normal, none, 0⟩
  localState := .quiet
  loopReset := .none
  key := ⟨.auto, none⟩
  brigade := ⟨.auto, none⟩
  firstReading := false
  openButton := ⟨false, none⟩
  closeButton := ⟨false, none⟩
  zoneResetKey := ⟨false, none⟩
  direction := .none
  heldStep := none
  flashSince := none

def ZoneRecord.atStart : ZoneRecord := ⟨.clear, 0#8, .none⟩

def ZoneLogic.atStart : ZoneLogic where
  records := PerZone.ofFn fun _ => .atStart
  ownOverride := none
  remembered := 0
  brigade := none

def Weather.atStart : Weather where
  windowStart := 0
  windowCount := 0
  windowOpen := false
  speedWindow := []
  sectorWindow := []
  anemoFault := false
  vaneFault := false
  rainState := .unknown
  dryOffSince := none
  rainFault := false
  governing := none
  basis := .none
  governingRain := .unknown
  stormActive := true
  clearSince := none
  sides := Four.const ⟨.undecided, none⟩

def UnitRecord.atStart : UnitRecord where
  pair := ⟨none, .none⟩
  status := .rest
  lastDirection := none
  failureCount := 0
  lastFault := none
  lastRunFailed := false
  retryHold := none
  fireOwed := false
  referenceOwed := false
  reversal := none

def MemberRecord.atStart : MemberRecord where
  motorOn := false
  hold := .driving
  switchedOn := 0
  checks := .off
  slice := none
  switchMade := false

def FeedbackRecord.atStart : FeedbackRecord where
  presence := .unprobed
  mode := .pulse
  count := none
  estimate := none
  lastLine := none
  watchdog := none
  period := none
  drift := 0
  probe := .none

def Supply.atStart : Supply where
  state := .mains
  mainsAbsentSince := none
  mainsPresentSince := none
  lowSince := none
  recoverySince := none
  mains := true
  battery := 0

/-- Relays released, lamps dark, outputs off (R191, step 1). -/
def Pins.allOff : Pins where
  alarmRelay := false
  faultRelay := false
  confirmationRelay := false
  alarmLamp := .dark
  faultLamp := .dark
  fireLamp := .dark
  resetLamp := .dark
  outputs := Four.const .off
  loopPower := ⟨false, false⟩
  lineDriver := false

def LeafView.atStart : LeafView := ⟨.unref, false, none, false⟩

/-- Every block at its power-on value (R191, step 1), before any input is read. -/
def State.powerOnValues (now draws : Nat) (pending : List Instr) (store : SettingsStore) (phase : Phase) : State where
  now := now
  phase := phase
  pending := pending
  draws := draws
  store := store
  line := .atStart
  composer := .atStart
  peers := .atStart
  detection := .atStart
  zones := .atStart
  weather := .atStart
  tables := Four.const ⟨none, none⟩
  units := Four.const .atStart
  members := Four.const .atStart
  feedback := Four.const .atStart
  supply := .atStart
  port := ⟨none, false⟩
  pins := .allOff
  arbiter := ⟨[], 3, 0⟩
  views := Four.const .atStart

/-- The station before its first start (log entry 6), with the factory store (log entry 7) and an empty queue. -/
def State.reset : State := .powerOnValues 0 0 [] .factory .off

end Sys2Proof.Machine
end

