-- ==== Sys2Proof/Machine/Frame.lean ====
section
/-! DEFINITION. The frame of the Vent Line: check word (R28), layout (R27), how codes no station sends are taken (R29), and
the findings that make a received frame bad (R41). -/

namespace Sys2Proof.Machine

/-! ### Check word (R28) -/

/-- One shift of the register: generator x^16 + x^12 + x^5 + 1. -/
def crcShift (r : BitVec 16) : BitVec 16 :=
  if r.msb then (r <<< 1) ^^^ 0x1021#16 else r <<< 1

/-- One byte, most significant bit first. -/
def crcByte (r : BitVec 16) (b : Byte) : BitVec 16 :=
  crcShift (crcShift (crcShift (crcShift (crcShift (crcShift (crcShift (crcShift
    (r ^^^ (b.zeroExtend 16 <<< 8)))))))))

/-- The check word of a list of bytes: register start 0xFFFF, no reflection, no final inversion. -/
def crc16 (bytes : List Byte) : BitVec 16 := bytes.foldl crcByte 0xFFFF#16

def highByte (w : BitVec 16) : Byte := w.extractLsb' 8 8
def lowByte (w : BitVec 16) : Byte := w.extractLsb' 0 8

/-- Two bytes, most significant first. -/
def word16Bytes (n : Nat) : List Byte := [highByte (BitVec.ofNat 16 n), lowByte (BitVec.ofNat 16 n)]

def fromBytes (h l : Byte) : Nat := h.toNat * 256 + l.toNat

/-! ### Composing a frame (R27) -/

def bitOf (b : Bool) (n : Nat) : Nat := if b then 2 ^ n else 0

def Report.flagByte (r : Report) : Byte :=
  BitVec.ofNat 8 (bitOf (r.condition = .atService) 7 + bitOf r.flags.fire 5 + bitOf r.flags.isolated 4
    + bitOf r.flags.degraded 3 + bitOf r.flags.battery 2 + bitOf r.flags.low 1 + bitOf r.flags.lockout 0)

def Report.presenceByte (r : Report) : Byte :=
  BitVec.ofNat 8 (bitOf r.weather.isSome 7 + bitOf r.comfort.isSome 6 + bitOf r.overridePart.isSome 5
    + r.leaves.length)

def Rain.code : Rain → Nat
  | .dry => 0
  | .wet => 1
  | .unknown => 2

def OverrideAction.code : OverrideAction → Nat
  | .actOpen => 1
  | .actClose => 2

def Summary.code : Summary → Nat
  | .unref => 0
  | .idle => 1
  | .moving => 2
  | .out => 3

/-- The code of a governing slot in a leaf entry (R27). -/
def Slot.code : Slot → Nat
  | .none => 0
  | .comfort => 1
  | .service => 2
  | .rain => 3
  | .storm => 4
  | .fire => 5
  | .brigade => 6

def weatherBytes (w : WeatherPart) : List Byte :=
  word16Bytes w.speed ++ [BitVec.ofNat 8 w.sector, BitVec.ofNat 8 w.rain.code]

def overrideBytes (o : Override) : List Byte :=
  [BitVec.ofNat 8 o.action.code, o.zoneSet] ++ word16Bytes o.epoch

/-- The unknown code of a position is 65535 (R27). -/
def positionCode (p : Option Nat) : Nat := p.getD 65535

def LeafEntry.stateByte (e : LeafEntry) : Byte :=
  BitVec.ofNat 8 (e.summary.code * 64 + e.slot.code * 8 + bitOf e.atTarget 2 + bitOf e.estimated 1
    + bitOf e.lastRunFailed 0)

def leafBytes (e : LeafEntry) : List Byte :=
  [BitVec.ofNat 8 e.leaf.number] ++ word16Bytes (positionCode e.position) ++ [e.stateByte]

/-- The body: byte 2 of the frame through the last body byte. -/
def Report.body (r : Report) : List Byte :=
  [BitVec.ofNat 8 r.source, r.sequence, r.flagByte,
    BitVec.ofNat 8 (bitOf r.origin 7 + r.smokeZone), r.latchSet]
  ++ r.marks.toList ++ [r.presenceByte]
  ++ (r.weather.map weatherBytes).getD []
  ++ (r.comfort.map fun c => [BitVec.ofNat 8 c]).getD []
  ++ (r.overridePart.map overrideBytes).getD []
  ++ (r.leaves.map leafBytes).flatten

/-- The start delimiter (R27). -/
def delimiter : Byte := 0xC3#8

/-- The whole frame: delimiter, length, body, check word over length and body (R27, R28). -/
def encodeFrame (r : Report) : List Byte :=
  let counted := BitVec.ofNat 8 r.body.length :: r.body
  delimiter :: counted ++ [highByte (crc16 counted), lowByte (crc16 counted)]

/-! ### Taking a frame (R27, R29) -/

def rainOf (b : Byte) : Rain :=
  if b = 0#8 then .dry else if b = 1#8 then .wet else .unknown

/-- The weather part at the bytes `speed, speed, sector, rain`: a sector above 15 makes it absent, a speed above 600 is
taken as 600 (R29). -/
def takeWeather (h l sector rain : Byte) : Option WeatherPart :=
  if sector.toNat ≤ 15 then some ⟨min (fromBytes h l) 600, sector.toNat, rainOf rain⟩ else none

def takeOverride (action set h l : Byte) : Option Override :=
  if fromBytes h l = 0 then none
  else if action = 1#8 then some ⟨.actOpen, set, fromBytes h l⟩
  else if action = 2#8 then some ⟨.actClose, set, fromBytes h l⟩
  else none

def takePosition (h l : Byte) : Option Nat :=
  if fromBytes h l ≤ 1000 then some (fromBytes h l) else none

def summaryOf (n : Nat) : Summary :=
  if n = 0 then .unref else if n = 1 then .idle else if n = 2 then .moving else .out

def slotOf (n : Nat) : Slot :=
  match n with
  | 1 => .comfort
  | 2 => .service
  | 3 => .rain
  | 4 => .storm
  | 5 => .fire
  | 6 => .brigade
  | _ => .none

def takeLeaf (number h l st : Byte) : Option LeafEntry :=
  (N4.ofNumber? number.toNat).map fun leaf =>
    { leaf := leaf
      position := takePosition h l
      summary := summaryOf (st.toNat / 64)
      slot := slotOf (st.toNat / 8 % 8)
      atTarget := st.getLsbD 2
      estimated := st.getLsbD 1
      lastRunFailed := st.getLsbD 0 }

/-- The leaf entries in frame order; an entry whose number is invalid, or used by an earlier entry, is dropped (R29). -/
def takeLeaves : Nat → List Byte → List LeafEntry → List LeafEntry
  | n + 1, a :: h :: l :: st :: rest, acc =>
    match takeLeaf a h l st with
    | some e => takeLeaves n rest (if acc.any (fun x => x.leaf = e.leaf) then acc else acc ++ [e])
    | none => takeLeaves n rest acc
  | _, _, acc => acc

def hasWeather (presence : Byte) : Bool := presence.getLsbD 7
def hasComfort (presence : Byte) : Bool := presence.getLsbD 6
def hasOverride (presence : Byte) : Bool := presence.getLsbD 5
def entryCount (presence : Byte) : Nat := presence.toNat % 8

/-- The four bytes of a list from an offset on, 0 past its end (a checked frame has them all). -/
def byteAt (f : List Byte) (i : Nat) : Byte := f.getD i 0#8

def takeFlags (b : Byte) : ReportFlags where
  fire := b.getLsbD 5
  isolated := b.getLsbD 4
  degraded := b.getLsbD 3
  battery := b.getLsbD 2
  low := b.getLsbD 1
  lockout := b.getLsbD 0

/-- The report a checked frame carries, its codes taken as R29 says. -/
def decodeFrame (f : List Byte) : Report :=
  let presence := byteAt f 15
  let w := 16
  let c := w + if hasWeather presence then 4 else 0
  let o := c + if hasComfort presence then 1 else 0
  let e := o + if hasOverride presence then 4 else 0
  { source := (byteAt f 2).toNat
    sequence := byteAt f 3
    condition := if (byteAt f 4).getLsbD 7 then .atService else .running
    flags := takeFlags (byteAt f 4)
    smokeZone := (byteAt f 5).toNat % 16
    origin := (byteAt f 5).getLsbD 7
    latchSet := byteAt f 6
    marks := ⟨byteAt f 7, byteAt f 8, byteAt f 9, byteAt f 10, byteAt f 11, byteAt f 12, byteAt f 13, byteAt f 14⟩
    weather := if hasWeather presence
      then takeWeather (byteAt f w) (byteAt f (w + 1)) (byteAt f (w + 2)) (byteAt f (w + 3)) else none
    comfort := if hasComfort presence then some (min (byteAt f c).toNat 100) else none
    overridePart := if hasOverride presence
      then takeOverride (byteAt f o) (byteAt f (o + 1)) (byteAt f (o + 2)) (byteAt f (o + 3)) else none
    leaves := takeLeaves (entryCount presence) (f.drop e) [] }

/-! ### Reception checks (R41) -/

/-- The findings that judge a frame bad while its bytes arrive. The early end at a gap is judged at LINE_IDLE. -/
inductive BadFinding where
  | framing | startDelimiter | lengthRange | consistency | checkWord | sourceAddress
deriving DecidableEq, Repr

/-- L of a consistent frame, from byte 15 (R27). -/
def consistentLength (presence : Byte) : Nat :=
  14 + (if hasWeather presence then 4 else 0) + (if hasComfort presence then 1 else 0)
    + (if hasOverride presence then 4 else 0) + 4 * entryCount presence

/-- The bytes the check word covers: byte 1 through the last body byte (R28). -/
def coveredBytes (f : List Byte) : List Byte := (f.drop 1).take ((byteAt f 1).toNat + 1)

/-- The check word received: the two bytes after the body. -/
def receivedCheckWord (f : List Byte) : Nat :=
  fromBytes (byteAt f ((byteAt f 1).toNat + 2)) (byteAt f ((byteAt f 1).toNat + 3))

/-- Whether all `L + 4` bytes have arrived (R40). -/
def frameComplete (f : List Byte) : Bool := 2 ≤ f.length && (byteAt f 1).toNat + 4 ≤ f.length

/-- The finding of R41 that stands on the bytes of a frame arrived so far, none where there is none yet. -/
def badFinding (rx : List RxByte) : Option BadFinding :=
  let f := rx.map RxByte.data
  if rx.any RxByte.framingError then some .framing
  else if 1 ≤ f.length && byteAt f 0 ≠ delimiter then some .startDelimiter
  else if 2 ≤ f.length && !(14 ≤ (byteAt f 1).toNat && (byteAt f 1).toNat ≤ 39) then some .lengthRange
  else if 16 ≤ f.length
      && ((byteAt f 1).toNat ≠ consistentLength (byteAt f 15) || 4 < entryCount (byteAt f 15)) then some .consistency
  else if frameComplete f && (crc16 (coveredBytes f)).toNat ≠ receivedCheckWord f then some .checkWord
  else if frameComplete f && !(1 ≤ (byteAt f 2).toNat && (byteAt f 2).toNat ≤ 32) then some .sourceAddress
  else none

/-- What the receiver finds of a frame (R41, R42). -/
inductive Verdict where
  | good
  | bad (f : BadFinding)
deriving DecidableEq, Repr

/-- The verdict that stands at the last of these bytes, if one does: a finding, or the frame complete without one. -/
def verdictAt (rx : List RxByte) : Option Verdict :=
  match badFinding rx with
  | some f => some (.bad f)
  | none => if frameComplete (rx.map RxByte.data) then some .good else none

/-- Bytes taken one by one after those of `frame`, up to the first verdict: the frame with its verdict, none where none has
fallen. Bytes after the verdict are discarded (R40). -/
def judgeAfter (frame : List RxByte) : List RxByte → Option (List RxByte × Verdict)
  | [] => (verdictAt frame).map fun v => (frame, v)
  | b :: rest => match verdictAt frame with
    | some v => some (frame, v)
    | none => judgeAfter (frame ++ [b]) rest

/-- The frame that bytes open, with its verdict (R40, R41). -/
def judgeBytes (rx : List RxByte) : Option (List RxByte × Verdict) := judgeAfter [] rx

/-- A byte without a framing error. -/
def cleanByte (b : Byte) : RxByte := ⟨b, false⟩

/-- A good frame: exactly its `L + 4` bytes, with none of the findings (R40, R41). -/
def goodFrame (f : List Byte) : Bool :=
  frameComplete f && f.length = (byteAt f 1).toNat + 4 && (badFinding (f.map cleanByte)).isNone

end Sys2Proof.Machine
end

