-- ==== Sys2Proof/Machine/Ops.lean ====
section
/-! DEFINITION. The named operations every block uses: field updates of State, which leaves are mapped and ganged (R127,
R128), positions (R158, R162), motion states (R130), at-target (R132), and the conditions other blocks read. -/

namespace Sys2Proof.Machine

/-! ### Field updates -/

namespace State

def setUnit (s : State) (u : Leaf) (x : UnitRecord) : State := { s with units := s.units.set u x }
def setMember (s : State) (l : Leaf) (x : MemberRecord) : State := { s with members := s.members.set l x }
def setFeedback (s : State) (l : Leaf) (x : FeedbackRecord) : State := { s with feedback := s.feedback.set l x }
def setTable (s : State) (u : Leaf) (x : DemandTable) : State := { s with tables := s.tables.set u x }
def setZones (s : State) (x : PerZone ZoneRecord) : State := { s with zones := { s.zones with records := x } }
def setDetection (s : State) (x : Detection) : State := { s with detection := x }
def setWeather (s : State) (x : Weather) : State := { s with weather := x }
def setLine (s : State) (x : LineInterface) : State := { s with line := x }
def setSupply (s : State) (x : Supply) : State := { s with supply := x }

end State

/-- Time that has passed since a moment. -/
def State.since (s : State) (t : Nat) : Nat := s.now - t

/-- A period that began at `since` has elapsed (log entry 2). -/
def State.elapsed (s : State) (since period : Nat) : Bool := since + period ≤ s.now

/-- A running timer whose period has elapsed. -/
def State.timerOver (s : State) (since : Option Nat) (period : Nat) : Bool :=
  match since with
  | some t => s.elapsed t period
  | none => false

/-- The free random number of this draw, with the counter advanced (log entry 5). -/
def State.drawBelow (s : State) (bound : Nat) : Nat × State :=
  (Config.draw s.draws % bound, { s with draws := s.draws + 1 })

/-! ### Mapping and gangs (R127, R128) -/

def State.cfg (s : State) : Settings := s.store.inForce

/-- The output that serves a logical leaf, if the leaf is mapped. -/
def Settings.outputOf (c : Settings) (l : Leaf) : Option Output :=
  N4.all.find? fun o => c.outputMap.get o = some l

def Settings.mapped (c : Settings) (l : Leaf) : Bool := (c.outputOf l).isSome

/-- The other leaf of the pair 1+2 or 3+4. -/
def partner : Leaf → Leaf
  | .n1 => .n2
  | .n2 => .n1
  | .n3 => .n4
  | .n4 => .n3

/-- The lower-numbered leaf of the pair. -/
def pairLeader : Leaf → Leaf
  | .n1 => .n1
  | .n2 => .n1
  | .n3 => .n3
  | .n4 => .n3

/-- Whether the leaf belongs to a gang in force. -/
def Settings.ganged (c : Settings) : Leaf → Bool
  | .n1 => c.gang12
  | .n2 => c.gang12
  | .n3 => c.gang34
  | .n4 => c.gang34

/-- The leaf itself, or the leader of its gang. -/
def Settings.leader (c : Settings) (l : Leaf) : Leaf := if c.ganged l then pairLeader l else l

/-- The leaves that a single leaf or a gang's leader stands for. -/
def Settings.membersOf (c : Settings) (u : Leaf) : List Leaf := if c.ganged u then [u, partner u] else [u]

/-- The mapped leaves that are single or leaders: those with a table and a side record (R104, R108). -/
def Settings.isUnit (c : Settings) (u : Leaf) : Bool := c.mapped u && c.leader u = u

def State.unitOf (s : State) (l : Leaf) : UnitRecord := s.units.get (s.cfg.leader l)

/-- The stroke time of a leaf at a speed, in ms (R172). -/
def Settings.strokeTime (c : Settings) (l : Leaf) (v : Speed) : Nat :=
  match v with
  | .full => c.fullTime.get l * 1000
  | .quiet => c.quietTime.get l * 1000

/-! ### Positions (R158, R162) -/

/-- The position of a count, in per mille of stroke. -/
def positionOfCount (count stroke : Nat) : Nat := count * 1000 / stroke

/-- The target count of a run target (R162). -/
def targetCount (target stroke : Nat) : Nat := (target * stroke + 500) / 1000

/-- The position of a record: by count in PULSE mode, the estimate in TIMED mode (R158). -/
def FeedbackRecord.position (f : FeedbackRecord) (stroke : Nat) : Option Nat :=
  match f.mode with
  | .pulse => f.count.map fun n => positionOfCount n stroke
  | .timed => f.estimate

def State.position (s : State) (l : Leaf) : Option Nat :=
  (s.feedback.get l).position (s.cfg.stroke.get l)

/-- The smaller of known positions; unknown where any is, and where there is none (log entry 28, DEDUCED). -/
def minKnown : List (Option Nat) → Option Nat
  | [] => none
  | [p] => p
  | p :: ps => match p, minKnown ps with
    | some a, some b => some (min a b)
    | _, _ => none

/-- The members that are not ABSENT (R128). -/
def State.presentMembers (s : State) (u : Leaf) : List Leaf :=
  (s.cfg.membersOf u).filter fun l => (s.feedback.get l).presence ≠ .absent

/-- The position of a single leaf, or the gang position: an ABSENT member does not enter it (R25, R128). A gang whose two members are
both ABSENT has an unknown position, while a single ABSENT leaf keeps its own; the specification says only that an ABSENT member does
not enter (log entry 28, DEDUCED). -/
def State.unitPosition (s : State) (u : Leaf) : Option Nat :=
  if s.cfg.ganged u then minKnown ((s.presentMembers u).map s.position) else s.position u

/-! ### Slots, key and supply -/

/-- The rank of a governing slot, highest first in the queue (R133). -/
def Slot.rank : Slot → Nat
  | .none => 0
  | .comfort => 1
  | .rain => 2
  | .storm => 3
  | .service => 4
  | .fire => 5
  | .brigade => 6

/-- FIRE or BRIGADE. -/
def Slot.fireClass (x : Slot) : Bool := x = .fire || x = .brigade

/-- The speed a governing slot gives (R137). -/
def Slot.speed (x : Slot) : Speed := if x.fireClass then .full else .quiet

inductive KeyPosition where
  | auto | service | lockout
deriving DecidableEq, Repr

/-- A fault code is taken as AUTO (R80). -/
def KeyReading.position : KeyReading → KeyPosition
  | .auto => .auto
  | .service => .service
  | .lockout => .lockout
  | .faultCode => .auto

def State.key (s : State) : KeyPosition := s.detection.key.held.position

/-- The station is in FIRE: a zone of the answer set is LATCHED or PENDING (R13). -/
def State.fire (s : State) : Bool :=
  Zone.all.any fun z => z.isIn s.cfg.answerSet && (s.zones.records.get z).state ≠ .clear

/-! ### Motion state and at-target (R130, R132) -/

/-- Whether every present member's position is known. -/
def State.referencedUnit (s : State) (u : Leaf) : Bool := (s.unitPosition u).isSome

/-- The state at rest of a leaf whose probe has ended, or UNREF before (R129, R130, R151, R152). A gang rests by the positions
known then: one whose unreferenced member met its end in an UNREF run rests in IDLE though that run ended with a fault, where
R149 read alone would give UNREF (log entry 38, DEDUCED). -/
def State.restMotion (s : State) (l : Leaf) : Motion :=
  if (s.feedback.get l).presence = .unprobed then .unref
  else if 4 ≤ (s.unitOf l).failureCount then .outOfService
  else if s.referencedUnit (s.cfg.leader l) then .idle
  else .unref

/-- The motion state of a leaf (R130). -/
def State.motion (s : State) (l : Leaf) : Motion :=
  if (s.feedback.get l).presence = .absent then .absent
  else match (s.unitOf l).status with
    | .rest => s.restMotion l
    | .waiting _ => .waiting
    | .inFlight r =>
      if r.members.contains l then
        match r.stage with
        | .starting _ => .starting
        | .rundown _ _ => .rundown
        | .running => if (s.members.get l).slice.isSome then .probing else .running
      else s.restMotion l

/-- The deadband of 5 per mille (R131). -/
def deadband : Nat := 5

/-- At-target: at rest in IDLE, with a target within the deadband of the leaf's own position (R132). -/
def State.atTarget (s : State) (l : Leaf) : Bool :=
  s.motion l = .idle &&
    match (s.unitOf l).pair.target, s.position l with
    | some t, some p => distance t p ≤ deadband
    | _, _ => false

/-! ### Drive slots (R134) -/

def Supply.slotCount (x : Supply) : Nat :=
  match x.state with
  | .mains => 3
  | .battery => 2
  | .low => 1

def Probe.inProgress : Probe → Bool
  | .settle _ => true
  | .pulse _ => true
  | .none => false
  | .requested => false

/-- The slots a unit holds: one for each member of its run in flight. -/
def UnitRecord.slotsHeld (x : UnitRecord) : Nat :=
  match x.status with
  | .inFlight r => r.members.length
  | .rest => 0
  | .waiting _ => 0

def FeedbackRecord.probeSlots (f : FeedbackRecord) : Nat := if f.probe.inProgress then 1 else 0

/-- The slots held: by the runs in flight and the probes in progress (R134). -/
def State.slotsHeld (s : State) : Nat :=
  (s.units.toList.map UnitRecord.slotsHeld).sum + (s.feedback.toList.map FeedbackRecord.probeSlots).sum

/-- The slots held by units in RUNDOWN, which are counted as coming free (R136). -/
def UnitRecord.rundownSlots (x : UnitRecord) : Nat :=
  match x.status with
  | .inFlight r => match r.stage with
    | .rundown _ _ => r.members.length
    | .starting _ => 0
    | .running => 0
  | .rest => 0
  | .waiting _ => 0

/-- Free slots, counted below 0 where the slots held exceed the count (R136). -/
def State.freeSlots (s : State) : Int := (s.supply.slotCount : Int) - (s.slotsHeld : Int)

def State.comingFree (s : State) : Int :=
  s.freeSlots + ((s.units.toList.map UnitRecord.rundownSlots).sum : Nat)

/-- The slots an entry needs: one for each present member (R128, R134). -/
def State.slotsNeeded (s : State) (u : Leaf) : Nat := (s.presentMembers u).length

/-! ### The start queue (R133) -/

/-- The key the queue is ordered by: rank of slot, higher first; entry time, earlier first; leaf number, lower first. -/
def UnitRecord.before (a b : UnitRecord) (ta tb : Nat) (u v : Leaf) : Bool :=
  b.pair.slot.rank < a.pair.slot.rank ||
    (a.pair.slot.rank = b.pair.slot.rank && (ta < tb || (ta = tb && u.number < v.number)))

def UnitRecord.entryTime? (x : UnitRecord) : Option Nat :=
  match x.status with
  | .waiting t => some t
  | .rest => none
  | .inFlight _ => none

def State.queueBefore (s : State) (u v : Leaf) : Bool :=
  match (s.units.get u).entryTime?, (s.units.get v).entryTime? with
  | some ta, some tb => (s.units.get u).before (s.units.get v) ta tb u v
  | _, _ => false

def State.insertEntry (s : State) (u : Leaf) : List Leaf → List Leaf
  | [] => [u]
  | v :: vs => if s.queueBefore u v then u :: v :: vs else v :: s.insertEntry u vs

/-- The start queue: the units WAITING, in R133's order. -/
def State.startQueue (s : State) : List Leaf :=
  (N4.all.filter fun u => s.cfg.isUnit u && (s.units.get u).entryTime?.isSome).foldr (fun u q => s.insertEntry u q) []

end Sys2Proof.Machine
end

