-- ==== Sys2Proof/Machine/Operands.lean ====
section
/-! DEFINITION. How a command's operands are read: current bands (R70, R73), supervision and motor currents, switch
readings (R79), the vane's code (R92), the BM step (R84), and the numbers of a service command (R186 to R190). -/

namespace Sys2Proof.Machine

/-! ### Currents -/

/-- The four bands of a loop or the call point; currents in 0.1 mA (R70, R73). -/
def bandOf (current : Nat) : Band :=
  if current ≤ 29 then .opened
  else if current ≤ 119 then .normal
  else if current ≤ 400 then .alarm
  else .shorted

/-- The loop state a class gives (R71). -/
def Band.loopState : Band → LoopState
  | .opened => .opened
  | .normal => .normal
  | .alarm => .alarm
  | .shorted => .shorted

/-- A supervision current below 2.0 mA finds the anemometer circuit or a vane line OPEN (R91, R92). -/
def supervisionOpen (current : Nat) : Bool := current < 20

/-- A motor current of 0.1 A or more (R144, R161, R170); currents in 0.1 A. -/
def drawsCurrent (current : Nat) : Bool := 1 ≤ current

/-- Overcurrent is 6.0 A (R147). -/
def overcurrentLimit : Nat := 60

/-! ### Switches (R79) -/

/-- A two-contact switch: neither made is the middle position, both made a fault code. -/
def keyReadingOf (service lockout : Bool) : KeyReading :=
  match service, lockout with
  | false, false => .auto
  | true, false => .service
  | false, true => .lockout
  | true, true => .faultCode

def brigadeReadingOf (openContact closeContact : Bool) : BrigadeReading :=
  match openContact, closeContact with
  | false, false => .auto
  | true, false => .openPos
  | false, true => .closePos
  | true, true => .faultCode

/-- The position a reading delivers: a fault code is delivered as AUTO (R83). `none` is AUTO. -/
def BrigadeReading.action : BrigadeReading → Option OverrideAction
  | .auto => none
  | .openPos => some .actOpen
  | .closePos => some .actClose
  | .faultCode => none

/-! ### Vane and BM input -/

/-- A vane line's bit; none for an OPEN line (R92). -/
def vaneBit? (v : VaneLine) : Option Bool := if supervisionOpen v.supervision then none else some v.high

/-- The sector of a valid code, by reflected binary order; none for an invalid code (R92). -/
def vaneSector (v : VaneSample) : Option Nat :=
  match vaneBit? v.g3, vaneBit? v.g2, vaneBit? v.g1, vaneBit? v.g0 with
  | some g3, some g2, some g1, some g0 =>
    let b3 := g3
    let b2 := xor b3 g2
    let b1 := xor b2 g1
    let b0 := xor b1 g0
    some (b3.toNat * 8 + b2.toNat * 4 + b1.toNat * 2 + b0.toNat)
  | _, _, _, _ => none

/-- The step of a BM reading in 0.01 V, held to 0..10.00 V (R84). -/
def bmStep (centivolts : Int) : Nat :=
  let p := min centivolts.toNat 1000 / 10
  5 * ((p + 2) / 5)

/-! ### Numbers in service commands -/

/-- A service command's leaf number, where it names a mapped logical leaf (R187, R189, R190). -/
def State.serviceLeaf? (s : State) (n : Nat) : Option Leaf :=
  match N4.ofNumber? n with
  | some l => if s.cfg.mapped l then some l else none
  | none => none

/-- The leaf an enabled output serves (R127). -/
def State.leafAt (s : State) (o : Output) : Option Leaf := s.cfg.outputMap.get o

/-- A number within a range, as given on the service port. -/
def inRange (lo hi : Nat) (v : Int) : Bool := (lo : Int) ≤ v && v ≤ (hi : Int)

end Sys2Proof.Machine
end

