-- ==== Sys2Proof/Machine/Peers.lean ====
section
/-! DEFINITION. The peer table: the records (R53), the judgement of a good report (R57), initialisation (R58), gap and
reliability (R59, R60), storing of parts (R61 to R64), silence (R65), ISOLATED (R66). -/

namespace Sys2Proof.Machine

/-! ### Records (R53) -/

/-- The addresses that have a record: 1..32 but the own address; 2..32 where the own address is invalid. -/
def recordAddresses (own : Nat) : List Nat :=
  if 1 ≤ own && own ≤ 32 then (List.range' 1 32).filter fun a => a ≠ own else List.range' 2 31

def freshTable (own : Nat) (settledFrom : Option Nat) : PeerTable where
  records := (recordAddresses own).map fun a => ⟨a, .absent⟩
  isolated := false
  settledFrom := settledFrom

def PeerTable.find? (t : PeerTable) (a : Nat) : Option PeerRecord := t.records.find? fun r => r.address = a

def PeerTable.put (t : PeerTable) (a : Nat) (st : PeerStatus) : PeerTable :=
  { t with records := t.records.map fun r => if r.address = a then { r with status := st } else r }

def PeerStatus.freshContent? : PeerStatus → Option PeerContent
  | .fresh c => some c
  | .absent => none
  | .lost _ => none

/-- The FRESH records with their addresses, in ascending address order (R68). -/
def PeerTable.fresh (t : PeerTable) : List (Nat × PeerContent) :=
  t.records.filterMap fun r => r.status.freshContent?.map fun c => (r.address, c)

def PeerTable.noneFresh (t : PeerTable) : Bool := t.fresh.isEmpty

/-! ### Judging and storing a report -/

/-- R57's judgement. -/
inductive Judgement where
  | initialise
  | duplicate
  | admitted (gap : Nat)
deriving DecidableEq, Repr

def judgeSequence (last seq : Byte) : Judgement :=
  let d := (seq - last).toNat
  if d = 0 then .duplicate else if d ≤ 127 then .admitted (min (d - 1) 8) else .initialise

def PeerStatus.judge (st : PeerStatus) (seq : Byte) : Judgement :=
  match st with
  | .absent => .initialise
  | .lost _ => .initialise
  | .fresh c => judgeSequence c.lastSequence seq

/-- Weather stored whole (R58, R64). -/
def WeatherPart.stored (w : WeatherPart) (now : Nat) : PeerWeather := ⟨w.speed, w.sector, w.rain, now⟩

/-- The record initialised from a report (R58). -/
def PeerContent.initial (r : Report) (now : Nat) : PeerContent where
  lastSequence := r.sequence
  lastHeard := now
  missScore := 0
  goodRun := 0
  reliable := true
  condition := r.condition
  flags := r.flags
  smokeZone := r.smokeZone
  origin := r.origin
  latchSet := r.latchSet
  marks := r.marks
  weather := r.weather.map fun w => w.stored now
  comfort := r.comfort
  overridePart := r.overridePart
  leaves := r.leaves

/-- The class after a change of the miss score: 6 and above UNRELIABLE, 0 RELIABLE, kept between (R60). -/
def reliableAfter (score : Nat) (before : Bool) : Bool :=
  if 6 ≤ score then false else if score = 0 then true else before

/-- The gap of an admitted report, applied to the miss score, the good-run count and the class (R59, R60). -/
def PeerContent.applyGap (c : PeerContent) (gap : Nat) : PeerContent :=
  if 0 < gap then
    let score := min 15 (c.missScore + gap)
    { c with missScore := score, goodRun := 0, reliable := reliableAfter score c.reliable }
  else if c.goodRun + 1 = 8 then
    let score := c.missScore - 1
    { c with missScore := score, goodRun := 0, reliable := reliableAfter score c.reliable }
  else { c with goodRun := c.goodRun + 1 }

/-- Whether speed and sector are replaced (R63). -/
def weatherMoves (old : PeerWeather) (w : WeatherPart) (now : Nat) : Bool :=
  5 ≤ distance w.speed old.speed || w.sector ≠ old.sector || old.updated + 30000 ≤ now

/-- The weather of an admitted report (R63, R64). -/
def storeWeather (old : Option PeerWeather) (part : Option WeatherPart) (now : Nat) : Option PeerWeather :=
  match part, old with
  | none, _ => none
  | some w, none => some (w.stored now)
  | some w, some o => if weatherMoves o w now then some (w.stored now) else some { o with rain := w.rain }

/-- The parts and the moments of an admitted report (R56, R61 to R64). -/
def PeerContent.accept (c : PeerContent) (r : Report) (now : Nat) : PeerContent :=
  { c with
    lastSequence := r.sequence
    lastHeard := now
    condition := r.condition
    flags := r.flags
    smokeZone := r.smokeZone
    origin := r.origin
    latchSet := r.latchSet
    marks := r.marks
    weather := storeWeather c.weather r.weather now
    comfort := r.comfort
    overridePart := r.overridePart
    leaves := r.leaves }

/-- The status after a report is stored; none where it is discarded as a duplicate. -/
def PeerStatus.taking (st : PeerStatus) (r : Report) (now : Nat) : Option PeerStatus :=
  match st.judge r.sequence with
  | .duplicate => none
  | .initialise => some (.fresh (PeerContent.initial r now))
  | .admitted gap =>
    match st with
    | .fresh c => some (.fresh ((c.applyGap gap).accept r now))
    | .absent => none
    | .lost _ => none

/-! ### Silence and ISOLATED -/

/-- The silence timer's period (R65), and the settled time ISOLATED needs (R66). -/
def silencePeriod : Nat := 7000

/-- ISOLATED formed: the settled time is at least 7,000 ms and no record is FRESH (R66). -/
def State.formIsolated (s : State) : State :=
  let settled := match s.peers.settledFrom with
    | some t => s.elapsed t silencePeriod
    | none => false
  { s with peers := { s.peers with isolated := settled && s.peers.noneFresh } }

/-- The comfort level stored for a peer address; none where the record is not FRESH, holds none, or does not exist (R116). -/
def PeerTable.comfortOf (t : PeerTable) (a : Nat) : Option Nat :=
  match t.find? a with
  | some r => r.status.freshContent?.bind PeerContent.comfort
  | none => none

def PeerStatus.name : PeerStatus → StatusName
  | .absent => .absent
  | .fresh _ => .fresh
  | .lost _ => .lost

end Sys2Proof.Machine
end

