-- ==== Sys2Proof/Machine/Weather.lean ====
section
/-! DEFINITION. The weather unit: the measurement second (R89 to R94), rain (R95), own weather (R96), the governing wind and
rain (R97 to R100), the storm guard (R101), and the leaves' side classes (R103 to R105). -/

namespace Sys2Proof.Machine

/-! ### Own weather -/

/-- The instant speed of a window (R89). -/
def instantSpeed (n k : Nat) : Nat := min 600 (n * k / 10)

/-- A list with a newest entry, its oldest removed beyond `bound` (R90, R93). -/
def pushWindow (bound : Nat) (w : List Nat) (x : Nat) : List Nat :=
  let v := w ++ [x]
  v.drop (v.length - bound)

/-- The reported speed: the mean of the speed window (R90). -/
def reportedSpeed (w : List Nat) : Option Nat := if w.isEmpty then none else some (w.sum / w.length)

/-- The most frequent entry of a list given newest first, the more recent first on a tie. -/
def mostFrequent (newestFirst : List Nat) : Option Nat :=
  newestFirst.foldl (fun best x => match best with
    | none => some x
    | some b => if newestFirst.count b < newestFirst.count x then some x else some b) none

/-- The reported sector (R93); the window is oldest first. -/
def reportedSector (w : List Nat) : Option Nat := mostFrequent w.reverse

/-- The own weather, while it is offered (R96). -/
def State.ownWeather (s : State) : Option WeatherPart :=
  if s.cfg.weatherReporter && !s.weather.anemoFault && !s.weather.vaneFault then
    match reportedSpeed s.weather.speedWindow, reportedSector s.weather.sectorWindow with
    | some v, some d => some ⟨v, d, s.weather.rainState⟩
    | _, _ => none
  else none

/-- The measurement second (R88). -/
def windowPeriod : Nat := 1000

/-- The end of an anemometer window (R89, R91); the next begins in the same event. -/
def Weather.endWindow (w : Weather) (k : Nat) : Weather :=
  let base := { w with windowStart := w.windowStart + windowPeriod, windowCount := 0, windowOpen := false }
  if w.windowOpen then { base with anemoFault := true, speedWindow := [] }
  else { base with anemoFault := false, speedWindow := pushWindow 3 w.speedWindow (instantSpeed w.windowCount k) }

/-- A vane sample (R94): none is an invalid code. -/
def Weather.vaneSample (w : Weather) (sector : Option Nat) : Weather :=
  match sector with
  | none => { w with vaneFault := true, sectorWindow := [] }
  | some d => { w with vaneFault := false, sectorWindow := pushWindow 8 w.sectorWindow d }

/-- A rain reading (R95). -/
def Weather.readRain (w : Weather) (r : RainReading) (now : Nat) : Weather :=
  match r with
  | .wet => { w with rainState := .wet, dryOffSince := none, rainFault := false }
  | .circuitOpen => { w with rainState := .unknown, dryOffSince := none, rainFault := true }
  | .dry =>
    if w.rainState = .dry then { w with rainFault := false }
    else { w with dryOffSince := some (w.dryOffSince.getD now), rainFault := false }

def dryOffPeriod : Nat := 300000
def clearHoldPeriod : Nat := 60000
def classHoldPeriod : Nat := 10000

/-! ### Governing wind and rain -/

/-- A candidate of R97. -/
structure WeatherCandidate where
  address : Nat
  speed   : Nat
  sector  : Nat
  rain    : Rain
deriving DecidableEq, Repr

def peerCandidate (p : Nat × PeerContent) : Option WeatherCandidate :=
  p.2.weather.map fun w => ⟨p.1, w.speed, w.sector, w.rain⟩

def State.ownCandidates (s : State) : List WeatherCandidate :=
  (s.ownWeather.map fun w => (⟨s.line.ownAddress, w.speed, w.sector, w.rain⟩ : WeatherCandidate)).toList

/-- The first candidate set: own weather, and FRESH RELIABLE peers' (R97). -/
def State.primaryCandidates (s : State) : List WeatherCandidate :=
  s.ownCandidates ++ (s.peers.fresh.filter fun p => p.2.reliable).filterMap peerCandidate

/-- The fallback set: FRESH UNRELIABLE peers' (R97). -/
def State.fallbackCandidates (s : State) : List WeatherCandidate :=
  (s.peers.fresh.filter fun p => !p.2.reliable).filterMap peerCandidate

/-- The candidate set in use, with its basis (R97). -/
def State.candidateSet (s : State) : List WeatherCandidate × Basis :=
  if !s.primaryCandidates.isEmpty then (s.primaryCandidates, .primary)
  else if !s.fallbackCandidates.isEmpty then (s.fallbackCandidates, .fallback)
  else ([], .none)

/-- Of two candidates: the larger speed, then the lower address (R98). -/
def betterCandidate (p q : WeatherCandidate) : WeatherCandidate :=
  if p.speed < q.speed || (p.speed = q.speed && q.address < p.address) then q else p

def governingOf : List WeatherCandidate → Option GoverningWind
  | [] => none
  | c :: cs => let b := cs.foldl betterCandidate c; some ⟨b.speed, b.sector, b.address⟩

/-- The governing rain of a candidate set (R100). -/
def governingRainOf (cs : List WeatherCandidate) : Rain :=
  if (cs.any fun c => c.rain = .wet) then .wet else if (cs.any fun c => c.rain = .dry) then .dry else .unknown

/-- CALM: below 1.5 m/s (R98). -/
def GoverningWind.calm (g : GoverningWind) : Bool := g.speed < 15

/-! ### Storm guard (R101) -/

def Settings.clearLimit (c : Settings) : Nat := c.stormThreshold - 20

/-- The guard judged against the governing wind. -/
def Weather.judgeGuard (w : Weather) (threshold limit now : Nat) : Weather :=
  match w.stormActive, w.governing with
  | false, none => { w with stormActive := true, clearSince := none }
  | false, some g => if threshold ≤ g.speed then { w with stormActive := true, clearSince := none } else w
  | true, none => { w with clearSince := none }
  | true, some g => if limit ≤ g.speed then { w with clearSince := none }
      else { w with clearSince := some (w.clearSince.getD now) }

/-! ### Side classes (R103 to R105) -/

def sectorDistance (s f : Nat) : Nat := min (distance s f) (16 - distance s f)

/-- The computed class of a facing against the governing wind (R103). -/
def computedClass (g : Option GoverningWind) (facing : Nat) : SideClass :=
  match g with
  | none => .undecided
  | some w =>
    if w.calm then .leeward
    else if sectorDistance w.sector facing ≤ 3 then .windward
    else if sectorDistance w.sector facing = 4 then .cross
    else .leeward

def SideRecord.isPending (r : SideRecord) (c : SideClass) : Bool :=
  match r.pendingClass with
  | some (p, _) => p = c
  | none => false

/-- A side record takes a computed class (R105). -/
def SideRecord.takeClass (r : SideRecord) (c : SideClass) (now : Nat) : SideRecord :=
  if c = r.applied then { r with pendingClass := none }
  else if r.applied = .undecided || c = .undecided then ⟨c, none⟩
  else if r.isPending c then r
  else { r with pendingClass := some (c, now) }

def State.computedSide (s : State) (u : Leaf) : SideClass := computedClass s.weather.governing (s.cfg.facing.get u)

/-- Every side record takes its computed class; a leaf without a side record keeps its starting value. -/
def State.formSides (s : State) : State :=
  let side (u : Leaf) : SideRecord :=
    if s.cfg.isUnit u then (s.weather.sides.get u).takeClass (s.computedSide u) s.now else s.weather.sides.get u
  s.setWeather { s.weather with sides := Four.ofFn side }

/-- The governing wind and rain formed again; a changed wind judges the guard and the sides (R99, R100). -/
def State.formWeather (s : State) : State :=
  let set := s.candidateSet
  let g := governingOf set.1
  let t := s.setWeather { s.weather with governing := g, basis := set.2, governingRain := governingRainOf set.1 }
  if g = s.weather.governing && set.2 = s.weather.basis then t
  else (t.setWeather (t.weather.judgeGuard s.cfg.stormThreshold s.cfg.clearLimit s.now)).formSides

end Sys2Proof.Machine
end

