-- ==== Sys2Proof/Machine/Detection.lean ====
section
/-! DEFINITION. The detection unit: debounce (R71), local detection (R74 to R76), the latch it sets (R4) and the LISTEN it
ends (R51), the loop reset (R77, R78), switch and contact holds (R79), service buttons (R81), refusal flash (R86). -/

namespace Sys2Proof.Machine

/-! ### Debounce (R71) -/

/-- The candidate after a sample: absent where the class equals the state held, kept where it equals the candidate. -/
def nextCandidate (held : Option Band) (cand : Option Candidate) (measured : Band) (now : Nat) : Option Candidate :=
  if held = some measured then none
  else match cand with
    | some c => if c.band = measured then some c else some ⟨measured, now⟩
    | none => some ⟨measured, now⟩

/-- The class a loop state compares as; none for RESETTING and DISABLED. -/
def LoopState.band? : LoopState → Option Band
  | .normal => some .normal
  | .alarm => some .alarm
  | .opened => some .opened
  | .shorted => some .shorted
  | .disabled => none
  | .resetting => none

def LoopReset.powered : LoopReset → Bool
  | .powerOff _ => false
  | .none => true
  | .settle _ => true

/-- What a loop's debounce works on: the hidden class during SETTLE, the loop state otherwise (R78). -/
def LoopRecord.heldBand (r : LoopRecord) : Option Band :=
  match r.hidden with
  | some b => some b
  | none => r.state.band?

/-- A measurement of an enabled, powered loop (R70, R71). -/
def LoopRecord.sample (r : LoopRecord) (current now : Nat) : LoopRecord :=
  { r with current := current, candidate := nextCandidate r.heldBand r.candidate (bandOf current) now }

def CallPoint.sample (c : CallPoint) (current now : Nat) : CallPoint :=
  { c with current := current, candidate := nextCandidate (some c.state) c.candidate (bandOf current) now }

/-- A loop's state takes a class; its confirm timer starts at ALARM and is cleared by any other (R75). -/
def LoopRecord.take (r : LoopRecord) (b : Band) (now : Nat) : LoopRecord :=
  { r with
    state := b.loopState
    candidate := none
    confirm := if b = .alarm then .running now else .cleared }

/-- A candidate that has stood is taken: by the hidden class during SETTLE, by the loop state otherwise. -/
def LoopRecord.debounced (r : LoopRecord) (b : Band) (now : Nat) : LoopRecord :=
  match r.hidden with
  | some _ => { r with hidden := some b, candidate := none }
  | none => r.take b now

/-- The debounce period in ms (R71). -/
def State.debouncePeriod (s : State) : Nat := s.cfg.debounce * 1000

/-- Whether a candidate has stood for the debounce period. -/
def State.stood (s : State) (c : Candidate) : Bool := s.elapsed c.since s.debouncePeriod

/-! ### Local detection (R74) -/

def LoopRecord.inAlarm (r : LoopRecord) : Bool := r.state = .alarm
def LoopRecord.unableToConfirm (r : LoopRecord) : Bool :=
  r.state = .opened || r.state = .shorted || r.state = .disabled
def LoopRecord.confirmed (r : LoopRecord) : Bool := r.inAlarm && r.confirm = .expired

/-- Local detection, formed from the loop states, the call point and the confirm timers. -/
def Detection.formed (d : Detection) : LocalDetection :=
  let a := d.loops.d1
  let b := d.loops.d2
  if d.callPoint.state = .alarm
      || (a.inAlarm && b.inAlarm)
      || (a.inAlarm && b.unableToConfirm) || (b.inAlarm && a.unableToConfirm)
      || a.confirmed || b.confirmed then .alarm
  else if a.inAlarm || b.inAlarm then .preAlarm
  else .quiet

/-- The latch own detection sets, whatever the record's state (R4). -/
def ZoneRecord.latchOwn (z : ZoneRecord) : ZoneRecord := { z with state := .latched, source := .own }

/-- LISTEN ends at a local ALARM, with an urgent report due (R51); the settled time begins (R66). An entry to ALARM in a restart wait
does so too, and its report is in the slot until the start empties it; the specification is silent on it (log entry 27, DEDUCED). -/
def State.endListenOnAlarm (s : State) : State :=
  if s.line.join = .listen then
    { s with
      line := { s.line with join := .running, proving := none, pendingSlot := some true }
      peers := { s.peers with settledFrom := some (s.peers.settledFrom.getD s.now) } }
  else s

/-- Entry to ALARM, handed to the zone logic and the line interface (R76). -/
def State.enterAlarm (s : State) : State :=
  let z := s.cfg.smokeZone
  (s.setZones (s.zones.records.set z (s.zones.records.get z).latchOwn)).endListenOnAlarm

/-- Local detection is formed again and an entry to ALARM handed on (R74, R76). -/
def State.formLocal (s : State) : State :=
  let new := s.detection.formed
  let t := s.setDetection { s.detection with localState := new }
  if new = .alarm && s.detection.localState ≠ .alarm then t.enterAlarm else t

/-! ### The loop reset (R77, R78) -/

/-- A loop at the start of a loop reset: RESETTING, candidate absent, confirm cleared; a DISABLED loop is left. -/
def LoopRecord.beginReset (r : LoopRecord) : LoopRecord :=
  if r.state = .disabled then r
  else { r with state := .resetting, candidate := none, confirm := .cleared, hidden := none }

/-- A loop when power is restored: the hidden class starts at NORMAL with no candidate. -/
def LoopRecord.beginSettle (r : LoopRecord) : LoopRecord :=
  if r.state = .disabled then r else { r with candidate := none, hidden := some .normal }

/-- A loop at the settle end: its state becomes its hidden class, its candidate carries over. -/
def LoopRecord.endSettle (r : LoopRecord) (now : Nat) : LoopRecord :=
  match r.hidden with
  | some b => { r with state := b.loopState, hidden := none, confirm := if b = .alarm then .running now else .cleared }
  | none => r

def PerLoop.mapLoops (f : LoopRecord → LoopRecord) (v : PerLoop LoopRecord) : PerLoop LoopRecord := ⟨f v.d1, f v.d2⟩

/-- A loop reset request (R77): from NONE the reset starts in the same event; otherwise nothing changes. -/
def State.requestLoopReset (s : State) : State :=
  match s.detection.loopReset with
  | .none => (s.setDetection { s.detection with
      loopReset := .powerOff s.now
      loops := PerLoop.mapLoops LoopRecord.beginReset s.detection.loops }).formLocal
  | .powerOff _ => s
  | .settle _ => s

/-! ### Switch and contact holds (R79) -/

/-- The hold of a reading that must stand for 50 ms. -/
def holdPeriod : Nat := 50

/-- A two-contact switch after a reading: a reading equal to the one held ends the hold, a new one begins it. -/
def SwitchRecord.read {α : Type} [DecidableEq α] (r : SwitchRecord α) (x : α) (now : Nat) : SwitchRecord α :=
  if x = r.held then { r with hold := none }
  else match r.hold with
    | some (y, t) => if y = x then { r with hold := some (y, t) } else { r with hold := some (x, now) }
    | none => { r with hold := some (x, now) }

/-- The reading that has stood for 50 ms, if one has. -/
def SwitchRecord.due {α : Type} (r : SwitchRecord α) (now : Nat) : Option α :=
  match r.hold with
  | some (y, t) => if t + holdPeriod ≤ now then some y else none
  | none => none

def SwitchRecord.taken {α : Type} (x : α) : SwitchRecord α := ⟨x, none⟩

/-- A single contact after a reading. A release that has stood is taken here, since it gives no event. -/
def ContactRecord.read (r : ContactRecord) (x : Bool) (now : Nat) : ContactRecord :=
  if x = r.made then { r with hold := none }
  else match r.hold with
    | some t => if !x && t + holdPeriod ≤ now then ⟨false, none⟩ else { r with hold := some t }
    | none => { r with hold := some now }

/-- Whether a press is due: the contact is released, and has read made for 50 ms. -/
def ContactRecord.pressDue (r : ContactRecord) (now : Nat) : Bool :=
  !r.made && match r.hold with
    | some t => t + holdPeriod ≤ now
    | none => false

def ContactRecord.pressed : ContactRecord := ⟨true, none⟩

/-- A reading of every switch contact. The first reading after a start sets the buttons and the zone-reset key. -/
def Detection.readSwitches (d : Detection) (c : SwitchContacts) (now : Nat) : Detection :=
  let contact (r : ContactRecord) (x : Bool) : ContactRecord := if d.firstReading then r.read x now else ⟨x, none⟩
  { d with
    key := d.key.read (keyReadingOf c.keyService c.keyLockout) now
    brigade := d.brigade.read (brigadeReadingOf c.brigadeOpen c.brigadeClose) now
    openButton := contact d.openButton c.openButton
    closeButton := contact d.closeButton c.closeButton
    zoneResetKey := contact d.zoneResetKey c.zoneResetKey
    firstReading := true }

def Detection.button (d : Detection) : ServiceButton → ContactRecord
  | .openButton => d.openButton
  | .closeButton => d.closeButton

def Detection.setButton (d : Detection) (b : ServiceButton) (r : ContactRecord) : Detection :=
  match b with
  | .openButton => { d with openButton := r }
  | .closeButton => { d with closeButton := r }

/-- The direction a button gives (R81). -/
def buttonDirection : ServiceButton → ServiceDirection
  | .openButton => .opening
  | .closeButton => .closing

/-- The target a button gives (R113). -/
def buttonTarget : ServiceButton → Nat
  | .openButton => 1000
  | .closeButton => 0

/-! ### Refusal flash (R86) -/

def flashPeriod : Nat := 3000

def State.startFlash (s : State) : State := s.setDetection { s.detection with flashSince := some s.now }

end Sys2Proof.Machine
end

