-- ==== Sys2Proof/Machine/Zones.lean ====
section
/-! DEFINITION. The zone logic: mark adoption (R6, R7), the origin and latch-set steps (R8, R9), the settle-end verdict (R10),
the zone reset request (R11, R12), the own override (R15 to R17) and the brigade resolution (R18, R19). -/

namespace Sys2Proof.Machine

/-! ### Zone records -/

/-- A latch from a peer: CLEAR and PENDING become LATCHED, LATCHED keeps its source (R8, R9). -/
def ZoneRecord.latchPeer (z : ZoneRecord) (a : Nat) : ZoneRecord :=
  if z.state = .latched then z else { z with state := .latched, source := .peer a }

/-- A record whose mark has just been adopted or advanced, for a zone other than the smoke zone (R7). -/
def ZoneRecord.standDown (z : ZoneRecord) (mark : Byte) : ZoneRecord :=
  { z with mark := mark, state := .clear, source := .none }

/-- The same for the smoke zone: LATCHED becomes PENDING, unless the call point stands OPERATED (R7). -/
def ZoneRecord.standDownSmoke (z : ZoneRecord) (mark : Byte) (operated : Bool) : ZoneRecord :=
  match z.state with
  | .latched => if operated then { z with mark := mark } else { z with mark := mark, state := .pending, source := .none }
  | .clear => { z with mark := mark }
  | .pending => { z with mark := mark }

def State.callPointOperated (s : State) : Bool := s.detection.callPoint.state = .alarm

/-- R7's handling of one zone whose mark takes `mark`. -/
def State.adoptZone (s : State) (z : Zone) (mark : Byte) : ZoneRecord :=
  if z = s.cfg.smokeZone then (s.zones.records.get z).standDownSmoke mark s.callPointOperated
  else (s.zones.records.get z).standDown mark

/-- Whether the smoke zone's adoption asks for an immediate report (R7). -/
def State.adoptionReports (s : State) : Bool :=
  s.callPointOperated && (s.zones.records.get s.cfg.smokeZone).state = .latched

/-! ### A peer's report (R5) -/

/-- Whether a peer's mark is adopted (R6). -/
def State.adopts (s : State) (marks : PerZone Byte) (z : Zone) : Bool :=
  serialGreater (marks.get z) (s.zones.records.get z).mark

/-- The adoption step: the records, and the loop reset of an adopted smoke zone (R6, R7). -/
def State.adoptionStep (s : State) (marks : PerZone Byte) : State :=
  let t := s.setZones (PerZone.ofFn fun z => if s.adopts marks z then s.adoptZone z (marks.get z) else s.zones.records.get z)
  if s.adopts marks s.cfg.smokeZone then t.requestLoopReset else t

/-- The origin step (R8): a smoke zone outside 1..8 latches nothing. -/
def State.originStep (s : State) (a : Nat) (origin : Bool) (smokeZone : Nat) : State :=
  match Zone.ofNumber? smokeZone with
  | some z => if origin then s.setZones (s.zones.records.set z ((s.zones.records.get z).latchPeer a)) else s
  | none => s

/-- The latch-set step (R9): the zones listed whose marks are equal are latched. -/
def State.latchSetStep (s : State) (a : Nat) (latchSet : Byte) (marks : PerZone Byte) : State :=
  s.setZones (PerZone.ofFn fun z =>
    if z.isIn latchSet && marks.get z = (s.zones.records.get z).mark then (s.zones.records.get z).latchPeer a
    else s.zones.records.get z)

/-- The three steps on a report that is handed on, in their order (R5). -/
def State.zoneSteps (s : State) (a : Nat) (r : Report) : State :=
  ((s.adoptionStep r.marks).originStep a r.origin r.smokeZone).latchSetStep a r.latchSet r.marks

/-- Whether the report's adoption asks for an immediate report (R7). -/
def State.zoneStepsReport (s : State) (r : Report) : Bool :=
  s.adopts r.marks s.cfg.smokeZone && s.adoptionReports

/-! ### The settle end (R10) -/

def ZoneRecord.settleEnd (z : ZoneRecord) (alarm : Bool) : ZoneRecord :=
  match z.state with
  | .pending => if alarm then { z with state := .latched, source := .own } else { z with state := .clear, source := .none }
  | .latched => z
  | .clear => z

def State.deliverVerdict (s : State) : State :=
  let z := s.cfg.smokeZone
  s.setZones (s.zones.records.set z ((s.zones.records.get z).settleEnd (s.detection.localState = .alarm)))

/-! ### The zone reset request (R11, R12) -/

def State.anyLatched (s : State) : Bool := Zone.all.any fun z => (s.zones.records.get z).state = .latched

/-- The running comparison over the FRESH peers' marks, in ascending address order (R12). -/
def runningMark (own : Byte) (marks : List Byte) : Byte :=
  marks.foldl (fun acc m => if serialGreater m acc then m else acc) own

/-- The new mark from the own mark and the FRESH peers' marks (R12). -/
def newMark (own : Byte) (marks : List Byte) : Byte :=
  if serialGreater (runningMark own marks + 1#8) own then runningMark own marks + 1#8 else own + 1#8

def State.newMarkOf (s : State) (z : Zone) : Byte :=
  newMark (s.zones.records.get z).mark (s.peers.fresh.map fun p => p.2.marks.get z)

/-- Whether the request is refused (flash), ignored, or accepted. -/
inductive ResetTaking where
  | refused | ignored | accepted
deriving DecidableEq, Repr

def State.resetTaking (s : State) : ResetTaking :=
  if s.callPointOperated then .refused else if s.anyLatched then .accepted else .ignored

/-- An accepted zone reset request (R11): every LATCHED zone is handled as adopted at its new mark. -/
def State.acceptReset (s : State) : State :=
  let latched (z : Zone) : Bool := (s.zones.records.get z).state = .latched
  let t := s.setZones (PerZone.ofFn fun z => if latched z then s.adoptZone z (s.newMarkOf z) else s.zones.records.get z)
  if latched s.cfg.smokeZone then t.requestLoopReset else t

/-! ### Brigade overrides (R15 to R19) -/

def overlaps (a b : Byte) : Bool := (a &&& b) ≠ 0#8

/-- The override parts stored in FRESH records, with their addresses. -/
def State.peerOverrides (s : State) : List (Nat × Override) :=
  s.peers.fresh.filterMap fun p => p.2.overridePart.map fun o => (p.1, o)

/-- The epoch a new own record takes (R16). -/
def State.newEpoch (s : State) : Nat :=
  let peers := s.peerOverrides.filterMap fun p =>
    if overlaps p.2.zoneSet s.cfg.brigadeZones then some p.2.epoch else none
  let own := match s.zones.ownOverride with
    | some o => o.epoch
    | none => s.zones.remembered
  min 65535 (peers.foldl max own + 1)

/-- A change to OPEN or CLOSE forms a new own record (R16). -/
def State.formOverride (s : State) (a : OverrideAction) : State :=
  let e := s.newEpoch
  { s with zones := { s.zones with ownOverride := some ⟨a, s.cfg.brigadeZones, e⟩, remembered := e } }

/-- A change to AUTO drops it; the remembered epoch keeps its epoch (R17). -/
def State.dropOverride (s : State) : State := { s with zones := { s.zones with ownOverride := none } }

/-- The candidates of the resolution, with their addresses (R18). -/
def State.overrideCandidates (s : State) : List (Nat × Override) :=
  let all := (s.zones.ownOverride.toList.map fun o => (s.line.ownAddress, o)) ++ s.peerOverrides
  all.filter fun p => s.cfg.smokeZone.isIn p.2.zoneSet

/-- Of two candidates: the higher epoch, then the lower address (R18). -/
def betterOverride (p q : Nat × Override) : Nat × Override :=
  if p.2.epoch < q.2.epoch || (p.2.epoch = q.2.epoch && q.1 < p.1) then q else p

def winner : List (Nat × Override) → Option (Nat × Override)
  | [] => none
  | p :: ps => some (ps.foldl betterOverride p)

/-- The override that governs the smoke zone (R18). -/
def State.resolution (s : State) : Option OverrideAction := (winner s.overrideCandidates).map fun p => p.2.action

/-- The result handed to the demand resolver (R19). -/
def State.formBrigade (s : State) : State := { s with zones := { s.zones with brigade := s.resolution } }

end Sys2Proof.Machine
end

