-- ==== Sys2Proof/Machine/Demand.lean ====
section
/-! DEFINITION. The demand resolver: the six slots (R109 to R118), their resolution (R120 to R122), and the writing of set
service targets (R113, R114). -/

namespace Sys2Proof.Machine

/-! ### Slots -/

def OverrideAction.target : OverrideAction → Nat
  | .actOpen => 1000
  | .actClose => 0

/-- The FIRE value of an applied class (R112). -/
def Settings.fireValue (c : Settings) : SideClass → Nat
  | .leeward => c.fireOpening
  | .cross => c.fireOpening
  | .windward => 0
  | .undecided => c.unknownWindOpening

/-- The COMFORT slot (R115, R116). -/
def State.comfortSlot (s : State) : Option Nat :=
  if s.cfg.comfortSource = 0 then none
  else if s.cfg.comfortSource = s.line.ownAddress then some (s.detection.heldStep.getD 0 * 10)
  else some ((s.peers.comfortOf s.cfg.comfortSource).getD 0 * 10)

/-- The six slots of a table, formed from their sources as they stand (R109). -/
def State.slotsOf (s : State) (u : Leaf) : SlotValues where
  brigade := s.zones.brigade.map OverrideAction.target
  fire := if s.fire then some (s.cfg.fireValue (s.weather.sides.get u).applied) else none
  service := if s.key = .service then (s.tables.get u).serviceTarget else none
  comfort := s.comfortSlot
  storm := if s.weather.stormActive then some 0 else none
  rain := if s.weather.governingRain = .dry then none else some s.cfg.rainGap

/-! ### Resolution -/

/-- A value with the slot that gave it. -/
structure SlotValue where
  value : Nat
  slot  : Slot
deriving DecidableEq, Repr

/-- A present cap lowers a value that lies above it (R121). -/
def capBy (cap : Option Nat) (slot : Slot) (b : SlotValue) : SlotValue :=
  match cap with
  | some c => if c < b.value then ⟨c, slot⟩ else b
  | none => b

def SlotValue.pair (b : SlotValue) : Pair := ⟨some b.value, b.slot⟩

/-- The lower of the caps present, STORM on a tie (R122). -/
def SlotValues.lowerCap (v : SlotValues) : Option SlotValue :=
  match v.storm, v.rain with
  | some a, some b => if b < a then some ⟨b, .rain⟩ else some ⟨a, .storm⟩
  | some a, none => some ⟨a, .storm⟩
  | none, some b => some ⟨b, .rain⟩
  | none, none => none

def noTarget : Pair := ⟨none, .none⟩

/-- A table without a base (R122). -/
def SlotValues.resolveCaps (v : SlotValues) (rest : Option Nat) : Pair :=
  match v.lowerCap with
  | none => noTarget
  | some c => match rest with
    | none => c.pair
    | some p => if c.value < p then c.pair else noTarget

/-- The result of a table (R120 to R122). -/
def SlotValues.resolve (v : SlotValues) (rest : Option Nat) : Pair :=
  match v.brigade with
  | some b => ⟨some b, .brigade⟩
  | none => match v.fire with
    | some f => ⟨some f, .fire⟩
    | none => match v.service with
      | some x => (capBy v.storm .storm ⟨x, .service⟩).pair
      | none => match v.comfort with
        | some x => (capBy v.rain .rain (capBy v.storm .storm ⟨x, .comfort⟩)).pair
        | none => v.resolveCaps rest

def State.resultOf (s : State) (u : Leaf) : Pair := (s.slotsOf u).resolve (s.tables.get u).restPosition

/-! ### Set service targets (R113, R114) -/

/-- Every table's set service target written by `f`. -/
def State.setServiceTargets (s : State) (f : Leaf → Option Nat) : State :=
  let table (u : Leaf) : DemandTable :=
    if s.cfg.isUnit u then { s.tables.get u with serviceTarget := f u } else s.tables.get u
  { s with tables := Four.ofFn table }

/-- A stop: each table's present position, absent where it is not known. -/
def State.stopTargets (s : State) : State := s.setServiceTargets s.unitPosition

/-- The table serving a named leaf (R113). -/
def State.moveTarget (s : State) (l : Leaf) (target : Nat) : State :=
  let u := s.cfg.leader l
  s.setTable u { s.tables.get u with serviceTarget := some target }

/-- The rest position handed by the drive controller (R119). -/
def State.handRest (s : State) (u : Leaf) : State :=
  s.setTable u { s.tables.get u with restPosition := s.unitPosition u }

end Sys2Proof.Machine
end

