-- ==== Sys2Proof/Machine/Feedback.lean ====
section
/-! DEFINITION. The feedback unit: the timed estimate and its periods (R163, R164), switch-on and switch-off of a motor, edges
and alternation (R159, R160), the fixed points at the ends (R166, R167), presence probes (R170, R171), REFERENCE (R158). -/

namespace Sys2Proof.Machine

/-! ### Runs and driven directions -/

def UnitRecord.run? (x : UnitRecord) : Option Run :=
  match x.status with
  | .inFlight r => some r
  | .rest => none
  | .waiting _ => none

/-- The run in flight that a leaf takes part in. -/
def State.runOf (s : State) (l : Leaf) : Option Run :=
  (s.unitOf l).run?.bind fun r => if r.members.contains l then some r else none

def Stage.isRunning : Stage → Bool
  | .running => true
  | .starting _ => false
  | .rundown _ _ => false

/-- RUNNING, PROBING or RUNDOWN: where edges and the closed-frame switch are taken (R159, R165). -/
def Stage.moves : Stage → Bool
  | .running => true
  | .rundown _ _ => true
  | .starting _ => false

/-- The direction an edge is counted in: closing in a probe pulse, the run's own otherwise; none where edges are
discarded (R159, R170). -/
def State.drivenDirection (s : State) (l : Leaf) : Option Dir :=
  match (s.feedback.get l).probe with
  | .pulse _ => some .closing
  | .settle _ => none
  | .none => runDirection
  | .requested => runDirection
where
  runDirection : Option Dir := (s.runOf l).bind fun r => if r.stage.moves then some r.direction else none

/-! ### The timed estimate (R164) -/

/-- The estimate of a period: base plus or minus floor(elapsed x 1000 / T), held at 1000 or 0. -/
def periodEstimate (p : Period) (now stroke : Nat) (dir : Dir) : Nat :=
  let moved := (now - p.since) * 1000 / stroke
  match dir with
  | .opening => min 1000 (p.base + moved)
  | .closing => p.base - moved

def FeedbackRecord.formEstimate (f : FeedbackRecord) (now : Nat) (strokeOf : Speed → Nat) (dir : Dir) : FeedbackRecord :=
  match f.mode, f.period, f.estimate with
  | .timed, some p, some _ => { f with estimate := some (periodEstimate p now (strokeOf p.speed) dir) }
  | _, _, _ => f

/-- A period begins with the estimate as its base; without a known estimate none begins. -/
def FeedbackRecord.beginPeriod (f : FeedbackRecord) (now : Nat) (v : Speed) : FeedbackRecord :=
  match f.mode, f.estimate with
  | .timed, some e => { f with period := some ⟨e, now, v⟩ }
  | _, _ => { f with period := none }

def State.formEstimate (s : State) (l : Leaf) : State :=
  s.setFeedback l ((s.feedback.get l).formEstimate s.now (s.cfg.strokeTime l) ((s.drivenDirection l).getD .closing))

def State.beginPeriod (s : State) (l : Leaf) (v : Speed) : State :=
  s.setFeedback l ((s.feedback.get l).beginPeriod s.now v)

def State.endPeriod (s : State) (l : Leaf) : State :=
  let t := s.formEstimate l
  t.setFeedback l { t.feedback.get l with period := none }

/-! ### Motors -/

/-- The blanking period (R137, R147). -/
def blankingPeriod : Nat := 300

/-- A member's motor is switched on: blanking begins, and a motor-on period in TIMED mode (R137, R152, R164). -/
def State.switchOn (s : State) (l : Leaf) (v : Speed) : State :=
  (s.setMember l { s.members.get l with
    motorOn := true
    hold := .driving
    switchedOn := s.now
    checks := .blanking (s.now + blankingPeriod) }).beginPeriod l v

/-- A member's motor is switched off: its period, watchdog, checks and slice end (R137, R161, R164). -/
def State.switchOff (s : State) (l : Leaf) : State :=
  let t := s.endPeriod l
  (t.setFeedback l { t.feedback.get l with watchdog := none }).setMember l
    { t.members.get l with motorOn := false, checks := .off, slice := none }

/-! ### Change to TIMED (R163) -/

/-- The record in TIMED mode: the estimate takes the position, the count becomes unknown. -/
def FeedbackRecord.toTimed (f : FeedbackRecord) (stroke : Nat) : FeedbackRecord :=
  { f with mode := .timed, estimate := f.position stroke, count := none, watchdog := none, period := none }

/-- The speed of a motor that is on: its run's, or the free value in a probe pulse (log entry 21); none while it is off. -/
def State.motorSpeed (s : State) (l : Leaf) : Option Speed :=
  match (s.feedback.get l).probe with
  | .pulse _ => some Config.probePeriodSpeed
  | .none => runSpeed
  | .requested => runSpeed
  | .settle _ => runSpeed
where
  runSpeed : Option Speed := (s.runOf l).bind fun r => if (s.members.get l).motorOn then some r.speed else none

/-- The change to TIMED with the motor-on period it begins (R163). The estimate it starts from is not compared with the run's target
or end here, but at the next update, and for a member held with its motor off not before it is switched on again (log entry 47,
DEDUCED). -/
def State.toTimed (s : State) (l : Leaf) : State :=
  let t := s.setFeedback l ((s.feedback.get l).toTimed (s.cfg.stroke.get l))
  match s.motorSpeed l with
  | some v => t.beginPeriod l v
  | none => t

/-! ### Edges (R159, R160) -/

/-- The count moved by one edge, clamped to 0..stroke. -/
def stepCount (dir : Dir) (stroke n : Nat) : Nat :=
  match dir with
  | .opening => min stroke (n + 1)
  | .closing => n - 1

/-- An accepted edge: last line, watchdog restart, count. -/
def FeedbackRecord.acceptEdge (f : FeedbackRecord) (line : FeedbackLine) (dir : Dir) (stroke now : Nat) : FeedbackRecord :=
  { f with
    lastLine := some line
    watchdog := f.watchdog.map fun _ => now
    count := f.count.map (stepCount dir stroke) }

/-- What becomes of an edge. -/
inductive EdgeTaking where
  | discarded | alternation
  | accepted (dir : Dir)
deriving DecidableEq, Repr

def State.edgeTaking (s : State) (l : Leaf) (line : FeedbackLine) : EdgeTaking :=
  if (s.feedback.get l).mode = .timed then .discarded
  else match s.drivenDirection l with
    | none => .discarded
    | some dir => if (s.feedback.get l).lastLine = some line then .alternation else .accepted dir

def State.countEdge (s : State) (l : Leaf) (line : FeedbackLine) (dir : Dir) : State :=
  s.setFeedback l ((s.feedback.get l).acceptEdge line dir (s.cfg.stroke.get l) s.now)

/-! ### The ends (R166, R167) -/

/-- The position fixed at an end: the count, or the estimate with a period in progress based there. -/
def FeedbackRecord.fixAt (f : FeedbackRecord) (count position now : Nat) : FeedbackRecord :=
  match f.mode with
  | .pulse => { f with count := some count }
  | .timed => { f with estimate := some position, period := f.period.map fun p => { p with base := position, since := now } }

/-- A drift event at the closed end: PULSE, count known, position above 10 (R166). -/
def FeedbackRecord.closedDrift (f : FeedbackRecord) (stroke : Nat) : Bool :=
  f.mode = .pulse && match f.count with
    | some n => 10 < positionOfCount n stroke
    | none => false

/-- A drift event at the open end: PULSE, count known, short of stroke by more than 30 per mille (R167). -/
def FeedbackRecord.openDrift (f : FeedbackRecord) (stroke : Nat) : Bool :=
  f.mode = .pulse && match f.count with
    | some n => stroke * 30 / 1000 < distance stroke n
    | none => false

def FeedbackRecord.countDrift (f : FeedbackRecord) (drifted : Bool) : FeedbackRecord :=
  if drifted then { f with drift := fieldSucc f.drift } else f

/-- The closed-frame switch made (R166). -/
def State.meetClosed (s : State) (l : Leaf) : State :=
  let f := s.feedback.get l
  s.setFeedback l ((f.countDrift (f.closedDrift (s.cfg.stroke.get l))).fixAt 0 0 s.now)

/-- A cut-out on an opening run (R167). -/
def State.meetOpen (s : State) (l : Leaf) : State :=
  let f := s.feedback.get l
  let stroke := s.cfg.stroke.get l
  s.setFeedback l ((f.countDrift (f.openDrift stroke)).fixAt stroke 1000 s.now)

/-- A cut-out on a closing run: the position is 0, without a drift event (R167). -/
def State.cutOutClosed (s : State) (l : Leaf) : State :=
  s.setFeedback l ((s.feedback.get l).fixAt 0 0 s.now)

/-! ### Presence probes and REFERENCE -/

/-- The two phases of a probe, 50 ms each (R170). -/
def probePhase : Nat := 50

/-- A granted probe begins with its direction settle. -/
def State.grantProbe (s : State) (l : Leaf) : State :=
  s.setFeedback l { s.feedback.get l with probe := .settle (s.now + probePhase) }

/-- The closing pulse begins; the last line becomes none (R160). -/
def State.beginPulse (s : State) (l : Leaf) : State :=
  (s.setFeedback l { s.feedback.get l with probe := .pulse (s.now + probePhase), lastLine := none }).beginPeriod l
    Config.probePeriodSpeed

/-- The pulse ends with a finding. -/
def State.endPulse (s : State) (l : Leaf) (presence : Presence) : State :=
  let t := s.endPeriod l
  t.setFeedback l { t.feedback.get l with probe := .none, presence := presence }

/-- A probe in progress is stopped and owed again (R171). -/
def State.stopProbe (s : State) (l : Leaf) : State :=
  if (s.feedback.get l).probe.inProgress then
    let t := s.endPeriod l
    t.setFeedback l { t.feedback.get l with probe := .requested }
  else s

/-- A record at a start, but for a kept count (R158). -/
def FeedbackRecord.started (count : Option Nat) : FeedbackRecord :=
  { FeedbackRecord.atStart with count := count, probe := .requested }

/-- A record at a REFERENCE: as at a start, its drift events kept (R158). -/
def FeedbackRecord.referenced (f : FeedbackRecord) : FeedbackRecord :=
  { FeedbackRecord.started none with drift := f.drift }

end Sys2Proof.Machine
end

