-- ==== Sys2Proof/Machine/Drive.lean ====
section
/-! DEFINITION. The drive controller: when a unit needs a run (R131), starting (R137), travel timeout (R140), arrival and
probing (R143 to R146), gang synchronisation (R152), new pairs (R139, R141, R148, R151, R156), the end of a RUNDOWN (R142,
R149, R150), LOCKOUT and LOW (R153, R154), the arbiter with preemption (R133 to R136). A unit is a single leaf or a gang's
leader. -/

namespace Sys2Proof.Machine

/-! ### Rest, need and withholding -/

def State.setStatus (s : State) (u : Leaf) (st : UnitStatus) : State :=
  s.setUnit u { s.units.get u with status := st }

def State.setRun (s : State) (u : Leaf) (r : Run) : State := s.setStatus u (.inFlight r)

/-- A unit is placed at rest and its rest position handed to the demand resolver (R119, R130). -/
def State.placeAtRest (s : State) (u : Leaf) : State := (s.setStatus u .rest).handRest u

/-- Whether a pair calls for a run of a unit at its position (R131). -/
def State.wantsRun (s : State) (u : Leaf) (p : Pair) : Bool :=
  match p.target, s.unitPosition u with
  | none, _ => false
  | some _, none => true
  | some t, some q => deadband < distance t q

/-- Every probe of the unit has ended (R155). -/
def State.probesEnded (s : State) (u : Leaf) : Bool :=
  (s.cfg.membersOf u).all fun l => (s.feedback.get l).presence ≠ .unprobed

/-- Every probe of the unit has ended, and a member is present (R128, R155). -/
def State.probed (s : State) (u : Leaf) : Bool := s.probesEnded u && !(s.presentMembers u).isEmpty

def UnitRecord.outOfService (x : UnitRecord) : Bool := 4 ≤ x.failureCount

/-- A unit needs a run (R131): OUT_OF_SERVICE for an owed fire attempt alone (R151), else for an owed reference (R156) or
its pair. -/
def State.needsRun (s : State) (u : Leaf) : Bool :=
  let x := s.units.get u
  s.probed u && if x.outOfService then x.fireOwed else x.referenceOwed || s.wantsRun u x.pair

/-- LOW withholds and stops what is governed below FIRE (R131, R154). -/
def State.lowBars (s : State) (slot : Slot) : Bool := s.supply.state = .low && !slot.fireClass

/-- What withholds a unit from the queue (R131). -/
def State.withheld (s : State) (u : Leaf) : Bool :=
  let x := s.units.get u
  x.retryHold.isSome || s.key = .lockout || s.lowBars x.pair.slot

/-- A unit at rest is judged (R131). -/
def State.judge (s : State) (u : Leaf) : State :=
  if s.cfg.isUnit u && (s.units.get u).status = .rest && s.needsRun u && !s.withheld u
  then s.setStatus u (.waiting s.now) else s

def State.judgeAll (s : State) : State := N4.all.foldl State.judge s

/-! ### Starting a run -/

/-- Target, direction and kind of a run. -/
structure Aim where
  target    : Nat
  direction : Dir
  kind      : RunKind
deriving DecidableEq, Repr

/-- The direction an UNREF unit runs in (R137, R146). -/
def unrefDirection (target : Nat) : Dir := if target = 1000 then .opening else .closing

def endOf : Dir → Nat
  | .opening => 1000
  | .closing => 0

/-- Where a run under a target goes (R137, R146). -/
def State.aimAt (s : State) (u : Leaf) (target : Nat) : Aim :=
  match s.unitPosition u with
  | none => ⟨endOf (unrefDirection target), unrefDirection target, .unref⟩
  | some p => ⟨target, if p < target then .opening else .closing, .normal⟩

def referenceAim : Aim := ⟨0, .closing, .reference⟩

/-- STARTING lasts 50 ms (R137). -/
def startingPeriod : Nat := 50

def Aim.run (a : Aim) (slot : Slot) (members : List Leaf) (now : Nat) : Run where
  kind := a.kind
  backoff := false
  target := a.target
  direction := a.direction
  speed := slot.speed
  slot := slot
  stage := .starting (now + startingPeriod)
  timeoutDue := none
  members := members
  pinchFrom := now

/-- The members' records at the entry to STARTING. -/
def State.readyMembers (s : State) (ls : List Leaf) : State :=
  ls.foldl (fun t l => t.setMember l { MemberRecord.atStart with switchedOn := (t.members.get l).switchedOn }) s

/-- A queue entry is started (R137): owed runs are cleared as they start (R151, R156), last-run-failed is cleared. -/
def State.startUnit (s : State) (u : Leaf) : State :=
  let x := s.units.get u
  let aim := if x.referenceOwed then referenceAim else s.aimAt u (x.pair.target.getD 0)
  let r := aim.run x.pair.slot (s.presentMembers u) s.now
  (s.setUnit u { x with
    status := .inFlight r
    lastDirection := some aim.direction
    lastRunFailed := false
    fireOwed := false
    referenceOwed := false }).readyMembers r.members

/-- The travel timeout's length (R140). -/
def timeoutLength (stroke dist : Nat) : Nat := stroke * dist / 1000 * 5 / 4 + 2000

def wholeStrokeTimeout (stroke : Nat) : Nat := stroke * 5 / 4 + 2000

def State.runTimeout (s : State) (u : Leaf) (r : Run) : Nat :=
  let t := s.cfg.strokeTime u r.speed
  match r.kind, s.unitPosition u with
  | .normal, some p => timeoutLength t (distance p r.target)
  | _, _ => wholeStrokeTimeout t

/-- The entry to RUNNING (R137): motors on, last line none (R160), timeout formed. -/
def State.enterRunning (s : State) (u : Leaf) (r : Run) : State :=
  let t := r.members.foldl (fun t l =>
    (t.setFeedback l { t.feedback.get l with lastLine := none }).switchOn l r.speed) s
  t.setRun u { r with stage := .running, timeoutDue := some (s.now + s.runTimeout u r) }

/-! ### Ending a run's movement -/

/-- RUNDOWN lasts 150 ms (R130). -/
def rundownPeriod : Nat := 150

/-- Every member's motor is switched off and the unit passes to RUNDOWN. -/
def State.toRundown (s : State) (u : Leaf) (r : Run) (e : Ending) : State :=
  (r.members.foldl State.switchOff s).setRun u
    { r with stage := .rundown (s.now + rundownPeriod) e, timeoutDue := none }

def MemberRecord.finished (m : MemberRecord) : Bool := m.hold = .done

/-- The timeout stops when each member is in PROBING or held at its arrival or end (R140). -/
def State.settleTimeout (s : State) (u : Leaf) (r : Run) : State :=
  if r.members.all fun l => (s.members.get l).finished || (s.members.get l).slice.isSome
  then s.setRun u { r with timeoutDue := none } else s

/-- How a run ends when every member has arrived or reached its end: a back-off ends with PINCH (R148). -/
def Run.arrivalEnding (r : Run) : Ending := if r.backoff then .fault .pinch else .clean

/-- A member is switched off and held at its arrival or end; with the last one the unit passes to RUNDOWN (R143, R152). -/
def State.finishMember (s : State) (u : Leaf) (r : Run) (l : Leaf) : State :=
  let t := s.switchOff l
  let t := t.setMember l { t.members.get l with hold := .done }
  if r.members.all fun m => (t.members.get m).finished then t.toRundown u r r.arrivalEnding
  else t.settleTimeout u r

/-- A probing slice's length: the present speed's stroke time x 20 / 1000 (R144). -/
def State.sliceLength (s : State) (l : Leaf) (v : Speed) : Nat := s.cfg.strokeTime l v * 20 / 1000

/-- A member held for synchronisation whose coasting brings it to the end is switched on, since PROBING runs with the motor
on (R130, R144; log entry 36). -/
def State.probingMotor (s : State) (r : Run) (l : Leaf) : State :=
  if (s.members.get l).hold = .syncHeld then s.switchOn l r.speed else s

/-- A member enters PROBING with its motor on (R144, R145, R161). -/
def State.beginProbing (s : State) (u : Leaf) (r : Run) (l : Leaf) : State :=
  let s := s.probingMotor r l
  let t := s.setMember l { s.members.get l with slice := some ⟨1, s.now + s.sliceLength l r.speed⟩ }
  (t.setFeedback l { t.feedback.get l with watchdog := none }).settleTimeout u r

/-- The count or estimate has reached the run target in the run direction (R143). -/
def State.reached (s : State) (r : Run) (l : Leaf) : Bool :=
  let f := s.feedback.get l
  let stroke := s.cfg.stroke.get l
  let at? : Option (Nat × Nat) := match f.mode with
    | .pulse => f.count.map fun n => (n, targetCount r.target stroke)
    | .timed => f.estimate.map fun e => (e, r.target)
  match at?, r.direction with
  | none, _ => false
  | some (n, goal), .opening => goal ≤ n
  | some (n, goal), .closing => n ≤ goal

/-- A run to an end goes on to the end; a back-off held at 1000 arrives there (R144, R145, log entry 19). The attempt of an
OUT_OF_SERVICE leaf that stands at 1000 under target 1000 is a closing run by R137, so its target is not its own end: it arrives by
count at its first edge, where R143 leaves target 1000 out and R145 calls it an opening-end run (log entry 44, DEDUCED). -/
def Run.toEnd (r : Run) : Bool := !r.backoff && r.target = endOf r.direction

/-- A member's count or estimate compared with the run target: one that drives, and one held for synchronisation, whose
coasting edges are counted (R143 to R146, R152, R159, R164). -/
def State.checkReach (s : State) (l : Leaf) : State :=
  match s.runOf l with
  | none => s
  | some r =>
    let m := s.members.get l
    if r.stage.isRunning && r.kind = .normal && m.hold ≠ .done && m.slice.isNone && s.reached r l then
      if r.toEnd then s.beginProbing (s.cfg.leader l) r l else s.finishMember (s.cfg.leader l) r l
    else s

/-! ### Gang synchronisation (R152) -/

/-- How far position `a` lies ahead of `b` in a direction. -/
def lead (dir : Dir) (a b : Nat) : Int :=
  match dir with
  | .opening => (a : Int) - (b : Int)
  | .closing => (b : Int) - (a : Int)

def State.holdMember (s : State) (l : Leaf) : State :=
  let t := s.switchOff l
  t.setMember l { t.members.get l with hold := .syncHeld }

/-- A leading member is held; the estimate formed at its switch-off is compared with the run target (R164). -/
def State.holdLeading (s : State) (l : Leaf) : State := (s.holdMember l).checkReach l

/-- Two members compared: a held leader resumes within 10, a leader ahead by more than 30 is held. -/
def State.syncPair (s : State) (r : Run) (a b : Leaf) : State :=
  match s.position a, s.position b with
  | some pa, some pb =>
    let ma := s.members.get a
    let mb := s.members.get b
    let ahead := lead r.direction pa pb
    let free := ma.hold = .driving && mb.hold = .driving && ma.slice.isNone && mb.slice.isNone
    if ma.hold = .syncHeld then (if ahead ≤ 10 then s.switchOn a r.speed else s)
    else if mb.hold = .syncHeld then (if -ahead ≤ 10 then s.switchOn b r.speed else s)
    else if free && 30 < ahead then s.holdLeading a
    else if free && 30 < -ahead then s.holdLeading b
    else s
  | _, _ => s

def State.syncGang (s : State) (l : Leaf) : State :=
  match s.runOf l with
  | some r => if r.stage.isRunning then
      match r.members with
      | [a, b] => s.syncPair r a b
      | _ => s
    else s
  | none => s

/-- What follows a change of a member's count or estimate. -/
def State.moved (s : State) (l : Leaf) : State := (s.checkReach l).syncGang l

/-! ### New pairs in flight (R138, R139, R141) -/

/-- Motor-on periods end and begin again at a speed change (R164). The estimate is formed there, since the next period's base takes
it; it is compared in that event only where the target is replaced, and else at the next update: R164 names forming only at the update
and at a switch-off (log entry 45, DEDUCED). -/
def State.changeSpeed (s : State) (r : Run) (v : Speed) : State :=
  if v = r.speed then s
  else r.members.foldl (fun t l => if (t.members.get l).motorOn then (t.endPeriod l).beginPeriod l v else t) s

/-- A run goes on under a new pair: speed and slot follow it; the timeout is formed again where the target was replaced
or the speed changed (R138, R140). A probing slice in progress keeps the end it was formed with, and the next slice has the
new speed's length: the specification does not say whether it is formed again (log entry 37, DEDUCED). -/
def State.continueRun (s : State) (u : Leaf) (r : Run) (p : Pair) (aim : Aim) (replaced : Bool) : State :=
  let v := p.slot.speed
  let t := s.changeSpeed r v
  let r' : Run := { r with
    kind := aim.kind
    target := aim.target
    speed := v
    slot := p.slot
    pinchFrom := if r.slot.fireClass && !p.slot.fireClass then s.now else r.pinchFrom }
  let due := if r.timeoutDue.isSome && (replaced || v ≠ r.speed) then some (s.now + t.runTimeout u r') else r.timeoutDue
  t.setRun u { r' with timeoutDue := due }

/-- A target lies beyond a position in a direction, by more than `by_`. -/
def beyond (dir : Dir) (target position by_ : Nat) : Bool :=
  match dir with
  | .opening => position + by_ < target
  | .closing => target + by_ < position

/-- Members held with the motor off are switched on again where a replaced target lies beyond their own position. -/
def State.resumeHeld (s : State) (r : Run) (target : Nat) : State :=
  r.members.foldl (fun t l =>
    match t.position l with
    | some p => if (t.members.get l).hold ≠ .driving && beyond r.direction target p 0
        then t.switchOn l r.speed else t
    | none => t) s

/-- A run is stopped by a new pair. `again`: an OUT_OF_SERVICE leaf's attempt is owed again under a FIRE or BRIGADE pair. -/
def State.stopForPair (s : State) (u : Leaf) (r : Run) (p : Pair) (again : Bool) (e : Ending) : State :=
  let x := s.units.get u
  (s.setUnit u { x with fireOwed := again && x.outOfService && p.slot.fireClass }).toRundown u r e

/-- Every member compared with a replaced target: one at or past it has arrived (R143, R152, R162). -/
def State.checkReaches (s : State) (ls : List Leaf) : State := ls.foldl State.checkReach s

/-- Whether a target more than the deadband beyond a position replaces the run's: outside PROBING any, in PROBING the end that the
run probes (R141). -/
def State.replaces (s : State) (r : Run) (target position : Nat) (sameEnd : Bool) : Bool :=
  beyond r.direction target position deadband && (sameEnd || r.members.all fun l => (s.members.get l).slice.isNone)

/-- A referenced unit in RUNNING or PROBING takes a new target (R141). One beyond the position forms the timeout again, be it the
end the run goes to already; a run keeps going to its own end wherever its position stands. That a held member is driven on where
the target stays the same is the model's reading (log entry 24, DEDUCED). -/
def State.retarget (s : State) (u : Leaf) (r : Run) (p : Pair) (target : Nat) : State :=
  let aim : Aim := ⟨target, r.direction, r.kind⟩
  let sameEnd := target = r.target && target = endOf r.direction
  match s.unitPosition u with
  | none => if sameEnd then s.continueRun u r p aim false else s.stopForPair u r p true .stopped
  | some q =>
    if s.replaces r target q sameEnd then
      ((s.continueRun u r p aim true).resumeHeld { r with speed := p.slot.speed } target).checkReaches r.members
    else if sameEnd then s.continueRun u r p aim false
    else s.stopForPair u r p (deadband < distance target q) .stopped

/-- An UNREF run, or a reference run under a FIRE or BRIGADE pair, takes a new target (R141, R156). A reference run that goes on under
such a pair is an UNREF run from there, so later pairs below FIRE retarget it and it may be preempted; R156 says only that the pair
is taken as a retarget of an UNREF run (log entry 46, DEDUCED). -/
def State.retargetUnref (s : State) (u : Leaf) (r : Run) (p : Pair) (target : Nat) : State :=
  if unrefDirection target = r.direction then s.continueRun u r p ⟨r.target, r.direction, .unref⟩ false
  else s.stopForPair u r p true .stopped

def Run.stored (r : Run) (p : Pair) : Bool := r.backoff || (r.kind = .reference && !p.slot.fireClass)

/-- A unit in RUNNING or PROBING takes a new pair. -/
def State.takeRunning (s : State) (u : Leaf) (r : Run) (p : Pair) : State :=
  if s.lowBars p.slot then s.stopForPair u r p false .halted
  else if (s.units.get u).outOfService && !p.slot.fireClass then s.stopForPair u r p false .stopped
  else match p.target with
    | none => s.stopForPair u r p false .stopped
    | some t => match r.kind with
      | .normal => s.retarget u r p t
      | .unref => s.retargetUnref u r p t
      | .reference => s.retargetUnref u r p t

/-- A unit in STARTING takes a new pair (R139). -/
def State.takeStarting (s : State) (u : Leaf) (r : Run) (p : Pair) : State :=
  let x := s.units.get u
  let needs := if x.outOfService then p.slot.fireClass else s.wantsRun u p
  if needs && !s.lowBars p.slot then
    let aim := s.aimAt u (p.target.getD 0)
    s.setUnit u { x with
      status := .inFlight (aim.run p.slot r.members s.now)
      lastDirection := some aim.direction }
  else s.placeAtRest u

/-- The owed runs and the hold under a new pair (R150, R151, R156). A FIRE or BRIGADE pair stored in the RUNDOWN or back-off of the
run that becomes the fourth failure owes no attempt, since the count is 3 when it is taken; the specification does not name the case
(log entry 15, DEDUCED). -/
def UnitRecord.withPair (x : UnitRecord) (p : Pair) : UnitRecord :=
  let inMotion := match x.run? with
    | some r => match r.stage with
      | .rundown _ _ => false
      | .starting _ => true
      | .running => true
    | none => false
  { x with
    pair := p
    fireOwed := p.slot.fireClass && x.outOfService && !inMotion
    referenceOwed := x.referenceOwed && !p.slot.fireClass
    retryHold := match x.retryHold with
      | some h => if p.slot.fireClass && h.period = 30000 then none else some h
      | none => none }

/-- The drive controller takes a new pair (R139, R141, R142, R148, R156). -/
def State.takePair (s : State) (u : Leaf) (p : Pair) : State :=
  let x := (s.units.get u).withPair p
  let t := s.setUnit u x
  match x.status with
  | .rest => t
  | .waiting _ => if t.needsRun u && !t.withheld u then t else t.placeAtRest u
  | .inFlight r =>
    if r.stored p then t
    else match r.stage with
      | .rundown _ _ => t
      | .starting _ => t.takeStarting u r p
      | .running => t.takeRunning u r p

/-- A table is evaluated, and a changed pair handed (R123). -/
def State.handPair (s : State) (u : Leaf) : State :=
  if s.cfg.isUnit u && s.resultOf u ≠ (s.units.get u).pair then s.takePair u (s.resultOf u) else s

def State.handPairs (s : State) : State := N4.all.foldl State.handPair s

/-! ### The end of a RUNDOWN (R142, R148 to R150) -/

/-- The reversal pause, and the time from a pinch's RUNDOWN to the back-off's RUNNING. -/
def reversalPause : Nat := 500

def RunFault.losesEstimate : RunFault → Bool
  | .stall => true
  | .overcurrent => true
  | .travelTimeout => true
  | .pinch => false
  | .closeUnconfirmed => false
  | .openUnconfirmed => false

/-- The estimate becomes unknown in TIMED mode at a STALL, OVERCURRENT or TRAVEL_TIMEOUT (R149, R163). It does so too where the
fourth failure places the leaf OUT_OF_SERVICE, and for every TIMED member of a gang, whichever member the fault was found at:
the specification speaks of a leaf placed in UNREF and of a run in TIMED mode only. The mode is judged here, at the end of the
RUNDOWN, so a run whose fault was found in PULSE mode and whose RUNDOWN brought an alternation fault counts as one in TIMED mode; the
specification does not name the moment (log entry 39, DEDUCED). -/
def State.loseEstimates (s : State) (r : Run) (f : RunFault) : State :=
  if f.losesEstimate then
    r.members.foldl (fun t l => if (t.feedback.get l).mode = .timed
      then t.setFeedback l { t.feedback.get l with estimate := none } else t) s
  else s

/-- The retry hold of a failed run (R148, R150). -/
def retryHoldOf (r : Run) (f : RunFault) (p : Pair) (now : Nat) : Option RetryHold :=
  if r.slot.fireClass then some ⟨5000, now⟩
  else if f = .pinch && p.slot.fireClass then none
  else some ⟨30000, now⟩

/-- A run ends with a fault (R149). -/
def UnitRecord.failed (x : UnitRecord) (r : Run) (f : RunFault) (now : Nat) : UnitRecord :=
  let n := min 4 (x.failureCount + 1)
  { x with
    failureCount := n
    lastFault := some f
    lastRunFailed := true
    retryHold := if n < 4 then retryHoldOf r f x.pair now else none }

/-- A pinch's back-off begins: opening, to 50 beyond the position (R148). A gang's is one target for both members, formed from the
gang position; the specification does not say which position it takes (log entry 41, DEDUCED). -/
def State.beginBackoff (s : State) (u : Leaf) (r : Run) : State :=
  (s.setUnit u { s.units.get u with
    status := .inFlight { r with
      kind := .normal
      backoff := true
      target := min 1000 ((s.unitPosition u).getD 0 + 50)
      direction := .opening
      stage := .starting (s.now + reversalPause) }
    lastDirection := some .opening }).readyMembers r.members

/-- The run ends, and the unit goes as the ending gives. -/
def State.endRun (s : State) (u : Leaf) (r : Run) (e : Ending) : State :=
  let x := { s.units.get u with reversal := some (r.direction, s.now + reversalPause) }
  let t := s.setUnit u x
  match e with
  | .clean => (t.setUnit u { x with failureCount := 0, fireOwed := false }).placeAtRest u
  | .fault f => ((t.setUnit u (x.failed r f s.now)).loseEstimates r f).placeAtRest u
  | .pinched => if s.phase = .running then t.beginBackoff u r else t.placeAtRest u
  | .stopped => if s.phase = .running && t.needsRun u && !t.withheld u then t.setStatus u (.waiting s.now)
      else t.placeAtRest u
  | .halted => t.placeAtRest u

/-! ### LOCKOUT, LOW and the restart wait (R153, R154, R192) -/

/-- An attempt stopped by LOCKOUT is owed again (R151). -/
def UnitRecord.oweAgain (x : UnitRecord) : UnitRecord :=
  { x with fireOwed := x.outOfService && x.pair.slot.fireClass }

/-- A waiting unit leaves the queue; a run is stopped, at once from STARTING and else through RUNDOWN; a pinch RUNDOWN
goes on without its back-off. A back-off already in its last RUNDOWN keeps its ending, so PINCH is counted: R148 names the pinch's
RUNDOWN, STARTING and RUNNING alone, and R153 says that no fault is counted for a back-off in progress (log entry 43, DEDUCED). -/
def State.halt (s : State) (u : Leaf) : State :=
  match (s.units.get u).status with
  | .rest => s
  | .waiting _ => s.placeAtRest u
  | .inFlight r =>
    match r.stage with
    | .starting _ => (s.setUnit u (s.units.get u).oweAgain).placeAtRest u
    | .running => (s.setUnit u (s.units.get u).oweAgain).toRundown u r .halted
    | .rundown due e => if e = .pinched then s.setRun u { r with stage := .rundown due .halted } else s

def State.haltAll (s : State) : State := N4.all.foldl State.halt s

def State.stopProbes (s : State) : State := N4.all.foldl State.stopProbe s

/-- The slot that LOW judges a unit by: its entry's, or its run's. -/
def UnitRecord.motionSlot (x : UnitRecord) : Slot :=
  match x.run? with
  | some r => r.slot
  | none => x.pair.slot

/-- Entry to LOW (R154). -/
def State.haltBelowFire (s : State) : State :=
  N4.all.foldl (fun t u => if (t.units.get u).motionSlot.fireClass then t else t.halt u) s

/-! ### The arbiter (R133 to R136) -/

def State.probeWaiting (s : State) : Option Leaf :=
  (N4.all.filterMap s.leafAt).find? fun l => (s.feedback.get l).probe = .requested

/-- The entry served: the head of the queue, where a gang needing two slots is passed over while the count is 1 (R135). -/
def State.servedHead (s : State) : Option Leaf :=
  s.startQueue.find? fun u => !(s.supply.slotCount = 1 && 2 ≤ s.slotsNeeded u)

/-- The direction an entry would be started in. -/
def State.nextDirection (s : State) (u : Leaf) : Dir :=
  let x := s.units.get u
  if x.referenceOwed then .closing else (s.aimAt u (x.pair.target.getD 0)).direction

/-- Whether the entry's reversal pause, if any, has run out (R135). -/
def State.pauseOver (s : State) (u : Leaf) : Bool :=
  match (s.units.get u).reversal with
  | some (d, due) => d = s.nextDirection u || due ≤ s.now
  | none => true

/-- A run that preemption may stop (R136). -/
def Run.preemptable (r : Run) : Bool :=
  !r.slot.fireClass && r.kind ≠ .reference && !r.backoff && match r.stage with
    | .rundown _ _ => false
    | .starting _ => true
    | .running => true

def State.preemptable (s : State) (u : Leaf) : Option Run :=
  (s.units.get u).run?.bind fun r => if r.preemptable then some r else none

/-- Of two runs, the one stopped first: the lower rank, then the higher leaf number; the list is in leaf order. -/
def stoppedFirst (p q : Leaf × Run) : Leaf × Run := if p.2.slot.rank < q.2.slot.rank then p else q

def State.preemptCandidate (s : State) : Option (Leaf × Run) :=
  match N4.all.filterMap fun u => (s.preemptable u).map fun r => (u, r) with
  | [] => none
  | c :: cs => some (cs.foldl stoppedFirst c)

/-- A preempted run stops; from STARTING at once, and the leaf goes back to the queue where it needs a run. Otherwise it comes to
rest, which evaluates its table (R119, R123) and judges it (R131). -/
def State.preempt (s : State) (u : Leaf) (r : Run) : State :=
  if r.stage.isRunning then s.toRundown u r .stopped
  else if s.needsRun u && !s.withheld u then s.setStatus u (.waiting s.now)
  else ((s.placeAtRest u).handPair u).judge u

/-- One step of serving; none where nothing more starts or stops. -/
def State.serveStep (s : State) : Option State :=
  match s.probeWaiting, decide (1 ≤ s.freeSlots) with
  | some l, true => some (s.grantProbe l)
  | _, _ =>
    match s.servedHead with
    | none => none
    | some u =>
      let need : Int := (s.slotsNeeded u : Nat)
      if need ≤ s.freeSlots then (if s.pauseOver u then some (s.startUnit u) else none)
      else if (s.units.get u).pair.slot.fireClass && s.comingFree < need then
        s.preemptCandidate.map fun c => s.preempt c.1 c.2
      else none

def State.serveLoop : Nat → State → State
  | 0, s => s
  | n + 1, s => match s.serveStep with
    | some t => State.serveLoop n t
    | none => s

/-- The arbiter serves: at most four probes granted, four entries started and four runs stopped, each once. -/
def State.serve (s : State) : State :=
  if s.phase = .running && s.key ≠ .lockout then s.serveLoop 16 else s

end Sys2Proof.Machine
end

