-- ==== Sys2Proof/Machine/Report.lean ====
section
/-! DEFINITION. The report composer: composing a report from the blocks' state (R20 to R26), the reportable content and its
urgent items (R30), making a report due in the pending-report slot (R32). -/

namespace Sys2Proof.Machine

/-! ### Composing (R20 to R26) -/

/-- The summary state of a motion state (R26); an ABSENT leaf has no entry. -/
def Motion.summary : Motion → Summary
  | .absent => .out
  | .unref => .unref
  | .idle => .idle
  | .waiting => .moving
  | .starting => .moving
  | .running => .moving
  | .rundown => .moving
  | .probing => .moving
  | .outOfService => .out

/-- The condition and flags (R21). -/
def State.condition (s : State) : Condition := if s.key = .service then .atService else .running

def State.reportFlags (s : State) : ReportFlags where
  fire := s.fire
  isolated := s.peers.isolated
  degraded := s.line.degraded
  battery := s.supply.state = .battery || s.supply.state = .low
  low := s.supply.state = .low
  lockout := s.key = .lockout

def State.leafEntry (s : State) (l : Leaf) : LeafEntry where
  leaf := l
  position := s.unitPosition (s.cfg.leader l)
  summary := (s.motion l).summary
  slot := (s.unitOf l).pair.slot
  atTarget := s.atTarget l
  estimated := (s.feedback.get l).mode = .timed
  lastRunFailed := (s.unitOf l).lastRunFailed

/-- The leaves that have an entry: mapped, neither ABSENT nor UNPROBED (R25). -/
def State.hasEntry (s : State) (l : Leaf) : Bool := s.cfg.mapped l && (s.feedback.get l).presence = .present

def State.leafEntries (s : State) : List LeafEntry := (N4.all.filter s.hasEntry).map s.leafEntry

def State.origin (s : State) : Bool := s.detection.localState = .alarm

def State.latchSet (s : State) : Byte := Zone.setOf fun z => (s.zones.records.get z).state = .latched

def State.marks (s : State) : PerZone Byte := PerZone.ofFn fun z => (s.zones.records.get z).mark

/-- The report composed now, with a sequence number (R20 to R26). -/
def State.composeReport (s : State) (sequence : Byte) : Report where
  source := s.line.ownAddress
  sequence := sequence
  condition := s.condition
  flags := s.reportFlags
  smokeZone := s.cfg.smokeZone.number
  origin := s.origin
  latchSet := s.latchSet
  marks := s.marks
  weather := s.ownWeather
  comfort := if s.cfg.bmEnable then some (s.detection.heldStep.getD 0) else none
  overridePart := s.zones.ownOverride
  leaves := s.leafEntries

/-! ### Reportable content (R30) -/

def LeafEntry.blank (e : LeafEntry) : LeafEntry := { e with position := none }

/-- The reportable content: a report but for its sequence and its entries' positions. -/
def Report.content (r : Report) : Report := { r with sequence := 0#8, leaves := r.leaves.map LeafEntry.blank }

def State.content (s : State) : Report := (s.composeReport 0#8).content

/-- Whether two contents differ in an urgent item: ORIGIN, latch set, a mark, the override part. -/
def urgentDifference (a b : Report) : Bool :=
  a.origin ≠ b.origin || a.latchSet ≠ b.latchSet || a.marks ≠ b.marks || a.overridePart ≠ b.overridePart

/-- Whether the content differs from the last composed content; it always differs from none. -/
def State.contentDiffers (s : State) : Bool := s.composer.lastComposed.map Report.content ≠ some s.content

/-- Whether a report made due now is urgent on account of the difference. -/
def State.contentUrgent (s : State) : Bool :=
  match s.composer.lastComposed with
  | none => true
  | some r => urgentDifference r s.content

/-! ### Making a report due (R32) -/

/-- The slot after a report is made due: urgent when the replaced or the new one is. -/
def slotAfter (slot : Option Bool) (urgent : Bool) : Option Bool := some (slot.getD false || urgent)

def State.makeDue (s : State) (urgent : Bool) : State :=
  { s with line := { s.line with pendingSlot := slotAfter s.line.pendingSlot urgent } }

/-- The comparison at the end of an event that began in `before` (R30); `request` is an immediate report request. -/
def State.composeDue (s before : State) (request : Bool) : State :=
  if s.phase = .running && ((s.content ≠ before.content && s.contentDiffers) || request)
  then s.makeDue s.contentUrgent else s

end Sys2Proof.Machine
end

