-- ==== Sys2Proof/Machine/Flags.lean ====
section
/-! DEFINITION. The field outputs, formed from the blocks' state: fault causes (R179), confirmation relay (R181, R182), relays
and lamps (R85 to R87, R178), actuator outputs (R130, R170), loop power (R77), line driver (R35); the arbiter's record
(R133, R134) and the views of the leaves (R157); and the end of every command, which forms them. -/

namespace Sys2Proof.Machine

/-! ### Causes of the fault relay (R179) -/

def LoopRecord.faulted (r : LoopRecord) : Bool := r.state = .opened || r.state = .shorted

/-- A mapped leaf is ABSENT or OUT_OF_SERVICE (R157). -/
def State.leafFault (s : State) : Bool :=
  N4.all.any fun l => s.cfg.mapped l && (s.motion l = .absent || s.motion l = .outOfService)

def LineInterface.muted (x : LineInterface) : Bool :=
  match x.join with
  | .mute _ => true
  | .listen => false
  | .running => false

def State.faultCauses (s : State) : FaultCauses where
  loopFault := s.detection.loops.d1.faulted || s.detection.loops.d2.faulted
  callPointFault := s.detection.callPoint.state = .opened || s.detection.callPoint.state = .shorted
  keyFault := s.detection.key.held = .faultCode
  brigadeFault := s.cfg.brigadePanel && s.detection.brigade.held = .faultCode
  anemoFault := s.cfg.weatherReporter && s.weather.anemoFault
  vaneFault := s.cfg.weatherReporter && s.weather.vaneFault
  rainFault := s.cfg.weatherReporter && s.weather.rainFault
  leafFault := s.leafFault
  supplyLow := s.supply.state = .low
  lineDegraded := s.line.degraded
  isolated := s.peers.isolated
  mute := s.line.muted
  adjusted := s.store.adjusted
  defaulted := s.store.defaulted

def FaultCauses.any (c : FaultCauses) : Bool :=
  c.loopFault || c.callPointFault || c.keyFault || c.brigadeFault || c.anemoFault || c.vaneFault || c.rainFault
    || c.leafFault || c.supplyLow || c.lineDegraded || c.isolated || c.mute || c.adjusted || c.defaulted

/-! ### Confirmation relay (R181, R182) -/

def LeafEntry.commanded (e : LeafEntry) : Bool := e.slot = .fire || e.slot = .brigade

/-- The leaf entries of the FRESH peers of the own smoke zone. -/
def State.peerEntries (s : State) : List LeafEntry :=
  ((s.peers.fresh.filter fun p => p.2.smokeZone = s.cfg.smokeZone.number).map fun p => p.2.leaves).flatten

def State.confirmationSet (s : State) : List LeafEntry :=
  (s.leafEntries ++ s.peerEntries).filter LeafEntry.commanded

def State.confirmed (s : State) : Bool :=
  s.fire && !s.confirmationSet.isEmpty && s.confirmationSet.all LeafEntry.atTarget

/-! ### Pins -/

/-- The rate of a flashing lamp, and that of a refusal flash: lit and dark for this many ms each (5.6, R86). -/
def lampFlash : Nat := 500
def refusalFlash : Nat := 250

/-- Whether a lamp is lit at a station time. -/
def Lamp.litAt (x : Lamp) (now : Nat) : Bool :=
  match x with
  | .dark => false
  | .lit => true
  | .flashing half since => (now - since) / half % 2 = 0

/-- The ALARM lamp (R85); its flash is counted from station time 0 (log entry 35). -/
def LocalDetection.lamp : LocalDetection → Lamp
  | .alarm => .lit
  | .preAlarm => .flashing lampFlash 0
  | .quiet => .dark

def LoopReset.running : LoopReset → Bool
  | .none => false
  | .powerOff _ => true
  | .settle _ => true

/-- The RESET lamp: a refusal flash overrides the steady light (R86). -/
def Detection.resetLamp (d : Detection) : Lamp :=
  match d.flashSince with
  | some t => .flashing refusalFlash t
  | none => if d.loopReset.running then .lit else .dark

def lampOf (on : Bool) : Lamp := if on then .lit else .dark

/-- What a run in flight does at a member's output. -/
def Run.drive (r : Run) (motorOn : Bool) : Drive :=
  match r.stage with
  | .starting _ => .relaySet r.direction
  | .running => if motorOn then .driven r.direction else .relaySet r.direction
  | .rundown _ _ => .off

/-- An actuator output, from its leaf's probe or run (R130, R137, R170). -/
def State.driveOf (s : State) (l : Leaf) : Drive :=
  match (s.feedback.get l).probe with
  | .settle _ => .relaySet .closing
  | .pulse _ => .driven .closing
  | .none => runDrive
  | .requested => runDrive
where
  runDrive : Drive :=
    match (s.unitOf l).status with
    | .inFlight r => if r.members.contains l then r.drive (s.members.get l).motorOn else .off
    | .rest => .off
    | .waiting _ => .off

def State.outputDrive (s : State) (o : Output) : Drive :=
  match s.leafAt o with
  | some l => s.driveOf l
  | none => .off

/-- A loop is powered while it is enabled and not in POWER_OFF (R70, R77). -/
def State.loopPowered (s : State) (l : Loop) : Bool :=
  (s.detection.loops.get l).state ≠ .disabled && s.detection.loopReset.powered

/-- The line driver is enabled while the station is transmitting (R35). -/
def LineInterface.transmitting (x : LineInterface) : Bool :=
  match x.series with
  | some r => match r.phase with
    | .transmitting _ => true
    | .waitingIdle => false
    | .backoff _ _ => false
  | none => false

/-- The relays: released before the first start and through a restart wait (R180, R192). -/
def State.relaysOn (s : State) : Bool := s.phase = .running

def State.formPins (s : State) : Pins :=
  if s.phase = .off then .allOff else
  let faultRelay := s.relaysOn && !s.faultCauses.any
  { alarmRelay := s.relaysOn && s.fire
    faultRelay := faultRelay
    confirmationRelay := s.relaysOn && s.confirmed
    alarmLamp := s.detection.localState.lamp
    faultLamp := lampOf (!faultRelay)
    fireLamp := lampOf s.fire
    resetLamp := s.detection.resetLamp
    outputs := Four.ofFn s.outputDrive
    loopPower := PerLoop.ofFn s.loopPowered
    lineDriver := s.line.transmitting }

/-! ### Arbiter and leaf views -/

def State.formArbiter (s : State) : Arbiter := ⟨s.startQueue, s.supply.slotCount, s.slotsHeld⟩

def State.leafView (s : State) (l : Leaf) : LeafView := ⟨s.motion l, (s.position l).isSome, s.position l, s.atTarget l⟩

/-- A mapped leaf's view; an unmapped leaf has no record and keeps the starting value. -/
def State.formView (s : State) (l : Leaf) : LeafView := if s.cfg.mapped l then s.leafView l else .atStart

/-- The end of every command: the outputs, the arbiter's record and the views formed from the state. -/
def State.refresh (s : State) : State :=
  { s with pins := s.formPins, arbiter := s.formArbiter, views := Four.ofFn s.formView }

/-- A command taken by a station that has been started; before the first start it is without effect (log entry 6). -/
def State.act (s : State) (f : State → State) : State := if s.phase = .off then s else (f s).refresh

end Sys2Proof.Machine
end

