-- ==== Sys2Proof/Machine/EventEnd.lean ====
section
/-! DEFINITION. What follows from a changed input in the same event: weather, brigade resolution, demand evaluation, judging
of the leaves, the arbiter, a report made due (95; R19, R99, R123, R131, R135, R30). -/

namespace Sys2Proof.Machine

/-- The weather unit and the zone logic form their results again (R19, R99). -/
def State.reform (s : State) : State := s.formWeather.formBrigade

/-- Tables are evaluated and pairs handed; a leaf that a pair brings to rest hands its rest position, which evaluates its
table once more (R119, R123). Then the leaves at rest are judged, and the arbiter serves once (R131, R135). -/
def State.drive (s : State) : State := s.handPairs.handPairs.judgeAll.serve

/-- The end of an event that began in `before`: nothing follows before a start or in a restart wait (R192). -/
def State.close (s before : State) (request : Bool) : State :=
  if s.phase = .running then s.reform.drive.composeDue before request else s

end Sys2Proof.Machine
end

