-- ==== Sys2Proof/Machine/DetectionCommands.lean ====
section
/-! DEFINITION. The meanings of the detection unit's events: loops, call point, loop reset (R70 to R78), switches and the BM
input (R79 to R86). -/

namespace Sys2Proof.Machine

def State.sampleLoop (s : State) (l : Loop) (current : Nat) : LoopRecord :=
  let r := s.detection.loops.get l
  if s.loopPowered l then r.sample current s.now else r

/-- LOOP_SAMPLE (R70, R71, R78): each enabled, powered loop. -/
def execLoopSample (d1 d2 : Nat) (s : State) : Host.Outcome State Fault Refusal :=
  .next (s.act fun t => t.setDetection { t.detection with loops := ⟨t.sampleLoop .d1 d1, t.sampleLoop .d2 d2⟩ })

/-- CALL_POINT_SAMPLE (R73). -/
def execCallPointSample (current : Nat) (s : State) : Host.Outcome State Fault Refusal :=
  .next (s.act fun t => t.setDetection { t.detection with callPoint := t.detection.callPoint.sample current t.now })

/-- The candidate of a debounced input that has stood for the debounce period. -/
def State.dueCandidate (s : State) (x : DebouncedInput) : Option Band :=
  let c := match x with
    | .loop l => if s.loopPowered l then (s.detection.loops.get l).candidate else none
    | .callPoint => s.detection.callPoint.candidate
  c.bind fun c => if s.stood c then some c.band else none

/-- A debounced input takes a class (R71, R73, R78). -/
def State.takeBand (s : State) (x : DebouncedInput) (b : Band) : State :=
  match x with
  | .loop l => s.setDetection { s.detection with
      loops := s.detection.loops.set l ((s.detection.loops.get l).debounced b s.now) }
  | .callPoint => s.setDetection { s.detection with
      callPoint := { s.detection.callPoint with state := b, candidate := none } }

/-- DEBOUNCE_EXPIRY (R71, R74). -/
def execDebounceExpiry (x : DebouncedInput) (s : State) : Host.Outcome State Fault Refusal :=
  .next (s.act fun t => match t.dueCandidate x with
    | some b => ((t.takeBand x b).formLocal).close t false
    | none => t)

/-- Whether a loop's confirm timer has run for the confirm time (R75). -/
def State.confirmOver (s : State) (l : Loop) : Bool :=
  match (s.detection.loops.get l).confirm with
  | .running t => s.elapsed t (s.cfg.confirmTime * 1000)
  | .cleared => false
  | .expired => false

/-- CONFIRM_TIMER_EXPIRY (R75). -/
def execConfirmTimerExpiry (l : Loop) (s : State) : Host.Outcome State Fault Refusal :=
  .next (s.act fun t =>
    if t.confirmOver l then
      let loops := t.detection.loops.set l { t.detection.loops.get l with confirm := .expired }
      ((t.setDetection { t.detection with loops := loops }).formLocal).close t false
    else t)

def powerOffPeriod : Nat := 5000
def settlePeriod : Nat := 10000

/-- POWER_OFF_EXPIRY (R77): power restored, SETTLE begins. -/
def execPowerOffExpiry (s : State) : Host.Outcome State Fault Refusal :=
  .next (s.act fun t => match t.detection.loopReset with
    | .powerOff since =>
      if t.elapsed since powerOffPeriod then
        t.setDetection { t.detection with
          loopReset := .settle t.now
          loops := PerLoop.mapLoops LoopRecord.beginSettle t.detection.loops }
      else t
    | .none => t
    | .settle _ => t)

/-- The settle end's steps (R78), with the verdict (R10). -/
def State.settleEnd (s : State) : State :=
  ((s.setDetection { s.detection with
    loopReset := .none
    loops := PerLoop.mapLoops (fun r => r.endSettle s.now) s.detection.loops }).formLocal).deliverVerdict

/-- SETTLE_END (R78). -/
def execSettleEnd (s : State) : Host.Outcome State Fault Refusal :=
  .next (s.act fun t => match t.detection.loopReset with
    | .settle since => if t.elapsed since settlePeriod then t.settleEnd.close t false else t
    | .none => t
    | .powerOff _ => t)

/-- SWITCH_SAMPLE (R79). -/
def execSwitchSample (c : SwitchContacts) (s : State) : Host.Outcome State Fault Refusal :=
  .next (s.act fun t => t.setDetection (t.detection.readSwitches c t.now))

/-- The key leaving SERVICE clears the service direction and every set service target (R81, R114). -/
def State.leaveService (s : State) : State :=
  let table (u : Leaf) : DemandTable := { s.tables.get u with serviceTarget := none }
  { s with detection := { s.detection with direction := .none }, tables := Four.ofFn table }

/-- What a change of the key position does before the demands are formed again (R80, R114, R153). -/
def State.keyChanged (s : State) (old : KeyPosition) : State :=
  let t := if old = .service && s.key ≠ .service then s.leaveService else s
  if s.key = .lockout && old ≠ .lockout then t.stopProbes.haltAll else t

/-- KEY_SWITCH_CHANGE (R79, R80). -/
def execKeySwitchChange (s : State) : Host.Outcome State Fault Refusal :=
  .next (s.act fun t => match t.detection.key.due t.now with
    | some r => ((t.setDetection { t.detection with key := .taken r }).keyChanged t.key).close t false
    | none => t)

/-- A press taken with the key at SERVICE (R81, R113): the direction in force stops, another direction starts. -/
def State.takePress (s : State) (b : ServiceButton) : State :=
  if s.detection.direction = buttonDirection b then
    s.stopTargets.setDetection { s.detection with direction := .none }
  else (s.setServiceTargets fun _ => some (buttonTarget b)).setDetection { s.detection with direction := buttonDirection b }

/-- SERVICE_BUTTON_PRESS (R79, R81). -/
def execServiceButtonPress (b : ServiceButton) (s : State) : Host.Outcome State Fault Refusal :=
  .next (s.act fun t =>
    if (t.detection.button b).pressDue t.now then
      let u := t.setDetection (t.detection.setButton b .pressed)
      if u.key = .service then (u.takePress b).close t false else u
    else t)

/-- A zone reset request (R11): refused with a flash, ignored, or accepted with an immediate report. -/
def State.resetRequest (s before : State) : State :=
  match s.resetTaking with
  | .refused => s.startFlash
  | .ignored => s
  | .accepted => s.acceptReset.close before true

/-- ZONE_RESET_KEY_PRESS (R82). -/
def execZoneResetKeyPress (s : State) : Host.Outcome State Fault Refusal :=
  .next (s.act fun t =>
    if t.detection.zoneResetKey.pressDue t.now then
      let u := t.setDetection { t.detection with zoneResetKey := .pressed }
      if u.cfg.resetRight then u.resetRequest t else u
    else t)

/-- A brigade switch position delivered to the zone logic (R16, R17, R83): the state, and whether a report is requested. -/
def State.deliverBrigade (s : State) (old new : BrigadeReading) : State × Bool :=
  if old.action = new.action then (s, false)
  else match new.action with
    | some a => (s.formOverride a, true)
    | none => (s.dropOverride, s.zones.ownOverride.isSome)

/-- BRIGADE_SWITCH_CHANGE (R79, R83). -/
def execBrigadeSwitchChange (s : State) : Host.Outcome State Fault Refusal :=
  .next (s.act fun t => match t.detection.brigade.due t.now with
    | some r =>
      let u := t.setDetection { t.detection with brigade := .taken r }
      if u.cfg.brigadePanel then
        let v := u.deliverBrigade t.detection.brigade.held r
        v.1.close t v.2
      else u
    | none => t)

/-- BM_SAMPLE (R84). -/
def execBmSample (centivolts : Int) (s : State) : Host.Outcome State Fault Refusal :=
  .next (s.act fun t =>
    if t.cfg.bmEnable then (t.setDetection { t.detection with heldStep := some (bmStep centivolts) }).close t false
    else t)

/-- RESET_FLASH_END (R86). -/
def execResetFlashEnd (s : State) : Host.Outcome State Fault Refusal :=
  .next (s.act fun t => match t.detection.flashSince with
    | some since => if t.elapsed since flashPeriod then t.setDetection { t.detection with flashSince := none } else t
    | none => t)

end Sys2Proof.Machine
end

