-- ==== Sys2Proof/Machine/MotionCommands.lean ====
section
/-! DEFINITION. The meanings of the drive controller's events (R135 to R150): the ends of a run's stages, current findings,
ends of travel. A finding row carries the extreme current of the time it is found over (log entry 13). -/

namespace Sys2Proof.Machine

/-- The unit a leaf belongs to, with its run in flight. -/
def State.unitRun (s : State) (l : Leaf) : Option Run := (s.unitOf l).run?

/-- STARTING_END (R137, R148). -/
def execStartingEnd (l : Leaf) (s : State) : Host.Outcome State Fault Refusal :=
  .next (s.act fun t => match t.unitRun l with
    | some r => match r.stage with
      | .starting due => if due ≤ t.now then t.enterRunning (t.cfg.leader l) r else t
      | .running => t
      | .rundown _ _ => t
    | none => t)

/-- BLANKING_END (R147): the checks apply from now. -/
def execBlankingEnd (o : Output) (s : State) : Host.Outcome State Fault Refusal :=
  .next (s.act fun t => match t.leafAt o with
    | some l => match (t.members.get l).checks with
      | .blanking due => if due ≤ t.now then t.setMember l { t.members.get l with checks := .applied t.now } else t
      | .off => t
      | .applied _ => t
    | none => t)

/-- TRAVEL_TIMEOUT (R140). -/
def execTravelTimeout (l : Leaf) (s : State) : Host.Outcome State Fault Refusal :=
  .next (s.act fun t => match t.unitRun l with
    | some r => match r.timeoutDue with
      | some due =>
        if r.stage.isRunning && due ≤ t.now then t.toRundown (t.cfg.leader l) r (.fault .travelTimeout) else t
      | none => t
    | none => t)

/-- RUNDOWN_END (R142, R148, R149). -/
def execRundownEnd (l : Leaf) (s : State) : Host.Outcome State Fault Refusal :=
  .next (s.act fun t => match t.unitRun l with
    | some r => match r.stage with
      | .rundown due e => if due ≤ t.now then (t.endRun (t.cfg.leader l) r e).close t false else t
      | .starting _ => t
      | .running => t
    | none => t)

/-- REVERSAL_PAUSE_END (R135). -/
def execReversalPauseEnd (l : Leaf) (s : State) : Host.Outcome State Fault Refusal :=
  .next (s.act fun t =>
    let u := t.cfg.leader l
    match (t.units.get u).reversal with
    | some (_, due) =>
      if due ≤ t.now then (t.setUnit u { t.units.get u with reversal := none }).close t false else t
    | none => t)

/-- RETRY_HOLD_EXPIRY (R150). -/
def execRetryHoldExpiry (l : Leaf) (s : State) : Host.Outcome State Fault Refusal :=
  .next (s.act fun t =>
    let u := t.cfg.leader l
    match (t.units.get u).retryHold with
    | some h =>
      if t.elapsed h.since h.period then (t.setUnit u { t.units.get u with retryHold := none }).close t false else t
    | none => t)

/-- The leaf of an output that takes part in a run in RUNNING with its motor on, with the run. -/
def State.runningAt (s : State) (o : Output) : Option (Leaf × Run) :=
  match s.leafAt o with
  | some l => (s.runOf l).bind fun r => if r.stage.isRunning && (s.members.get l).motorOn then some (l, r) else none
  | none => none

/-- A run ends with a fault found: every member's motor is switched off (R147, R149, R152). -/
def State.findFault (s : State) (l : Leaf) (r : Run) (f : RunFault) : State :=
  s.toRundown (s.cfg.leader l) r (.fault f)

/-- Whether a leaf's switch is taken as made (R165): a closing run in RUNNING, PROBING or RUNDOWN, and not yet made in it. -/
def State.switchTaken (s : State) (l : Leaf) : Option Run :=
  (s.runOf l).bind fun r =>
    if r.direction = .closing && r.stage.moves && !(s.members.get l).switchMade then some r else none

/-- CLOSED_SWITCH_MADE (R144, R165, R166): in RUNNING the member has reached its end; a RUNDOWN goes on as it was. -/
def execClosedSwitchMade (o : Output) (s : State) : Host.Outcome State Fault Refusal :=
  .next (s.act fun t => match t.leafAt o with
    | some l => match t.switchTaken l with
      | some r =>
        let u := (t.meetClosed l).setMember l { t.members.get l with switchMade := true }
        if r.stage.isRunning then (u.finishMember (t.cfg.leader l) r l).syncGang l else u
      | none => t
    | none => t)

/-- How long a member's checks have been applied, at least. -/
def State.checksApplied (s : State) (l : Leaf) (period : Nat) : Bool :=
  match (s.members.get l).checks with
  | .applied since => s.elapsed since period
  | .off => false
  | .blanking _ => false

def cutOutPeriod : Nat := 200
def stallPeriod : Nat := 300
def pinchPeriod : Nat := 100

/-- The end cut-out taken (R144, R145, R167): an opening run is at its open end, a closing run ends unconfirmed at 0. -/
def State.takeCutOut (s : State) (l : Leaf) (r : Run) : State :=
  match r.direction with
  | .opening => ((s.meetOpen l).finishMember (s.cfg.leader l) r l).syncGang l
  | .closing => (s.cutOutClosed l).findFault l r .closeUnconfirmed

/-- END_CUT_OUT (R144, R145): `highest` is the highest current of the last 200 ms. -/
def execEndCutOut (o : Output) (highest : Nat) (s : State) : Host.Outcome State Fault Refusal :=
  .next (s.act fun t => match t.runningAt o with
    | some (l, r) => if !drawsCurrent highest && t.checksApplied l cutOutPeriod then t.takeCutOut l r else t
    | none => t)

def unconfirmed : Dir → RunFault
  | .opening => .openUnconfirmed
  | .closing => .closeUnconfirmed

/-- PROBING_SLICE_END (R144, R145). -/
def execProbingSliceEnd (o : Output) (s : State) : Host.Outcome State Fault Refusal :=
  .next (s.act fun t => match t.runningAt o with
    | some (l, r) => match (t.members.get l).slice with
      | some x =>
        if x.due ≤ t.now then
          if x.number = 1 then
            t.setMember l { t.members.get l with slice := some ⟨2, t.now + t.sliceLength l r.speed⟩ }
          else t.findFault l r (unconfirmed r.direction)
        else t
      | none => t
    | none => t)

/-- The end of a presence probe: the finding is handed to the drive controller, which places the leaf (R155, R170). A gang's rest
position is handed once, when both its probes have ended, though its unprobed member rests in UNREF before; the specification delays
only the judging expressly (log entry 28, DEDUCED). -/
def State.finishProbe (s : State) (l : Leaf) (presence : Presence) : State :=
  let t := s.endPulse l presence
  if t.probesEnded (t.cfg.leader l) then t.handRest (t.cfg.leader l) else t

def Probe.pulsing : Probe → Bool
  | .pulse _ => true
  | .none => false
  | .requested => false
  | .settle _ => false

/-- OVERCURRENT (R147, R170): a run ends with the fault, a probe ends PRESENT. -/
def execOvercurrent (o : Output) (current : Nat) (s : State) : Host.Outcome State Fault Refusal :=
  .next (s.act fun t =>
    if overcurrentLimit ≤ current then
      match t.leafAt o with
      | some l =>
        if (t.feedback.get l).probe.pulsing then (t.finishProbe l .present).close t false
        else match t.runningAt o with
          | some (_, r) => t.findFault l r .overcurrent
          | none => t
      | none => t
    else t)

/-- STALL (R147): `lowest` is the lowest current of the last 300 ms. -/
def execStall (o : Output) (lowest : Nat) (s : State) : Host.Outcome State Fault Refusal :=
  .next (s.act fun t => match t.runningAt o with
    | some (l, r) =>
      if t.cfg.stall.get l ≤ lowest && t.checksApplied l stallPeriod then t.findFault l r .stall else t
    | none => t)

/-- Where pinch detection applies (R146, R148): a closing run in RUNNING, below FIRE, referenced above 20 per mille. -/
def State.pinchApplies (s : State) (l : Leaf) (r : Run) : Bool :=
  r.direction = .closing && r.kind = .normal && !r.backoff && !r.slot.fireClass && (s.members.get l).slice.isNone
    && s.elapsed r.pinchFrom pinchPeriod && match s.position l with
      | some p => 20 < p
      | none => false

/-- PINCH (R148): `lowest` is the lowest current of the last 100 ms. -/
def execPinch (o : Output) (lowest : Nat) (s : State) : Host.Outcome State Fault Refusal :=
  .next (s.act fun t => match t.runningAt o with
    | some (l, r) =>
      if t.cfg.pinch.get l ≤ lowest && t.pinchApplies l r && t.checksApplied l pinchPeriod
      then t.toRundown (t.cfg.leader l) r .pinched else t
    | none => t)

end Sys2Proof.Machine
end

