-- ==== Sys2Proof/Machine/FeedbackCommands.lean ====
section
/-! DEFINITION. The meanings of the feedback unit's events: edges and the pulse watchdog (R159 to R163), the timed estimate
(R164), the presence probe (R170). -/

namespace Sys2Proof.Machine

/-- An edge taken; one that moves a known count is compared with the run's target (R159, R160). At an alternation fault the estimate
is formed and not compared in that event (log entry 47, DEDUCED). -/
def State.takeEdge (s : State) (l : Leaf) (line : FeedbackLine) : State :=
  match s.edgeTaking l line with
  | .discarded => s
  | .alternation => s.toTimed l
  | .accepted dir =>
    let t := s.countEdge l line dir
    if (s.feedback.get l).count.isSome then t.moved l else t

/-- FEEDBACK_EDGE (R159, R160). -/
def execFeedbackEdge (o : Output) (line : FeedbackLine) (s : State) : Host.Outcome State Fault Refusal :=
  .next (s.act fun t => match t.leafAt o with
    | some l => (t.takeEdge l line).composeDue t false
    | none => t)

/-- The watchdog is applied this long after switch-on, and expires after running this long (R161). -/
def watchdogDelay : Nat := 500
def watchdogPeriod : Nat := 800

/-- WATCHDOG_APPLIED (R161): in RUNNING with the motor on, in PULSE mode. -/
def execWatchdogApplied (o : Output) (s : State) : Host.Outcome State Fault Refusal :=
  .next (s.act fun t => match t.runningAt o with
    | some (l, _) =>
      if (t.members.get l).slice.isNone && (t.feedback.get l).mode = .pulse && (t.feedback.get l).watchdog.isNone
          && t.elapsed (t.members.get l).switchedOn watchdogDelay
      then t.setFeedback l { t.feedback.get l with watchdog := some t.now } else t
    | none => t)

/-- PULSE_WATCHDOG_EXPIRY (R161): feedback loss between 0.1 A and the stall threshold; else the watchdog restarts. The estimate formed
at a feedback loss is not compared in that event (log entry 47, DEDUCED). -/
def execPulseWatchdogExpiry (o : Output) (current : Nat) (s : State) : Host.Outcome State Fault Refusal :=
  .next (s.act fun t => match t.leafAt o with
    | some l => match (t.feedback.get l).watchdog with
      | some since =>
        if t.elapsed since watchdogPeriod then
          if drawsCurrent current && current < t.cfg.stall.get l then (t.toTimed l).composeDue t false
          else t.setFeedback l { t.feedback.get l with watchdog := some t.now }
        else t
      | none => t
    | none => t)

/-- TIMED_ESTIMATE_UPDATE (R164): while a motor-on period runs. -/
def execTimedEstimateUpdate (o : Output) (s : State) : Host.Outcome State Fault Refusal :=
  .next (s.act fun t => match t.leafAt o with
    | some l => if (t.feedback.get l).period.isSome then (t.formEstimate l).moved l else t
    | none => t)

/-- PROBE_SETTLE_END (R170): the closing pulse begins. -/
def execProbeSettleEnd (o : Output) (s : State) : Host.Outcome State Fault Refusal :=
  .next (s.act fun t => match t.leafAt o with
    | some l => match (t.feedback.get l).probe with
      | .settle due => if due ≤ t.now then t.beginPulse l else t
      | .none => t
      | .requested => t
      | .pulse _ => t
    | none => t)

/-- PROBE_PULSE_END (R155, R170): PRESENT where the current reached 0.1 A, else ABSENT. -/
def execProbePulseEnd (o : Output) (highest : Nat) (s : State) : Host.Outcome State Fault Refusal :=
  .next (s.act fun t => match t.leafAt o with
    | some l => match (t.feedback.get l).probe with
      | .pulse due =>
        if due ≤ t.now then
          (t.finishProbe l (if drawsCurrent highest then .present else .absent)).close t false
        else t
      | .none => t
      | .requested => t
      | .settle _ => t
    | none => t)

end Sys2Proof.Machine
end

