-- ==== Sys2Proof/Machine/Line.lean ====
section
/-! DEFINITION. The line interface: activity and receiver (R35, R40), the attempt series (R36 to R39), the line error monitor
(R46), proving (R48 to R50), address conflict (R44), frame counters (R52). -/

namespace Sys2Proof.Machine

def State.onLine (s : State) (f : LineInterface → LineInterface) : State := s.setLine (f s.line)

/-! ### Line error monitor (R46) -/

/-- The counter is full at 16, and a run of 64 good frames lowers it by 1. -/
def LineInterface.monitorBad (x : LineInterface) : LineInterface :=
  let n := min 16 (x.errorCounter + 1)
  { x with errorCounter := n, goodRun := 0, degraded := if n = 16 then true else x.degraded }

def LineInterface.monitorGood (x : LineInterface) : LineInterface :=
  if x.goodRun + 1 = 64 then
    let n := x.errorCounter - 1
    { x with errorCounter := n, goodRun := 0, degraded := if n = 0 then false else x.degraded }
  else { x with goodRun := x.goodRun + 1 }

def LineInterface.countBad (x : LineInterface) : LineInterface :=
  { x with counters := { x.counters with bad := fieldSucc x.counters.bad } }

def LineInterface.countGood (x : LineInterface) : LineInterface :=
  { x with counters := { x.counters with good := fieldSucc x.counters.good } }

/-! ### Joining (R48 to R50) -/

def provingPeriod : Nat := 6000

/-- Leaving LISTEN for RUNNING: proving is dropped, the settled time begins (R50, R66). -/
def State.enterRunningJoin (s : State) : State :=
  { s with
    line := { s.line with join := .running, proving := none }
    peers := { s.peers with settledFrom := some (s.peers.settledFrom.getD s.now) } }

/-- A bad frame judged in LISTEN (R49): the state, and whether the station joins and so requests an immediate report. -/
def State.provingBad (s : State) : State × Bool :=
  match s.line.join, s.line.proving with
  | .listen, some p =>
    if p.badFrames + 1 < 4 then
      (s.setLine { s.line with proving := some { p with badFrames := p.badFrames + 1 } }, false)
    else if p.failedPeriods + 1 = 4 then
      ((s.setLine { s.line with errorCounter := 16, degraded := true }).enterRunningJoin, true)
    else
      (s.setLine { s.line with proving := some ⟨s.now + provingPeriod, 0, p.failedPeriods + 1⟩ }, false)
  | _, _ => (s, false)

/-- A frame judged bad, handled once (R41): counter, monitor, proving. -/
def State.takeBadFrame (s : State) : State × Bool := (s.onLine fun x => x.countBad.monitorBad).provingBad

/-- An address conflict (R44): MUTE, the series in flight ended, proving dropped. -/
def State.addressConflict (s : State) : State :=
  match s.line.join with
  | .mute _ => s
  | .listen => muted
  | .running => muted
where
  muted : State :=
    { s with
      line := { s.line with join := .mute .addressConflict, proving := none, series := none }
      peers := { s.peers with settledFrom := some (s.peers.settledFrom.getD s.now) } }

/-! ### Activity and receiver (R35, R40) -/

/-- Whether a start bit opens a frame: the line stands IDLE, the receiver hunts, and the byte is not of the station's own
transmission (R40, R43). -/
def LineInterface.opensFrame (x : LineInterface) : Bool := !x.busy && x.receiver = .hunting && !x.transmitting

/-- A start bit on the line: BUSY; a backoff is abandoned (R37); a hunting receiver opens a frame, without a byte yet (R40). -/
def LineInterface.startBit (x : LineInterface) (now : Nat) : LineInterface :=
  let series := x.series.map fun r => match r.phase with
    | .backoff _ _ => { r with phase := .waitingIdle }
    | .waitingIdle => r
    | .transmitting _ => r
  { x with
    busy := true
    lastByte := now
    series := series
    receiver := if x.opensFrame then .assembling else x.receiver
    rxBytes := if x.opensFrame then [] else x.rxBytes }

/-- Whether a byte goes to a frame: one is being assembled, and the station is not transmitting (R40, R43). -/
def LineInterface.assemblingFrame (x : LineInterface) : Bool := x.receiver = .assembling && !x.transmitting

/-- A byte joins the frame being assembled; after a frame's verdict, and where none is assembled, it is discarded (R40). None: the
byte comes with the row of the verdict (log entry 12). -/
def LineInterface.takeByte (x : LineInterface) (rx : Option RxByte) : LineInterface :=
  if x.assemblingFrame && (judgeBytes x.rxBytes).isNone then { x with rxBytes := x.rxBytes ++ rx.toList } else x

/-- The bytes that come with a verdict bring their own start bit where the line still stands IDLE (log entry 12). -/
def LineInterface.bytesArrive (x : LineInterface) (now : Nat) : LineInterface :=
  if x.busy || x.transmitting then { x with lastByte := now } else x.startBit now

/-- The frame and the verdict that the bytes held and those that come after them give; none where no frame is assembled, or
no verdict falls. -/
def LineInterface.verdictWith (x : LineInterface) (rest : List RxByte) : Option (List RxByte × Verdict) :=
  if x.assemblingFrame then judgeBytes (x.rxBytes ++ rest) else none

/-- Whether the frame being assembled is not whole when the line becomes IDLE: it ends early (R40, R41). -/
def LineInterface.cutShort (x : LineInterface) : Bool :=
  x.receiver = .assembling && match judgeBytes x.rxBytes with
    | some (_, .good) => false
    | some (_, .bad _) => true
    | none => true

def idlePeriod : Nat := 3

/-- The line becomes IDLE: the receiver hunts again (R35, R40). -/
def LineInterface.idle (x : LineInterface) : LineInterface := { x with busy := false, receiver := .hunting, rxBytes := [] }

/-! ### The attempt series (R36 to R39) -/

/-- The window W of an attempt (R36). -/
def backoffWindow (attempt : Nat) (urgent : Bool) : Nat :=
  match attempt with
  | 1 => if urgent then 4 else 8
  | 2 => 16
  | 3 => 32
  | _ => 64

/-- An attempt that waits with the line IDLE draws its backoff (R36). -/
def State.drawBackoff (s : State) : State :=
  match s.line.series with
  | some r =>
    if r.phase = .waitingIdle && !s.line.busy then
      let d := s.drawBelow r.window
      d.2.setLine { s.line with series := some { r with phase := .backoff d.1 s.now } }
    else s
  | none => s

/-- A backoff of r slots of 500 us has elapsed, in whole ms (log entry 4). -/
def backoffOver (r since now : Nat) : Bool := since + r / 2 ≤ now

/-- A collision (R39): the next attempt waits for IDLE, or after attempt 5 the report is abandoned. -/
def LineInterface.collide (x : LineInterface) (r : Series) : LineInterface :=
  let c := { x.counters with collisions := fieldSucc x.counters.collisions }
  if r.attempt < 5 then
    { x with
      counters := c
      series := some { r with attempt := r.attempt + 1, window := backoffWindow (r.attempt + 1) false, phase := .waitingIdle } }
  else { x with counters := { c with transmitFailures := fieldSucc c.transmitFailures }, series := none }

/-- A byte reads back unchanged (R38): the next is sent, or the frame has been sent. -/
def LineInterface.byteSent (x : LineInterface) (r : Series) (next : Nat) : LineInterface :=
  if next + 1 < r.frame.length then { x with series := some { r with phase := .transmitting (next + 1) } }
  else { x with series := none, counters := { x.counters with sent := fieldSucc x.counters.sent } }

/-- A readback differs in a data bit, or carries a framing error. -/
def readbackDiffers (r : Series) (next : Nat) (rx : RxByte) : Bool :=
  rx.framingError || r.frame[next]? ≠ some rx.data

/-- The series ends without being counted (R44, R192). -/
def LineInterface.dropSeries (x : LineInterface) : LineInterface := { x with series := none }

/-! ### The first attempt (R31 to R33) -/

def holdoffPeriod : Nat := 100
def heartbeatBase : Nat := 1900

/-- The jitter is drawn from 0..200 ms. -/
def jitterBound : Nat := 201

/-- The conditions of R32. -/
def State.mayBegin (s : State) : Bool :=
  s.phase = .running && s.line.pendingSlot.isSome && s.composer.holdoffEnds.isNone && s.line.series.isNone
    && s.line.join = .running

/-- The report in the slot begins its first attempt (R33). -/
def State.beginReport (s : State) (urgent : Bool) : State :=
  let seq := s.composer.ownSequence + 1#8
  let report := s.composeReport seq
  let d := s.drawBelow jitterBound
  let t := d.2
  { t with
    composer :=
      { lastComposed := some report
        ownSequence := seq
        heartbeatDue := some (s.now + heartbeatBase + d.1)
        holdoffEnds := some (s.now + holdoffPeriod) }
    line := { t.line with
      pendingSlot := none
      series := some ⟨encodeFrame report, 1, backoffWindow 1 urgent, .waitingIdle⟩ } }.drawBackoff

end Sys2Proof.Machine
end

