-- ==== Sys2Proof/Machine/LineCommands.lean ====
section
/-! DEFINITION. The meanings of the line's events (R35 to R51), of the report timers (R31 to R33) and of the peer table's
(R65, R66). -/

namespace Sys2Proof.Machine

/-- LINE_IDLE (R35, R40): 3 ms without a start bit; a frame cut short is judged bad (R41); a waiting attempt draws (R36). -/
def execLineIdle (s : State) : Host.Outcome State Fault Refusal :=
  .next (s.act fun t =>
    if t.line.busy && !t.line.transmitting && t.elapsed t.line.lastByte idlePeriod then
      let early := t.line.cutShort
      let u := t.onLine LineInterface.idle
      let v := if early then u.takeBadFrame else (u, false)
      v.1.drawBackoff.composeDue t v.2
    else t)

/-- LINE_BUSY (R35, R37, R40): the start bit of a byte, and the byte where it is given (log entry 12). -/
def execLineBusy (s : State) (rx : Option RxByte := none) : Host.Outcome State Fault Refusal :=
  .next (s.act fun t => t.onLine fun x => (x.startBit t.now).takeByte rx)

/-- BACKOFF_EXPIRY (R37, R38): the attempt begins to send. -/
def execBackoffExpiry (s : State) : Host.Outcome State Fault Refusal :=
  .next (s.act fun t => match t.line.series with
    | some r => match r.phase with
      | .backoff n since =>
        if !t.line.busy && backoffOver n since t.now then
          t.setLine { t.line with
            series := some { r with phase := .transmitting 0 }
            busy := true
            lastByte := t.now
            receiver := .discarding
            rxBytes := [] }
        else t
      | .waitingIdle => t
      | .transmitting _ => t
    | none => t)

/-- BYTE_READBACK (R38, R39). -/
def execByteReadback (rx : RxByte) (s : State) : Host.Outcome State Fault Refusal :=
  .next (s.act fun t => match t.line.series with
    | some r => match r.phase with
      | .transmitting next =>
        let x := { t.line with lastByte := t.now }
        t.setLine (if readbackDiffers r next rx then x.collide r else x.byteSent r next)
      | .waitingIdle => t
      | .backoff _ _ => t
    | none => t)

/-- A frame has been judged: what follows is discarded until the line is IDLE (R40). -/
def LineInterface.judged (x : LineInterface) : LineInterface := { x with receiver := .discarding, rxBytes := [] }

/-- A good report that reaches a record and is not a duplicate: stored, handed to the zone logic, ISOLATED formed (R56). -/
def State.storeReport (s : State) (a : Nat) (r : Report) (st : PeerStatus) : State :=
  ({ s with peers := s.peers.put a st }.zoneSteps a r).formIsolated

/-- A good frame of another station (R42, R53, R56). -/
def State.takeReport (s before : State) (r : Report) : State :=
  match s.peers.find? r.source with
  | none => s.composeDue before false
  | some rec => match rec.status.taking r s.now with
    | none => s.composeDue before false
    | some st => (s.storeReport r.source r st).close before (s.zoneStepsReport r)

/-- A good frame, counted and monitored, and then taken; in a restart wait it is not handed on (R42, R44, R192), so one with the own
address makes no address conflict there: the specification says only that frames are not handed on (log entry 27, DEDUCED). -/
def State.takeGoodFrame (s before : State) (f : List Byte) : State :=
  let t := s.onLine fun x => x.judged.countGood.monitorGood
  if t.phase ≠ .running then t
  else if (decodeFrame f).source = t.line.ownAddress then t.addressConflict.composeDue before false
  else t.takeReport before (decodeFrame f)

/-- GOOD_FRAME_RECEIVED (R42): without effect where the bytes held with those that come do not make a good frame. -/
def execGoodFrameReceived (rest : List Byte) (s : State) : Host.Outcome State Fault Refusal :=
  .next (s.act fun t =>
    let u := t.onLine fun x => x.bytesArrive t.now
    match u.line.verdictWith (rest.map cleanByte) with
    | some (f, .good) => u.takeGoodFrame t (f.map RxByte.data)
    | some (_, .bad _) => t
    | none => t)

/-- BAD_FRAME (R41): without effect where the bytes held with those that come do not make a frame that is judged bad. -/
def execBadFrame (rest : List RxByte) (s : State) : Host.Outcome State Fault Refusal :=
  .next (s.act fun t =>
    let u := t.onLine fun x => x.bytesArrive t.now
    match u.line.verdictWith rest with
    | some (_, .bad _) =>
      let v := (u.onLine LineInterface.judged).takeBadFrame
      v.1.composeDue t v.2
    | some (_, .good) => t
    | none => t)

/-- PROVING_TIMER_EXPIRY (R50). -/
def execProvingTimerExpiry (s : State) : Host.Outcome State Fault Refusal :=
  .next (s.act fun t => match t.line.join, t.line.proving with
    | .listen, some p => if p.due ≤ t.now then t.enterRunningJoin.composeDue t true else t
    | _, _ => t)

/-- HOLDOFF_EXPIRY (R32). -/
def execHoldoffExpiry (s : State) : Host.Outcome State Fault Refusal :=
  .next (s.act fun t => match t.composer.holdoffEnds with
    | some d => if d ≤ t.now then { t with composer := { t.composer with holdoffEnds := none } } else t
    | none => t)

/-- HEARTBEAT_EXPIRY (R31): a report that is not urgent is made due. One that falls due in a restart wait fills the slot there too,
which no attempt empties before the start does; the specification is silent on it (log entry 27, DEDUCED). -/
def execHeartbeatExpiry (s : State) : Host.Outcome State Fault Refusal :=
  .next (s.act fun t => match t.composer.heartbeatDue with
    | some d => if d ≤ t.now then { t with composer := { t.composer with heartbeatDue := none } }.makeDue false else t
    | none => t)

/-- FIRST_ATTEMPT_BEGINS (R33). -/
def execFirstAttemptBegins (s : State) : Host.Outcome State Fault Refusal :=
  .next (s.act fun t => if t.mayBegin then t.beginReport (t.line.pendingSlot.getD false) else t)

/-- PEER_SILENCE_EXPIRY (R65, R66). -/
def execPeerSilenceExpiry (a : Nat) (s : State) : Host.Outcome State Fault Refusal :=
  .next (s.act fun t => match t.peers.find? a with
    | some rec => match rec.status with
      | .fresh c =>
        if t.elapsed c.lastHeard silencePeriod then
          { t with peers := t.peers.put a (.lost c) }.formIsolated.close t false
        else t
      | .absent => t
      | .lost _ => t
    | none => t)

/-- SETTLED_TIME_REACHED (R66). -/
def execSettledTimeReached (s : State) : Host.Outcome State Fault Refusal :=
  .next (s.act fun t =>
    if t.timerOver t.peers.settledFrom silencePeriod then t.formIsolated.composeDue t false else t)

end Sys2Proof.Machine
end

