-- ==== Sys2Proof/Machine/Supply.lean ====
section
/-! DEFINITION. The supply monitor: the state formed at a start (R174), the qualification timers (R175), the changes of state
their expiries make. -/

namespace Sys2Proof.Machine

/-- 21.0 V and 22.5 V, in 0.1 V. -/
def lowVoltage : Nat := 210
def recoveryVoltage : Nat := 225

/-- The supply formed from the one reading of a start (R174). -/
def Supply.started (mains : Bool) (battery : Nat) : Supply where
  state := if mains then .mains else if battery < lowVoltage then .low else .battery
  mainsAbsentSince := none
  mainsPresentSince := none
  lowSince := none
  recoverySince := none
  mains := mains
  battery := battery

/-- A timer after a reading: it runs on while its condition holds in a state it runs in, and stops otherwise. -/
def qualify (runs condition : Bool) (since : Option Nat) (now : Nat) : Option Nat :=
  if runs && condition then some (since.getD now) else none

/-- The four timers after a reading (R175). -/
def Supply.qualified (x : Supply) (now : Nat) : Supply :=
  { x with
    mainsAbsentSince := qualify (x.state = .mains) (!x.mains) x.mainsAbsentSince now
    mainsPresentSince := qualify (x.state ≠ .mains) x.mains x.mainsPresentSince now
    lowSince := qualify (x.state = .battery) (x.battery < lowVoltage) x.lowSince now
    recoverySince := qualify (x.state = .low) (recoveryVoltage ≤ x.battery && !x.mains) x.recoverySince now }

/-- A reading of the mains sense, with the battery voltage where it is measured too. A reading of the mains sense alone judges
the timers with the battery voltage last measured, be it measured before a change of state: the specification does not say
whether it counts as the first reading after the change (R175; log entry 40, DEDUCED). -/
def Supply.read (x : Supply) (mains : Bool) (battery : Option Nat) (now : Nat) : Supply :=
  ({ x with mains := mains, battery := battery.getD x.battery } : Supply).qualified now

/-- The supply in a new state: every timer that does not run in it is cleared; one that does starts at the next reading,
and the mains-present timer runs on between BATTERY and LOW. -/
def Supply.changeTo (x : Supply) (st : SupplyState) : Supply :=
  { x with
    state := st
    mainsAbsentSince := none
    mainsPresentSince := match st with
      | .mains => none
      | .battery => x.mainsPresentSince
      | .low => x.mainsPresentSince
    lowSince := none
    recoverySince := none }

def mainsAbsentPeriod : Nat := 1000
def mainsPresentPeriod : Nat := 5000
def lowPeriod : Nat := 2000
def recoveryPeriod : Nat := 2000

end Sys2Proof.Machine
end

