-- ==== Sys2Proof/Machine/ServiceData.lean ====
section
/-! DEFINITION. The data of the service port's replies (R69, R107, R126, R157, R173, R187). -/

namespace Sys2Proof.Machine

/-- The time a running timer has run. -/
def State.ran (s : State) (since : Option Nat) : Option Nat := since.map s.since

/-- The time a timer has still to run. -/
def State.left (s : State) (due : Option Nat) : Option Nat := due.map fun d => d - s.now

/-- STATUS (R187). -/
def State.statusData (s : State) : StatusData where
  join := s.line.join
  provingLeft := s.left (s.line.proving.map Proving.due)
  provingCounts := s.line.proving.map fun p => (p.badFrames, p.failedPeriods)
  ownAddress := s.line.ownAddress
  ownSequence := s.composer.ownSequence
  slotFull := s.line.pendingSlot.isSome
  errorCounter := s.line.errorCounter
  goodRun := s.line.goodRun
  degraded := s.line.degraded
  counters := s.line.counters
  isolated := s.peers.isolated
  fire := s.fire
  localState := s.detection.localState
  loopCurrents := ⟨s.detection.loops.d1.current, s.detection.loops.d2.current⟩
  loopStates := ⟨s.detection.loops.d1.state, s.detection.loops.d2.state⟩
  callPoint := s.detection.callPoint.state
  supply := s.supply.state
  mains := s.supply.mains
  battery := s.supply.battery
  supplyTimers := ⟨s.ran s.supply.mainsAbsentSince, s.ran s.supply.mainsPresentSince, s.ran s.supply.lowSince,
    s.ran s.supply.recoverySince⟩
  alarmRelay := s.pins.alarmRelay
  faultRelay := s.pins.faultRelay
  confirmation := s.pins.confirmationRelay
  causes := s.faultCauses
  drift := Four.ofFn fun o => (s.leafAt o).map fun l => (s.feedback.get l).drift
  settingsPending := s.store.settingsPending
  adjusted := s.store.adjusted
  defaulted := s.store.defaulted

def PeerStatus.content? : PeerStatus → Option PeerContent
  | .absent => none
  | .fresh c => some c
  | .lost c => some c

/-- PEER (R69): an ABSENT record gives its status alone; moments are given as ages. -/
def State.peerData (s : State) (st : PeerStatus) : PeerData where
  status := st.name
  content := st.content?
  heardAge := st.content?.map fun c => s.since c.lastHeard
  weatherAge := (st.content?.bind PeerContent.weather).map fun w => s.since w.updated

/-- ZONES (R187). -/
def State.zonesData (s : State) : ZonesData := ⟨s.zones.records, s.zones.ownOverride, s.zones.remembered, s.zones.brigade⟩

/-- A side record with the class computed now (R107). -/
def State.sideData (s : State) (u : Leaf) : SideData where
  leaf := u
  facing := s.cfg.facing.get u
  computed := s.computedSide u
  applied := (s.weather.sides.get u).applied
  pendingClass := (s.weather.sides.get u).pendingClass.map fun p => (p.1, s.since p.2)

/-- The status of the comfort source's record, where the source is a peer with a record (R126). -/
def State.comfortRecord (s : State) : Option StatusName :=
  if s.cfg.comfortSource = 0 || s.cfg.comfortSource = s.line.ownAddress then none
  else (s.peers.find? s.cfg.comfortSource).map fun r => r.status.name

/-- LEAF (R126, R157, R173). -/
def State.leafData (s : State) (l : Leaf) : LeafData where
  leaf := l
  tableLeader := s.cfg.leader l
  view := s.leafView l
  unitRecord := s.unitOf l
  member := s.members.get l
  retryLeft := s.left ((s.unitOf l).retryHold.map fun h => h.since + h.period)
  queuePlace := s.startQueue.idxOf? (s.cfg.leader l)
  slotCount := s.supply.slotCount
  slotsHeld := s.slotsHeld
  feedback := s.feedback.get l
  watchdogRun := s.ran (s.feedback.get l).watchdog
  periodRun := s.ran ((s.feedback.get l).period.map Period.since)
  slots := s.slotsOf (s.cfg.leader l)
  serviceTarget := (s.tables.get (s.cfg.leader l)).serviceTarget
  restPosition := (s.tables.get (s.cfg.leader l)).restPosition
  comfortRecord := s.comfortRecord
  lastPair := (s.unitOf l).pair
  side := s.sideData (s.cfg.leader l)

def State.reporterData (s : State) : ReporterData where
  speedWindow := s.weather.speedWindow
  sectorWindow := s.weather.sectorWindow
  reportedSpeed := Sys2Proof.Machine.reportedSpeed s.weather.speedWindow
  reportedSector := Sys2Proof.Machine.reportedSector s.weather.sectorWindow
  rainState := s.weather.rainState
  dryOffRun := s.ran s.weather.dryOffSince
  anemoFault := s.weather.anemoFault
  vaneFault := s.weather.vaneFault
  rainFault := s.weather.rainFault
  offered := s.ownWeather.isSome

/-- WIND (R107). -/
def State.windData (s : State) : WindData where
  governing := s.weather.governing
  calm := match s.weather.governing with
    | some g => g.calm
    | none => false
  basis := s.weather.basis
  governingRain := s.weather.governingRain
  stormActive := s.weather.stormActive
  clearLimit := s.cfg.clearLimit
  clearRun := s.ran s.weather.clearSince
  reporter := if s.cfg.weatherReporter then some s.reporterData else none
  sides := (N4.all.filter s.cfg.isUnit).map s.sideData

end Sys2Proof.Machine
end

