-- ==== Sys2Proof/Machine/Settings.lean ====
section
/-! DEFINITION. The settings store: the stored bytes and their check word (R183), the check at a start (R184), clamps and
cross-field rules (R185), and a WRITE SETTING's value (R188). -/

namespace Sys2Proof.Machine

/-! ### The stored bytes (R183) -/

def word16 (w : BitVec 16) : List Byte := [highByte w, lowByte w]

/-- The stored fields in the order of R183's table, two bytes where the range goes above 255. -/
def StoredSettings.bytes (x : StoredSettings) : List Byte :=
  [x.smokeZone, x.answerSet, x.resetRight, x.brigadePanel, x.brigadeZones, x.weatherReporter, x.anemoK,
    x.stormThreshold, x.comfortSource, x.bmEnable]
  ++ word16 x.fireOpening ++ word16 x.unknownWindOpening ++ [x.rainGap] ++ word16 x.confirmTime
  ++ [x.debounce, x.loopDisable.d1, x.loopDisable.d2]
  ++ x.outputMap.toList ++ [x.gangPair12, x.gangPair34] ++ x.facing.toList
  ++ (x.stroke.toList.map word16).flatten ++ (x.fullTime.toList.map word16).flatten
  ++ (x.quietTime.toList.map word16).flatten ++ x.stall.toList ++ x.pinch.toList

/-- The check word over the stored fields: formed as the frame's (R28, R183). -/
def StoredSettings.check (x : StoredSettings) : BitVec 16 := crc16 x.bytes

/-! ### Clamps (R185, first pass) -/

def clampNat (lo hi n : Nat) : Nat := max lo (min n hi)
def clampByte (lo hi : Nat) (b : Byte) : Byte := BitVec.ofNat 8 (clampNat lo hi b.toNat)
def clampWord (lo hi : Nat) (w : BitVec 16) : BitVec 16 := BitVec.ofNat 16 (clampNat lo hi w.toNat)

/-- Each field outside its range goes to the nearer limit; a set of zones has no value outside its range. -/
def StoredSettings.clamped (x : StoredSettings) : StoredSettings where
  smokeZone := clampByte 1 8 x.smokeZone
  answerSet := x.answerSet
  resetRight := clampByte 0 1 x.resetRight
  brigadePanel := clampByte 0 1 x.brigadePanel
  brigadeZones := x.brigadeZones
  weatherReporter := clampByte 0 1 x.weatherReporter
  anemoK := clampByte 1 100 x.anemoK
  stormThreshold := clampByte 80 250 x.stormThreshold
  comfortSource := clampByte 0 32 x.comfortSource
  bmEnable := clampByte 0 1 x.bmEnable
  fireOpening := clampWord 500 1000 x.fireOpening
  unknownWindOpening := clampWord 0 1000 x.unknownWindOpening
  rainGap := clampByte 0 200 x.rainGap
  confirmTime := clampWord 30 300 x.confirmTime
  debounce := clampByte 1 10 x.debounce
  loopDisable := ⟨clampByte 0 1 x.loopDisable.d1, clampByte 0 1 x.loopDisable.d2⟩
  outputMap := Four.map (clampByte 0 4) x.outputMap
  gangPair12 := clampByte 0 1 x.gangPair12
  gangPair34 := clampByte 0 1 x.gangPair34
  facing := Four.map (clampByte 0 15) x.facing
  stroke := Four.map (clampWord 200 20000) x.stroke
  fullTime := Four.map (clampWord 10 300) x.fullTime
  quietTime := Four.map (clampWord 20 600) x.quietTime
  stall := Four.map (clampByte 5 50) x.stall
  pinch := Four.map (clampByte 3 48) x.pinch

def isSet (b : Byte) : Bool := b ≠ 0#8

/-- The clamped fields as values, before the cross-field rules. -/
def StoredSettings.values (x : StoredSettings) : Settings where
  smokeZone := (Zone.ofNumber? x.smokeZone.toNat).getD .z1
  answerSet := x.answerSet
  resetRight := isSet x.resetRight
  brigadePanel := isSet x.brigadePanel
  brigadeZones := x.brigadeZones
  weatherReporter := isSet x.weatherReporter
  anemoK := x.anemoK.toNat
  stormThreshold := x.stormThreshold.toNat
  comfortSource := x.comfortSource.toNat
  bmEnable := isSet x.bmEnable
  fireOpening := x.fireOpening.toNat
  unknownWindOpening := x.unknownWindOpening.toNat
  rainGap := x.rainGap.toNat
  confirmTime := x.confirmTime.toNat
  debounce := x.debounce.toNat
  loopDisable := ⟨isSet x.loopDisable.d1, isSet x.loopDisable.d2⟩
  outputMap := Four.map (fun b : Byte => N4.ofNumber? b.toNat) x.outputMap
  gang12 := isSet x.gangPair12
  gang34 := isSet x.gangPair34
  facing := Four.map BitVec.toNat x.facing
  stroke := Four.map BitVec.toNat x.stroke
  fullTime := Four.map BitVec.toNat x.fullTime
  quietTime := Four.map BitVec.toNat x.quietTime
  stall := Four.map BitVec.toNat x.stall
  pinch := Four.map BitVec.toNat x.pinch

/-! ### Cross-field rules (R185, second pass) -/

/-- Rule 1: a pinch threshold at or above its stall threshold becomes the stall threshold less 0.2 A. -/
def Settings.pinchRule (c : Settings) : Settings :=
  { c with pinch := Four.ofFn fun l => if c.stall.get l ≤ c.pinch.get l then c.stall.get l - 2 else c.pinch.get l }

/-- Rule 2: the answer set contains the smoke zone. -/
def Settings.answerRule (c : Settings) : Settings := { c with answerSet := c.answerSet ||| c.smokeZone.bit }

/-- Rule 3: no own comfort source without the BM input. -/
def Settings.comfortRule (own : Nat) (c : Settings) : Settings :=
  { c with comfortSource := if c.comfortSource = own && !c.bmEnable then 0 else c.comfortSource }

/-- An output's leaf, unless a lower-numbered output names the same leaf. -/
def firstUse (earlier : List (Option Leaf)) (x : Option Leaf) : Option Leaf :=
  if earlier.contains x then none else x

/-- Rule 4: the lower-numbered output keeps a leaf that two outputs name (R127). -/
def Settings.outputRule (c : Settings) : Settings :=
  let m := c.outputMap
  { c with outputMap := ⟨m.f1, firstUse [m.f1] m.f2, firstUse [m.f1, m.f2] m.f3, firstUse [m.f1, m.f2, m.f3] m.f4⟩ }

def Settings.gangKept (c : Settings) (a b : Leaf) : Bool :=
  c.mapped a && c.mapped b && c.facing.get a = c.facing.get b

/-- Rule 5: a ganged pair with an unmapped member, or with differing facings, is dissolved (R128). -/
def Settings.gangRule (c : Settings) : Settings :=
  { c with gang12 := c.gang12 && c.gangKept .n1 .n2, gang34 := c.gang34 && c.gangKept .n3 .n4 }

def Settings.crossRules (own : Nat) (c : Settings) : Settings :=
  (((c.pinchRule.answerRule).comfortRule own).outputRule).gangRule

/-- The settings in force that stored values which pass the check word give, and whether any value was changed. -/
def StoredSettings.intoForce (own : Nat) (x : StoredSettings) : Settings × Bool :=
  let c := x.clamped.values
  let f := c.crossRules own
  (f, decide (x.clamped ≠ x) || decide (f ≠ c))

/-- The check at a start (R184): defaults and SETTINGS_DEFAULTED on a mismatch, R185's two passes otherwise. -/
def SettingsStore.atStart (own : Nat) (x : SettingsStore) : SettingsStore :=
  if x.stored.check = x.checkWord then
    { stored := x.stored, checkWord := x.checkWord, inForce := (x.stored.intoForce own).1, settingsPending := false,
      adjusted := (x.stored.intoForce own).2, defaulted := false }
  else
    { stored := .defaults, checkWord := StoredSettings.defaults.check, inForce := .defaults, settingsPending := false,
      adjusted := false, defaulted := true }

/-! ### WRITE SETTING (R188) -/

/-- The range a name's value must lie in, in the units it is stored in; none for a name not in the table. -/
def settingRange? : SettingName → Option (Nat × Nat)
  | .smokeZone => some (1, 8)
  | .answerSet => some (0, 255)
  | .resetRight => some (0, 1)
  | .brigadePanel => some (0, 1)
  | .brigadeZones => some (0, 255)
  | .weatherReporter => some (0, 1)
  | .anemoK => some (1, 100)
  | .stormThreshold => some (80, 250)
  | .comfortSource => some (0, 32)
  | .bmEnable => some (0, 1)
  | .fireOpening => some (500, 1000)
  | .unknownWindOpening => some (0, 1000)
  | .rainGap => some (0, 200)
  | .confirmTime => some (30, 300)
  | .debounce => some (1, 10)
  | .loopDisable _ => some (0, 1)
  | .outputMap _ => some (0, 4)
  | .gangPairs _ => some (0, 1)
  | .facing _ => some (0, 15)
  | .stroke _ => some (200, 20000)
  | .fullTime _ => some (10, 300)
  | .quietTime _ => some (20, 600)
  | .stall _ => some (5, 50)
  | .pinch _ => some (3, 48)
  | .unknown => none

/-- Whether an index the name carries lies in its own range: 1..2 for LOOP_DISABLE and GANG_PAIRS, 1..4 otherwise. -/
def settingIndexOk : SettingName → Bool
  | .loopDisable i => 1 ≤ i && i ≤ 2
  | .gangPairs i => 1 ≤ i && i ≤ 2
  | .outputMap i => 1 ≤ i && i ≤ 4
  | .facing i => 1 ≤ i && i ≤ 4
  | .stroke i => 1 ≤ i && i ≤ 4
  | .fullTime i => 1 ≤ i && i ≤ 4
  | .quietTime i => 1 ≤ i && i ≤ 4
  | .stall i => 1 ≤ i && i ≤ 4
  | .pinch i => 1 ≤ i && i ≤ 4
  | _ => true

def setAtNumber {α : Type} (v : Four α) (i : Nat) (x : α) : Four α :=
  match N4.ofNumber? i with
  | some n => v.set n x
  | none => v

/-- The store with one value written. -/
def StoredSettings.write (x : StoredSettings) (name : SettingName) (n : Nat) : StoredSettings :=
  let b := BitVec.ofNat 8 n
  let w := BitVec.ofNat 16 n
  match name with
  | .smokeZone => { x with smokeZone := b }
  | .answerSet => { x with answerSet := b }
  | .resetRight => { x with resetRight := b }
  | .brigadePanel => { x with brigadePanel := b }
  | .brigadeZones => { x with brigadeZones := b }
  | .weatherReporter => { x with weatherReporter := b }
  | .anemoK => { x with anemoK := b }
  | .stormThreshold => { x with stormThreshold := b }
  | .comfortSource => { x with comfortSource := b }
  | .bmEnable => { x with bmEnable := b }
  | .fireOpening => { x with fireOpening := w }
  | .unknownWindOpening => { x with unknownWindOpening := w }
  | .rainGap => { x with rainGap := b }
  | .confirmTime => { x with confirmTime := w }
  | .debounce => { x with debounce := b }
  | .loopDisable i => { x with loopDisable := if i = 1 then { x.loopDisable with d1 := b } else { x.loopDisable with d2 := b } }
  | .outputMap i => { x with outputMap := setAtNumber x.outputMap i b }
  | .gangPairs i => if i = 1 then { x with gangPair12 := b } else { x with gangPair34 := b }
  | .facing i => { x with facing := setAtNumber x.facing i b }
  | .stroke i => { x with stroke := setAtNumber x.stroke i w }
  | .fullTime i => { x with fullTime := setAtNumber x.fullTime i w }
  | .quietTime i => { x with quietTime := setAtNumber x.quietTime i w }
  | .stall i => { x with stall := setAtNumber x.stall i b }
  | .pinch i => { x with pinch := setAtNumber x.pinch i b }
  | .unknown => x

/-- Why a WRITE SETTING is refused: BAD_LEAF for an index, then BAD_VALUE for a name or a value (R186, R188). -/
def settingRefusal? (name : SettingName) (value : Int) : Option RefusalReason :=
  if !settingIndexOk name then some .badLeaf
  else match settingRange? name with
    | none => some .badValue
    | some (lo, hi) => if inRange lo hi value then none else some .badValue

/-- The store after an accepted WRITE SETTING: the value, a fresh check word, settings-pending. -/
def SettingsStore.write (x : SettingsStore) (name : SettingName) (value : Int) : SettingsStore :=
  let y := x.stored.write name value.toNat
  { x with stored := y, checkWord := y.check, settingsPending := true }

end Sys2Proof.Machine
end

