-- ==== Sys2Proof/Machine/Start.lean ====
section
/-! DEFINITION. The start sequence (R191) with what a RESTART keeps of leaf records (R192), and the restart wait. -/

namespace Sys2Proof.Machine

/-! ### Kept leaf records (R192) -/

/-- What a kept record keeps; of a gang's own fields each member has the gang's. -/
structure KeptLeaf where
  count         : Nat
  failureCount  : Nat
  lastFault     : Option RunFault
  lastRunFailed : Bool
deriving DecidableEq, Repr

/-- The leaf record kept over a RESTART under the settings `c` of the start: PULSE with a known count, on the same output,
with an unchanged stroke. -/
def State.keptLeaf (s : State) (c : Settings) (l : Leaf) : Option KeptLeaf :=
  let f := s.feedback.get l
  match f.mode, f.count with
  | .pulse, some n =>
    if s.cfg.mapped l && c.outputOf l = s.cfg.outputOf l && c.stroke.get l = s.cfg.stroke.get l then
      let x := s.unitOf l
      some ⟨n, x.failureCount, x.lastFault, x.lastRunFailed⟩
    else none
  | _, _ => none

def UnitRecord.kept (k : Option KeptLeaf) : UnitRecord :=
  match k with
  | some k => { UnitRecord.atStart with
      failureCount := k.failureCount, lastFault := k.lastFault, lastRunFailed := k.lastRunFailed }
  | none => .atStart

def FeedbackRecord.kept (c : Settings) (l : Leaf) (k : Option KeptLeaf) : FeedbackRecord :=
  if c.mapped l then FeedbackRecord.started (k.map KeptLeaf.count) else .atStart

/-! ### The steps of a start (R191) -/

/-- The address on the rotary switches (R45). -/
def startAddress (i : StartInputs) : Nat := 10 * i.tens + i.units

def validAddress (a : Nat) : Bool := 1 ≤ a && a ≤ 32

/-- Steps 2 and 8: LISTEN with the proving timer, or MUTE for an invalid address (R45, R48). The line is BUSY (R35). -/
def LineInterface.started (address now : Nat) : LineInterface :=
  { LineInterface.atStart with
    ownAddress := address
    join := if validAddress address then .listen else .mute .addressInvalid
    proving := if validAddress address then some ⟨now + provingPeriod, 0, 0⟩ else none
    lastByte := now }

/-- Step 4: the key without its hold, and the held step of the BM input. -/
def Detection.started (c : Settings) (i : StartInputs) : Detection :=
  { Detection.atStart with
    loops := ⟨.atStart c.loopDisable.d1, .atStart c.loopDisable.d2⟩
    key := .taken (keyReadingOf i.keyService i.keyLockout)
    heldStep := if c.bmEnable then some (bmStep i.bm) else none }

/-- Step 4: the first rain reading of a reporter; the measurement second begins. -/
def Weather.started (c : Settings) (i : StartInputs) (now : Nat) : Weather :=
  let w := { Weather.atStart with windowStart := now }
  if c.weatherReporter then w.readRain i.rain now else w

/-- A kept record hands its position as its rest position (R119, R192), before the first pairs are formed: so a table without base
whose kept leaf stands at or below the cap has no target at the start, and its leaf is not closed. R109 and R122 would close every
such leaf, R119 and R192 do not say whether the position is handed before the first pair or at the probe's end (log entry 42,
DEDUCED). -/
def State.handKept (s : State) : State := N4.all.foldl (fun t u => if t.cfg.isUnit u then t.handRest u else t) s

/-- The state before the first pairs: every block at its start value under the settings and the inputs. -/
def State.blocksStarted (s : State) (i : StartInputs) (store : SettingsStore) (kept : Leaf → Option KeptLeaf) : State :=
  let address := startAddress i
  let c := store.inForce
  { State.powerOnValues s.now s.draws s.pending store .running with
    line := .started address s.now
    peers := freshTable address (if validAddress address then none else some s.now)
    detection := .started c i
    weather := .started c i s.now
    units := Four.ofFn fun l => UnitRecord.kept (kept l)
    feedback := Four.ofFn fun l => FeedbackRecord.kept c l (kept l)
    supply := .started i.mains i.battery }

/-- Steps 6 and 7: the first pairs, then the arbiter serves the probes. The kept positions are handed before them (log entry 42,
DEDUCED). No report is made due by a start. -/
def State.started (s : State) (i : StartInputs) (kept : Settings → Leaf → Option KeptLeaf) : State :=
  let store := s.store.atStart (startAddress i)
  (s.blocksStarted i store (kept store.inForce)).handKept.reform.drive

/-! ### The restart wait (R192) -/

/-- The restart wait begins: probes stopped, runs halted, the attempt series dropped. The port is idle, and the relays are
released by the phase. A WAITING unit leaves the queue and rests: the specification names only the leaves in flight (log entry 27,
DEDUCED). -/
def State.beginRestartWait (s : State) : State :=
  let t := s.stopProbes.haltAll
  { t with phase := .restartWait, line := t.line.dropSeries, port := ⟨none, false⟩ }

/-- A unit still in RUNDOWN keeps the wait going. -/
def UnitRecord.inRundown (x : UnitRecord) : Bool :=
  match x.run? with
  | some r => match r.stage with
    | .rundown _ _ => true
    | .starting _ => false
    | .running => false
  | none => false

def State.waitOver (s : State) : Bool :=
  s.phase = .restartWait && !s.units.toList.any UnitRecord.inRundown

end Sys2Proof.Machine
end

