-- ==== Sys2Proof/Machine/ServiceCommands.lean ====
section
/-! DEFINITION. The meanings of the service port's commands (R186 to R190, R192). A command that arrives while a reply is being
sent, or in a restart wait, is discarded without a reply. -/

namespace Sys2Proof.Machine

/-- A reply begins to be sent: the port is busy until its last byte. -/
def State.reply (s : State) (r : Reply) : State := { s with port := ⟨some r, false⟩ }

def State.replyOk (s : State) (d : ReplyData) : State := s.reply (.ok d)
def State.replyRefused (s : State) (r : RefusalReason) : State := s.reply (.refused r)

/-- The port takes a command: the station has started and no reply is being sent. -/
def State.portIdle (s : State) : Bool := s.phase = .running && s.port.sending.isNone

/-- A command at the port, decided in the one event (R186). -/
def State.service (s : State) (f : State → State) : State := s.act fun t => if t.portIdle then f t else t

/-- STATUS (R187). -/
def execStatus (s : State) : Host.Outcome State Fault Refusal :=
  .next (s.service fun t => t.replyOk (.status t.statusData))

/-- PEER n (R69, R187). -/
def execPeer (n : Nat) (s : State) : Host.Outcome State Fault Refusal :=
  .next (s.service fun t => match t.peers.find? n with
    | some r => t.replyOk (.peer (t.peerData r.status))
    | none => t.replyRefused .badValue)

/-- ZONES (R187). -/
def execZones (s : State) : Host.Outcome State Fault Refusal :=
  .next (s.service fun t => t.replyOk (.zones t.zonesData))

/-- LEAF n (R126, R157, R173, R187). -/
def execLeaf (n : Nat) (s : State) : Host.Outcome State Fault Refusal :=
  .next (s.service fun t => match t.serviceLeaf? n with
    | some l => t.replyOk (.leaf (t.leafData l))
    | none => t.replyRefused .badLeaf)

/-- WIND (R107). -/
def execWind (s : State) : Host.Outcome State Fault Refusal :=
  .next (s.service fun t => t.replyOk (.wind t.windData))

/-- SETTINGS (R187). -/
def execSettings (s : State) : Host.Outcome State Fault Refusal :=
  .next (s.service fun t => t.replyOk (.settings t.store.stored t.store.inForce))

/-- WRITE SETTING (R188). -/
def execWriteSetting (name : SettingName) (value : Int) (s : State) : Host.Outcome State Fault Refusal :=
  .next (s.service fun t => match settingRefusal? name value with
    | some r => t.replyRefused r
    | none => { t with store := t.store.write name value }.replyOk .none)

/-- Why a MOVE is refused, tested in R186's order (R189). -/
def State.moveRefusal? (s : State) (n : Nat) (target : Int) : Option RefusalReason :=
  if s.key ≠ .service then some .notInService
  else if (s.serviceLeaf? n).isNone then some .badLeaf
  else if !inRange 0 1000 target then some .badValue
  else none

/-- MOVE leaf target (R113, R189). -/
def execMove (n : Nat) (target : Int) (s : State) : Host.Outcome State Fault Refusal :=
  .next (s.service fun t => match t.moveRefusal? n target, t.serviceLeaf? n with
    | none, some l =>
      (((t.moveTarget l target.toNat).setDetection { t.detection with direction := .none }).close t false).replyOk .none
    | some r, _ => t.replyRefused r
    | none, none => t.replyRefused .badLeaf)

/-- STOP ALL (R113, R189). -/
def execStopAll (s : State) : Host.Outcome State Fault Refusal :=
  .next (s.service fun t =>
    if t.key ≠ .service then t.replyRefused .notInService
    else ((t.stopTargets.setDetection { t.detection with direction := .none }).close t false).replyOk .none)

/-- A unit is BUSY for a REFERENCE (R190): waiting or in flight, or with a probe in progress. -/
def State.referenceBusy (s : State) (u : Leaf) : Bool :=
  (s.units.get u).status ≠ .rest || (s.cfg.membersOf u).any fun l => (s.feedback.get l).probe.inProgress

/-- Why a REFERENCE is refused, tested in R190's order. -/
def State.referenceRefusal? (s : State) (n : Nat) : Option RefusalReason :=
  if s.key ≠ .service then some .notInService
  else match s.serviceLeaf? n with
    | none => some .badLeaf
    | some l => if s.fire then some .fireActive else if s.referenceBusy (s.cfg.leader l) then some .busy else none

/-- What an accepted REFERENCE does to the unit and its feedback records (R156, R158). -/
def State.referenceUnit (s : State) (u : Leaf) : State :=
  let t := s.setUnit u { s.units.get u with
    failureCount := 0
    lastRunFailed := false
    retryHold := none
    fireOwed := false
    referenceOwed := true }
  let t := (s.cfg.membersOf u).foldl (fun t l => t.setFeedback l (t.feedback.get l).referenced) t
  t.setTable u { t.tables.get u with restPosition := none }

/-- REFERENCE leaf (R156, R190). -/
def execReference (n : Nat) (s : State) : Host.Outcome State Fault Refusal :=
  .next (s.service fun t => match t.referenceRefusal? n, t.serviceLeaf? n with
    | none, some l => ((t.referenceUnit (t.cfg.leader l)).close t false).replyOk .none
    | some r, _ => t.replyRefused r
    | none, none => t.replyRefused .badLeaf)

/-- The five frame counters and every drift events counter zeroed (R190). -/
def State.clearCounters (s : State) : State :=
  { s with
    line := { s.line with counters := ⟨0, 0, 0, 0, 0⟩ }
    feedback := s.feedback.map fun f => { f with drift := 0 } }

/-- CLEAR COUNTERS (R52, R190). -/
def execClearCounters (s : State) : Host.Outcome State Fault Refusal :=
  .next (s.service fun t => t.clearCounters.replyOk .none)

/-- A line that names no command, or carries a framing error (R186). -/
def execUnknownCommand (s : State) : Host.Outcome State Fault Refusal :=
  .next (s.service fun t => t.replyRefused .badValue)

/-- RESTART (R192): replied OK; it is taken when the reply has been sent. -/
def execRestart (s : State) : Host.Outcome State Fault Refusal :=
  .next (s.service fun t => { t with port := ⟨some (.ok .none), true⟩ })

/-- The last byte of a reply has been sent (R186); a RESTART so replied to begins its wait (R192). -/
def execServiceReplySent (s : State) : Host.Outcome State Fault Refusal :=
  .next (s.act fun t =>
    if t.phase = .running && t.port.sending.isSome then
      if t.port.restartPending then t.beginRestartWait else { t with port := ⟨none, false⟩ }
    else t)

end Sys2Proof.Machine
end

