-- ==== Sys2Proof/Machine/StartCommands.lean ====
section
/-! DEFINITION. The meanings of the two starts (R191, R192). -/

namespace Sys2Proof.Machine

/-- POWER_ON_START (R191): taken whenever power is applied; nothing but the store is kept. -/
def execPowerOnStart (i : StartInputs) (s : State) : Host.Outcome State Fault Refusal :=
  .next (s.started i fun _ _ => none).refresh

/-- RESTART_START (R192): taken when the restart wait is over. -/
def execRestartStart (i : StartInputs) (s : State) : Host.Outcome State Fault Refusal :=
  .next (s.act fun t => if t.waitOver then t.started i t.keptLeaf else t)

end Sys2Proof.Machine
end

