-- ==== Sys2Proof/Machine/SupplyCommands.lean ====
section
/-! DEFINITION. The meanings of the supply monitor's events (R174 to R177). -/

namespace Sys2Proof.Machine

/-- SUPPLY_READING (R174, R175). -/
def execSupplyReading (mains : Bool) (battery : Option Nat) (s : State) : Host.Outcome State Fault Refusal :=
  .next (s.act fun t => t.setSupply (t.supply.read mains battery t.now))

/-- A change of the supply state, handed on in its event (R177); entry to LOW stops what is below FIRE (R154). -/
def State.changeSupply (s : State) (st : SupplyState) : State :=
  let t := s.setSupply (s.supply.changeTo st)
  (if st = .low then t.haltBelowFire else t).close s false

/-- MAINS_ABSENT_EXPIRY (R175). -/
def execMainsAbsentExpiry (s : State) : Host.Outcome State Fault Refusal :=
  .next (s.act fun t =>
    if t.supply.state = .mains && t.timerOver t.supply.mainsAbsentSince mainsAbsentPeriod
    then t.changeSupply .battery else t)

/-- MAINS_PRESENT_EXPIRY (R175). -/
def execMainsPresentExpiry (s : State) : Host.Outcome State Fault Refusal :=
  .next (s.act fun t =>
    if t.supply.state ≠ .mains && t.timerOver t.supply.mainsPresentSince mainsPresentPeriod
    then t.changeSupply .mains else t)

/-- LOW_TIMER_EXPIRY (R154, R175). -/
def execLowTimerExpiry (s : State) : Host.Outcome State Fault Refusal :=
  .next (s.act fun t =>
    if t.supply.state = .battery && t.timerOver t.supply.lowSince lowPeriod then t.changeSupply .low else t)

/-- RECOVERY_EXPIRY (R175). -/
def execRecoveryExpiry (s : State) : Host.Outcome State Fault Refusal :=
  .next (s.act fun t =>
    if t.supply.state = .low && t.timerOver t.supply.recoverySince recoveryPeriod then t.changeSupply .battery else t)

end Sys2Proof.Machine
end

