-- ==== Sys2Proof/Machine/WeatherCommands.lean ====
section
/-! DEFINITION. The meanings of the weather unit's events (R88 to R106). -/

namespace Sys2Proof.Machine

/-- ANEMOMETER_PULSE (R89): the window's count is held at 65535. -/
def execAnemometerPulse (s : State) : Host.Outcome State Fault Refusal :=
  .next (s.act fun t =>
    if t.cfg.weatherReporter then t.setWeather { t.weather with windowCount := fieldSucc t.weather.windowCount } else t)

/-- ANEMOMETER_CIRCUIT_TEST (R91). -/
def execAnemometerCircuitTest (current : Nat) (s : State) : Host.Outcome State Fault Refusal :=
  .next (s.act fun t =>
    if t.cfg.weatherReporter && supervisionOpen current then t.setWeather { t.weather with windowOpen := true } else t)

/-- ANEMOMETER_WINDOW_END (R89 to R94). -/
def execAnemometerWindowEnd (v : VaneSample) (s : State) : Host.Outcome State Fault Refusal :=
  .next (s.act fun t =>
    if t.cfg.weatherReporter && t.elapsed t.weather.windowStart windowPeriod then
      (t.setWeather ((t.weather.endWindow t.cfg.anemoK).vaneSample (vaneSector v))).close t false
    else t)

/-- RAIN_READING (R95). -/
def execRainReading (r : RainReading) (s : State) : Host.Outcome State Fault Refusal :=
  .next (s.act fun t =>
    if t.cfg.weatherReporter then (t.setWeather (t.weather.readRain r t.now)).close t false else t)

/-- DRY_OFF_EXPIRY (R95). -/
def execDryOffExpiry (s : State) : Host.Outcome State Fault Refusal :=
  .next (s.act fun t => match t.weather.dryOffSince with
    | some since =>
      if t.elapsed since dryOffPeriod then
        (t.setWeather { t.weather with rainState := .dry, dryOffSince := none }).close t false
      else t
    | none => t)

/-- CLEAR_HOLD_EXPIRY (R101). -/
def execClearHoldExpiry (s : State) : Host.Outcome State Fault Refusal :=
  .next (s.act fun t => match t.weather.clearSince with
    | some since =>
      if t.elapsed since clearHoldPeriod then
        (t.setWeather { t.weather with stormActive := false, clearSince := none }).close t false
      else t
    | none => t)

/-- CLASS_HOLD_EXPIRY (R105): of the side record that serves the leaf. -/
def execClassHoldExpiry (l : Leaf) (s : State) : Host.Outcome State Fault Refusal :=
  .next (s.act fun t =>
    let u := t.cfg.leader l
    match (t.weather.sides.get u).pendingClass with
    | some (c, since) =>
      if t.elapsed since classHoldPeriod then
        (t.setWeather { t.weather with sides := t.weather.sides.set u ⟨c, none⟩ }).close t false
      else t
    | none => t)

end Sys2Proof.Machine
end

