-- ==== Sys2Proof/Machine/Dispatch.lean ====
section
/-! DEFINITION. The meaning of every command: one arm per row of spec/opcode_table.json. -/

namespace Sys2Proof.Machine

def exec (i : Instr) (s : State) : Host.Outcome State Fault Refusal :=
  match i with
  | .powerOnStart inp => Sys2Proof.Machine.execPowerOnStart inp s
  | .restart => Sys2Proof.Machine.execRestart s
  | .restartStart inp => Sys2Proof.Machine.execRestartStart inp s
  | .status => Sys2Proof.Machine.execStatus s
  | .peer n => Sys2Proof.Machine.execPeer n s
  | .zones => Sys2Proof.Machine.execZones s
  | .leaf n => Sys2Proof.Machine.execLeaf n s
  | .wind => Sys2Proof.Machine.execWind s
  | .settings => Sys2Proof.Machine.execSettings s
  | .writeSetting name value => Sys2Proof.Machine.execWriteSetting name value s
  | .move n target => Sys2Proof.Machine.execMove n target s
  | .stopAll => Sys2Proof.Machine.execStopAll s
  | .reference n => Sys2Proof.Machine.execReference n s
  | .clearCounters => Sys2Proof.Machine.execClearCounters s
  | .unknownCommand => Sys2Proof.Machine.execUnknownCommand s
  | .serviceReplySent => Sys2Proof.Machine.execServiceReplySent s
  | .lineIdle => Sys2Proof.Machine.execLineIdle s
  | .lineBusy rx => Sys2Proof.Machine.execLineBusy s rx
  | .backoffExpiry => Sys2Proof.Machine.execBackoffExpiry s
  | .byteReadback rx => Sys2Proof.Machine.execByteReadback rx s
  | .goodFrameReceived rest => Sys2Proof.Machine.execGoodFrameReceived rest s
  | .badFrame rest => Sys2Proof.Machine.execBadFrame rest s
  | .provingTimerExpiry => Sys2Proof.Machine.execProvingTimerExpiry s
  | .holdoffExpiry => Sys2Proof.Machine.execHoldoffExpiry s
  | .heartbeatExpiry => Sys2Proof.Machine.execHeartbeatExpiry s
  | .firstAttemptBegins => Sys2Proof.Machine.execFirstAttemptBegins s
  | .peerSilenceExpiry address => Sys2Proof.Machine.execPeerSilenceExpiry address s
  | .settledTimeReached => Sys2Proof.Machine.execSettledTimeReached s
  | .loopSample d1 d2 => Sys2Proof.Machine.execLoopSample d1 d2 s
  | .callPointSample current => Sys2Proof.Machine.execCallPointSample current s
  | .debounceExpiry input => Sys2Proof.Machine.execDebounceExpiry input s
  | .confirmTimerExpiry l => Sys2Proof.Machine.execConfirmTimerExpiry l s
  | .powerOffExpiry => Sys2Proof.Machine.execPowerOffExpiry s
  | .settleEnd => Sys2Proof.Machine.execSettleEnd s
  | .keySwitchChange => Sys2Proof.Machine.execKeySwitchChange s
  | .serviceButtonPress b => Sys2Proof.Machine.execServiceButtonPress b s
  | .zoneResetKeyPress => Sys2Proof.Machine.execZoneResetKeyPress s
  | .brigadeSwitchChange => Sys2Proof.Machine.execBrigadeSwitchChange s
  | .bmSample centivolts => Sys2Proof.Machine.execBmSample centivolts s
  | .resetFlashEnd => Sys2Proof.Machine.execResetFlashEnd s
  | .anemometerWindowEnd vane => Sys2Proof.Machine.execAnemometerWindowEnd vane s
  | .rainReading r => Sys2Proof.Machine.execRainReading r s
  | .dryOffExpiry => Sys2Proof.Machine.execDryOffExpiry s
  | .clearHoldExpiry => Sys2Proof.Machine.execClearHoldExpiry s
  | .classHoldExpiry l => Sys2Proof.Machine.execClassHoldExpiry l s
  | .startingEnd l => Sys2Proof.Machine.execStartingEnd l s
  | .blankingEnd o => Sys2Proof.Machine.execBlankingEnd o s
  | .travelTimeout l => Sys2Proof.Machine.execTravelTimeout l s
  | .rundownEnd l => Sys2Proof.Machine.execRundownEnd l s
  | .reversalPauseEnd l => Sys2Proof.Machine.execReversalPauseEnd l s
  | .retryHoldExpiry l => Sys2Proof.Machine.execRetryHoldExpiry l s
  | .closedSwitchMade o => Sys2Proof.Machine.execClosedSwitchMade o s
  | .endCutOut o highest => Sys2Proof.Machine.execEndCutOut o highest s
  | .probingSliceEnd o => Sys2Proof.Machine.execProbingSliceEnd o s
  | .overcurrent o current => Sys2Proof.Machine.execOvercurrent o current s
  | .stall o lowest => Sys2Proof.Machine.execStall o lowest s
  | .pinch o lowest => Sys2Proof.Machine.execPinch o lowest s
  | .feedbackEdge o line => Sys2Proof.Machine.execFeedbackEdge o line s
  | .watchdogApplied o => Sys2Proof.Machine.execWatchdogApplied o s
  | .pulseWatchdogExpiry o current => Sys2Proof.Machine.execPulseWatchdogExpiry o current s
  | .timedEstimateUpdate o => Sys2Proof.Machine.execTimedEstimateUpdate o s
  | .probeSettleEnd o => Sys2Proof.Machine.execProbeSettleEnd o s
  | .probePulseEnd o highest => Sys2Proof.Machine.execProbePulseEnd o highest s
  | .supplyReading mains battery => Sys2Proof.Machine.execSupplyReading mains battery s
  | .mainsAbsentExpiry => Sys2Proof.Machine.execMainsAbsentExpiry s
  | .mainsPresentExpiry => Sys2Proof.Machine.execMainsPresentExpiry s
  | .lowTimerExpiry => Sys2Proof.Machine.execLowTimerExpiry s
  | .recoveryExpiry => Sys2Proof.Machine.execRecoveryExpiry s
  | .switchSample c => Sys2Proof.Machine.execSwitchSample c s
  | .anemometerPulse => Sys2Proof.Machine.execAnemometerPulse s
  | .anemometerCircuitTest current => Sys2Proof.Machine.execAnemometerCircuitTest current s

end Sys2Proof.Machine
end

