-- ==== Sys2Proof/Safety.lean ====
section
/-! DEFINITION. The words the statements are written in: a completed command, what the end of an event may still change, and
the invariants of the station. -/

namespace Sys2Proof.Machine

/-- The command ends in a next state with this property. -/
def Completes (i : Instr) (s : State) (post : State → Prop) : Prop := ∃ t, exec i s = .next t ∧ post t

/-- The next step stops neither with a fault nor with a refusal. -/
def StepSafe (s : State) : Prop := ∃ t, step s = .next t

/-- The station has started and is not in a restart wait. -/
def Running (s : State) : Prop := s.phase = .running

/-! ### The end of an event -/

/-- The line interface but for the pending-report slot. -/
def LineInterface.unslotted (x : LineInterface) : LineInterface := { x with pendingSlot := none }

/-- What the weather unit measures: all of it but the governing results, the storm guard and the side records. -/
structure Measured where
  windowStart  : Nat
  windowCount  : Nat
  windowOpen   : Bool
  speedWindow  : List Nat
  sectorWindow : List Nat
  anemoFault   : Bool
  vaneFault    : Bool
  rainState    : Rain
  dryOffSince  : Option Nat
  rainFault    : Bool

def Weather.measured (w : Weather) : Measured where
  windowStart := w.windowStart
  windowCount := w.windowCount
  windowOpen := w.windowOpen
  speedWindow := w.speedWindow
  sectorWindow := w.sectorWindow
  anemoFault := w.anemoFault
  vaneFault := w.vaneFault
  rainState := w.rainState
  dryOffSince := w.dryOffSince
  rainFault := w.rainFault

/-- `t` is `a` after the end of an event: what follows from changed inputs is the weather unit's results, the brigade
resolution, the pairs with the leaf records, the arbiter and the pending-report slot, and the outputs formed from them.
Everything else is as in `a`. -/
structure Follows (a t : State) : Prop where
  now : t.now = a.now
  phase : t.phase = a.phase
  pending : t.pending = a.pending
  draws : t.draws = a.draws
  store : t.store = a.store
  line : t.line.unslotted = a.line.unslotted
  slotKept : a.line.pendingSlot.isSome → t.line.pendingSlot.isSome
  urgencyKept : a.line.pendingSlot = some true → t.line.pendingSlot = some true
  composer : t.composer = a.composer
  peers : t.peers = a.peers
  detection : t.detection = a.detection
  zoneRecords : t.zones.records = a.zones.records
  ownOverride : t.zones.ownOverride = a.zones.ownOverride
  remembered : t.zones.remembered = a.zones.remembered
  measured : t.weather.measured = a.weather.measured
  supply : t.supply = a.supply
  port : t.port = a.port
  serviceTarget : ∀ u, (t.tables.get u).serviceTarget = (a.tables.get u).serviceTarget
  presence : ∀ l, (t.feedback.get l).presence = (a.feedback.get l).presence
  mode : ∀ l, (t.feedback.get l).mode = (a.feedback.get l).mode
  count : ∀ l, (t.feedback.get l).count = (a.feedback.get l).count
  drift : ∀ l, (t.feedback.get l).drift = (a.feedback.get l).drift
  failureCount : ∀ u, (t.units.get u).failureCount = (a.units.get u).failureCount
  lastFault : ∀ u, (t.units.get u).lastFault = (a.units.get u).lastFault
  formed : t.refresh = t

/-- The content differs from the last composed content in an item that makes a report urgent, or nothing has been composed (R30). -/
def State.differsUrgently (t : State) : Prop :=
  ∀ r, t.composer.lastComposed = some r →
    r.origin ≠ t.content.origin ∨ r.latchSet ≠ t.content.latchSet ∨ r.marks ≠ t.content.marks ∨
      r.overridePart ≠ t.content.overridePart

/-- The pending-report slot of `t` at the end of an event that began in `s` and had come to `a`: a report is made due where one is
requested, or the content changed in the event and differs from the last composed content (R30); it is urgent by its items, or where
the one it replaces was (R32). Else the slot is as in `a`. That
the contents are compared once, at the event's end, is the model's choice (log entry 10, DEDUCED). -/
structure SlotFilled (s a t : State) (request : Bool) : Prop where
  due : request = true ∨ (t.content ≠ s.content ∧ t.composer.lastComposed.map Report.content ≠ some t.content) →
    ∃ urgent, t.line.pendingSlot = some urgent ∧ (urgent = true ↔ t.differsUrgently ∨ a.line.pendingSlot = some true)
  kept : ¬ (request = true ∨ (t.content ≠ s.content ∧ t.composer.lastComposed.map Report.content ≠ some t.content)) →
    t.line.pendingSlot = a.line.pendingSlot

/-- The event that began in `s` and came to `a` ends in `t` by closing: the weather results are formed again from `a` (R99), the
brigade override resolved (R19), the tables evaluated, the leaves judged and the arbiter served, as `Follows` allows, and the slot
is filled. -/
structure Closes (s a t : State) (request : Bool) : Prop where
  follows : Follows a t
  weather : t.weather = a.formWeather.weather
  brigade : t.zones.brigade = a.resolution
  slot : SlotFilled s a t request

/-- The event that began in `s` and came to `a` ends in `t` with the slot filled, and nothing else follows but the outputs. -/
structure Reports (s a t : State) (request : Bool) : Prop where
  rest : t = ({ a with line := { a.line with pendingSlot := t.line.pendingSlot } } : State).refresh
  slot : SlotFilled s a t request

/-- `t` is `s` but for the tables, the leaf records and the feedback records, of which `Follows` says what is as in `s`; and the
outputs formed. -/
structure MotionOnly (s t : State) : Prop where
  follows : Follows s t
  rest : t = ({ s with tables := t.tables, units := t.units, members := t.members, feedback := t.feedback } : State).refresh

/-! ### The receiver and the weather -/

/-- The receiver takes the bytes of a frame: it assembles one, or the line is IDLE and it hunts, with no byte held (R35, R40,
R43). -/
def LineInterface.ready (x : LineInterface) : Prop :=
  x.transmitting = false ∧ (x.receiver = .assembling ∨ (x.busy = false ∧ x.receiver = .hunting ∧ x.rxBytes = []))

/-- The governing wind and the governing rain stand as their candidates give them (R97, R98, R100). -/
def WeatherFormed (s : State) : Prop :=
  governingOf s.candidateSet.1 = s.weather.governing ∧ s.candidateSet.2 = s.weather.basis ∧
    governingRainOf s.candidateSet.1 = s.weather.governingRain

/-! ### Reports -/

/-- The values a station sends in a report (R20 to R26). -/
structure Report.wf (r : Report) : Prop where
  source : 1 ≤ r.source ∧ r.source ≤ 32
  smokeZone : 1 ≤ r.smokeZone ∧ r.smokeZone ≤ 8
  weather : ∀ w, r.weather = some w → w.speed ≤ 600 ∧ w.sector ≤ 15
  comfort : ∀ c, r.comfort = some c → c ≤ 100
  epoch : ∀ o, r.overridePart = some o → 1 ≤ o.epoch ∧ o.epoch ≤ 65535
  position : ∀ e ∈ r.leaves, ∀ p, e.position = some p → p ≤ 1000
  leaves : (r.leaves.map LeafEntry.leaf).Nodup

/-! ### Invariants -/

/-- R2, R4 and R78's laws of the zone records and of local detection. -/
structure ZonesLawful (s : State) : Prop where
  formedNow : s.detection.localState = s.detection.formed
  alarmLatched : s.detection.localState = .alarm → (s.zones.records.get s.cfg.smokeZone).state = .latched
  source : ∀ z, (s.zones.records.get z).state = .latched ↔ (s.zones.records.get z).source ≠ .none
  pendingSmoke : ∀ z, (s.zones.records.get z).state = .pending → z = s.cfg.smokeZone
  resetting : s.detection.loopReset ≠ .none →
    ∀ l, (s.detection.loops.get l).state = .resetting ∨ (s.detection.loops.get l).state = .disabled
  hidden : ∀ since, s.detection.loopReset = .settle since →
    ∀ l, (s.detection.loops.get l).hidden.isSome ∨ (s.detection.loops.get l).state = .disabled
  hiddenOnly : ∀ l, (s.detection.loops.get l).hidden.isSome → ∃ since, s.detection.loopReset = .settle since

/-- The laws of the line interface (R36, R39, R40, R44, R46, R48, R49, R52). -/
structure LineLawful (s : State) : Prop where
  counter : s.line.errorCounter ≤ 16
  run : s.line.goodRun ≤ 63
  full : s.line.errorCounter = 16 → s.line.degraded = true
  empty : s.line.errorCounter = 0 → s.line.degraded = false
  good : s.line.counters.good ≤ 65535
  bad : s.line.counters.bad ≤ 65535
  sent : s.line.counters.sent ≤ 65535
  collisions : s.line.counters.collisions ≤ 65535
  failures : s.line.counters.transmitFailures ≤ 65535
  proving : s.phase ≠ .off → (s.line.join = .listen ↔ s.line.proving.isSome = true)
  period : ∀ p, s.line.proving = some p → p.badFrames ≤ 3 ∧ p.failedPeriods ≤ 3
  sends : s.line.series.isSome = true → s.line.join = .running
  attempt : ∀ x, s.line.series = some x → 1 ≤ x.attempt ∧ x.attempt ≤ 5 ∧ 0 < x.window
  backoff : ∀ x r since, s.line.series = some x → x.phase = .backoff r since → r < x.window
  held : s.line.rxBytes ≠ [] → s.line.receiver = .assembling
  heldBytes : s.line.rxBytes.length ≤ 43

/-- The laws of the peer table (R53, R54, R59, R60). -/
structure PeersLawful (s : State) : Prop where
  addresses : s.phase ≠ .off → s.peers.records.map PeerRecord.address = recordAddresses s.line.ownAddress
  score : ∀ p ∈ s.peers.records, ∀ c, p.status = .fresh c ∨ p.status = .lost c →
    c.missScore ≤ 15 ∧ c.goodRun ≤ 7 ∧ (6 ≤ c.missScore → c.reliable = false) ∧ (c.missScore = 0 → c.reliable = true)

/-- A leaf's motor is off for LOCKOUT: no unit waits, starts, runs or is about to back off. -/
def UnitRecord.stopped (x : UnitRecord) : Prop :=
  x.status = .rest ∨ ∃ r due e, x.status = .inFlight r ∧ r.stage = .rundown due e ∧ e ≠ .pinched

/-- The laws of the drive slots (R134), of the pairs handed (R123) and of what they rest on, the governing wind and rain (R97, R98,
R100) and the brigade result (R19), and of LOCKOUT (R153): at LOCKOUT no output is energised. -/
structure DriveLawful (s : State) : Prop where
  slots : s.slotsHeld ≤ 3
  members : ∀ u r, (s.units.get u).status = .inFlight r → ∀ m ∈ r.members, s.cfg.leader m = u
  formed : s.phase ≠ .off → s.refresh = s
  weather : s.phase = .running → WeatherFormed s
  brigade : s.phase = .running → s.zones.brigade = s.resolution
  pairs : s.phase = .running → ∀ u, s.cfg.isUnit u = true → (s.units.get u).pair = s.resultOf u
  lockedUnits : s.phase ≠ .off → s.key = .lockout → ∀ u, (s.units.get u).stopped
  lockedProbes : s.phase ≠ .off → s.key = .lockout → ∀ l, (s.feedback.get l).probe.inProgress = false
  lockedOutputs : s.phase ≠ .off → s.key = .lockout → ∀ o, s.pins.outputs.get o = .off

end Sys2Proof.Machine
end

