-- ==== Sys2Proof/Certificates/Slice0/Obligations.lean ====
section
/-! DEFINITION. The statements about the station, chapter by chapter of the specification. A statement about a command says
that it answers a next state, what the rules give in it, and how its event ends: by `Closes` or `Reports`, with the slot filled, or by
`Follows` and `MotionOnly`, which say what is left unchanged. -/

open Sys2Proof Sys2Proof.Machine

/-! ### Steps of the block, and chapter 1: zones -/

/-- A step takes the command at the front of the queue, with the queue's rest; on an empty queue 1 ms of station time passes and
nothing else changes (log entry 1). -/
def Obligations.StepTakesFrontCommand : Prop :=
  (∀ (c : Instr) (rest : List Instr) (s : State), s.pending = c :: rest → step s = exec c { s with pending := rest }) ∧
  ∀ s : State, s.pending = [] → step s = .next { s with now := s.now + 1 }

/-- The state of a zone after the adoption step: its mark is adopted or not, it is the smoke zone or not (R7). -/
def adoptedState (before : ZoneState) (adopted smoke operated : Bool) : ZoneState :=
  if adopted then
    match before, smoke with
    | .latched, true => if operated then .latched else .pending
    | .latched, false => .clear
    | .clear, _ => .clear
    | .pending, true => .pending
    | .pending, false => .clear
  else before

/-- The bytes held with those that come open with the frame `f` (R40); what comes after it is discarded. -/
def bringsFrame (s : State) (rest : List Byte) (f : List Byte) : Prop :=
  ∃ later, s.line.rxBytes ++ rest.map cleanByte = f.map cleanByte ++ later

/-- A backoff is abandoned: its attempt waits for IDLE again (R37). -/
def backoffAbandoned (series : Option Series) : Option Series := series.map fun x => { x with
  phase := match x.phase with
    | .backoff _ _ => .waitingIdle
    | .waitingIdle => .waitingIdle
    | .transmitting n => .transmitting n }

/-- The line when the bytes of a frame have come up to its verdict (R35, R37, R40): what follows is discarded. -/
def frameTaken (s : State) : LineInterface := { s.line with
  busy := true
  lastByte := s.now
  series := if s.line.busy then s.line.series else backoffAbandoned s.line.series
  receiver := .discarding
  rxBytes := [] }

/-- A good frame is counted (R52) and monitored (R46). -/
def countedGood (x : LineInterface) : LineInterface := { x with
  counters := { x.counters with good := if x.counters.good < 65535 then x.counters.good + 1 else x.counters.good }
  errorCounter := if x.goodRun = 63 then x.errorCounter - 1 else x.errorCounter
  goodRun := if x.goodRun = 63 then 0 else x.goodRun + 1
  degraded := x.degraded && !(decide (x.goodRun = 63) && decide (x.errorCounter ≤ 1)) }

/-- The loops at the start of a loop reset: RESETTING, with no candidate and no confirm timer; a DISABLED loop is left (R77). -/
def loopsResetting (v : PerLoop LoopRecord) : PerLoop LoopRecord := PerLoop.ofFn fun l =>
  if (v.get l).state = .disabled then v.get l
  else { v.get l with state := .resetting, candidate := none, confirm := .cleared, hidden := none }

/-- A good report that is not a duplicate takes the zone records through adoption (R6, R7), origin (R8) and latch set (R9). An
adopted mark of the smoke zone starts a loop reset where none runs (R7, R77), and requests a report where the call point stands
OPERATED and the zone was LATCHED (R7). The event closes: weather and brigade override are formed again (R19, R99). A duplicate
changes nothing but the line (R57), and the slot where the content changed. That contents are compared once, at the event's end,
is the model's choice (log entry 10). -/
def Obligations.GoodReportAdoptsAndLatches : Prop :=
  ∀ (s : State) (rest f : List Byte) (r : Report) (p : PeerRecord),
    Running s → ZonesLawful s → s.line.ready → bringsFrame s rest f → goodFrame f = true → r = decodeFrame f →
    r.source ≠ s.line.ownAddress → s.peers.find? r.source = some p →
    (p.status.judge r.sequence = .duplicate → Completes (.goodFrameReceived rest) s fun t =>
      Reports s { s with line := countedGood (frameTaken s) } t false) ∧
    (p.status.judge r.sequence ≠ .duplicate → Completes (.goodFrameReceived rest) s fun t =>
      let cp := decide (s.detection.callPoint.state = .alarm)
      (∀ z : Zone,
        let old := s.zones.records.get z
        let new := t.zones.records.get z
        let smoke := decide (z = s.cfg.smokeZone)
        let adopted := serialGreater (r.marks.get z) old.mark
        let st1 := adoptedState old.state adopted smoke cp
        let orig := r.origin && r.smokeZone = z.number
        let st2 := if orig then ZoneState.latched else st1
        let listed := z.isIn r.latchSet && r.marks.get z = new.mark
        new.mark = (if adopted then r.marks.get z else old.mark) ∧
          new.state = (if listed then .latched else st2) ∧
          new.source =
            (if new.state ≠ .latched then .none
             else if st1 = .latched then old.source else .peer r.source)) ∧
      let stoodDown := serialGreater (r.marks.get s.cfg.smokeZone) (s.zones.records.get s.cfg.smokeZone).mark
      t.detection = (if stoodDown = true ∧ s.detection.loopReset = .none then { s.detection with
        loopReset := .powerOff s.now
        loops := loopsResetting s.detection.loops
        localState := if cp then .alarm else .quiet } else s.detection) ∧
      Closes s { s with
        line := countedGood (frameTaken s)
        peers := t.peers
        zones := { s.zones with records := t.zones.records }
        detection := t.detection } t
        (stoodDown && cp && decide ((s.zones.records.get s.cfg.smokeZone).state = .latched)))

/-- A contact that is released and has read made for 50 ms: a press is due (R79). -/
def pressStands (c : ContactRecord) (now : Nat) : Prop := c.made = false ∧ ∃ since, c.hold = some since ∧ since + 50 ≤ now

/-- A press of the zone-reset key (R82). Without the reset right it is without effect beyond its own record; with it, a zone reset
request is refused with a flash, ignored, or accepted (R11), and an accepted one that finds the smoke zone LATCHED starts a loop
reset where none runs (R77). That contents are compared once, at the event's end, is the model's choice (log entry 10). -/
def Obligations.ZoneResetKeyRefusedIgnoredAccepted : Prop :=
  ∀ s : State, Running s →
    let pressed : Detection := { s.detection with zoneResetKey := ⟨true, none⟩ }
    let operated := s.detection.callPoint.state = .alarm
    let latched (z : Zone) : Prop := (s.zones.records.get z).state = .latched
    (¬ pressStands s.detection.zoneResetKey s.now → exec .zoneResetKeyPress s = .next s.refresh) ∧
    (pressStands s.detection.zoneResetKey s.now →
      ((s.cfg.resetRight = false ∨ (¬ operated ∧ ∀ z, ¬ latched z)) →
        exec .zoneResetKeyPress s = .next ({ s with detection := pressed } : State).refresh) ∧
      (s.cfg.resetRight = true → operated →
        exec .zoneResetKeyPress s =
          .next ({ s with detection := { pressed with flashSince := some s.now } } : State).refresh) ∧
      (s.cfg.resetRight = true → ¬ operated → (∃ z, latched z) → Completes .zoneResetKeyPress s fun t =>
        (∀ z, t.zones.records.get z =
          if (s.zones.records.get z).state = .latched
          then ⟨if z = s.cfg.smokeZone then .pending else .clear,
            newMark (s.zones.records.get z).mark (s.peers.fresh.map fun p => p.2.marks.get z), .none⟩
          else s.zones.records.get z) ∧
        (latched s.cfg.smokeZone → s.detection.loopReset = .none → t.detection = { pressed with
          loopReset := .powerOff s.now
          loops := loopsResetting s.detection.loops
          localState := .quiet }) ∧
        (¬ (latched s.cfg.smokeZone ∧ s.detection.loopReset = .none) → t.detection = pressed) ∧
        Closes s { s with zones := { s.zones with records := t.zones.records }, detection := t.detection } t true))

/-- The new mark of an accepted zone reset request (R12): the running comparison over the FRESH marks, plus 1. -/
def Obligations.NewMarkFollowsRunningComparison : Prop :=
  ∀ (own : Byte) (marks : List Byte),
    let run := marks.foldl (fun acc m => if serialGreater m acc then m else acc) own
    newMark own marks = (if serialGreater (run + 1#8) own then run + 1#8 else own + 1#8) ∧
      serialGreater (newMark own marks) own = true

/-- Between two starts a mark changes only to a serially greater value (R12). -/
def Obligations.MarksOnlyAdvanceBetweenStarts : Prop :=
  ∀ (c : Instr) (s t : State), (∀ i, c ≠ .powerOnStart i) → (∀ i, c ≠ .restartStart i) → exec c s = .next t →
    ∀ z, (t.zones.records.get z).mark = (s.zones.records.get z).mark ∨
      serialGreater (t.zones.records.get z).mark (s.zones.records.get z).mark = true

/-- The brigade switch on a station with the brigade panel: a change to OPEN or CLOSE forms a new own override (R16), a change to
AUTO drops it (R17), and the brigade result is resolved again (R19). That contents are compared once, at the event's end, is the
model's choice (log entry 10). -/
def Obligations.BrigadeSwitchMakesOverride : Prop :=
  ∀ (s : State) (new : BrigadeReading),
    Running s → s.cfg.brigadePanel = true → s.detection.brigade.due s.now = some new →
    Completes .brigadeSwitchChange s fun t =>
      let moved := decide (s.detection.brigade.held.action ≠ new.action)
      let epochs := s.peers.fresh.filterMap fun p => p.2.overridePart.bind fun o =>
        if o.zoneSet &&& s.cfg.brigadeZones ≠ 0#8 then some o.epoch else none
      let own := match s.zones.ownOverride with
        | some o => o.epoch
        | none => s.zones.remembered
      let e := min 65535 (epochs.foldl max own + 1)
      t.detection.brigade = ⟨new, none⟩ ∧
      t.zones.ownOverride =
        (if moved then new.action.map fun a => ⟨a, s.cfg.brigadeZones, e⟩ else s.zones.ownOverride) ∧
      t.zones.remembered = (if moved && new.action.isSome then e else s.zones.remembered) ∧
      t.zones.brigade = t.resolution ∧
      Closes s { s with
        zones := { t.zones with records := s.zones.records }
        detection := { s.detection with brigade := ⟨new, none⟩ } } t
        (moved && (new.action.isSome || s.zones.ownOverride.isSome))

/-- The override that governs has the highest epoch, and among equal epochs the lowest address (R18). -/
def Obligations.HighestEpochThenLowestAddressGoverns : Prop :=
  ∀ s : State,
    (s.overrideCandidates = [] → s.resolution = none) ∧
    (s.overrideCandidates ≠ [] → ∃ p ∈ s.overrideCandidates, s.resolution = some p.2.action ∧
      ∀ q ∈ s.overrideCandidates, q.2.epoch < p.2.epoch ∨ (q.2.epoch = p.2.epoch ∧ p.1 ≤ q.1)) ∧
    ∀ (a : Nat) (o : Override), (a, o) ∈ s.overrideCandidates ↔
      s.cfg.smokeZone.isIn o.zoneSet = true ∧
        ((a = s.line.ownAddress ∧ s.zones.ownOverride = some o) ∨
          ∃ c, (a, c) ∈ s.peers.fresh ∧ c.overridePart = some o)

/-- A station in local ALARM has its smoke zone LATCHED; no other zone is PENDING; a zone has a latch source exactly while it is
LATCHED (R2, R4). Every step keeps these laws. -/
def Obligations.EveryStepKeepsZoneLaws : Prop :=
  ∀ s t : State, ZonesLawful s → step s = .next t → ZonesLawful t

/-! ### Chapter 2: bay reports -/

/-- Own weather is offered (R22, R96): on a reporter without anemometer or vane fault, once the first window and the first vane
sample have been taken. -/
def offersWeather (s : State) : Prop :=
  s.cfg.weatherReporter = true ∧ s.weather.anemoFault = false ∧ s.weather.vaneFault = false ∧
    s.weather.speedWindow ≠ [] ∧ s.weather.sectorWindow ≠ []

/-- The sector of a sector window, oldest entry first (R93): no sector occurs more often, and one that occurs as often has an
older latest sample. -/
def reportsSector (w : List Nat) (d : Nat) : Prop :=
  d ∈ w ∧ ∀ x ∈ w, x ≠ d → w.count x < w.count d ∨ (w.count x = w.count d ∧ w.reverse.idxOf d < w.reverse.idxOf x)

/-- What a report carries is composed from the state as it stands (R20 to R26): its weather part is the own weather, with the
mean of the speed window (R90), the sector of the sector window (R93) and the rain state. -/
def Obligations.ReportCarriesStateAsItStands : Prop :=
  ∀ (s : State) (q : Byte),
    let r := s.composeReport q
    r.source = s.line.ownAddress ∧ r.sequence = q ∧
    (r.condition = .atService ↔ s.detection.key.held = .service) ∧
    (r.flags.fire = true ↔ ∃ z, z.isIn s.cfg.answerSet = true ∧ (s.zones.records.get z).state ≠ .clear) ∧
    r.flags.isolated = s.peers.isolated ∧ r.flags.degraded = s.line.degraded ∧
    (r.flags.battery = true ↔ s.supply.state ≠ .mains) ∧ (r.flags.low = true ↔ s.supply.state = .low) ∧
    (r.flags.lockout = true ↔ s.detection.key.held = .lockout) ∧
    r.smokeZone = s.cfg.smokeZone.number ∧ (r.origin = true ↔ s.detection.localState = .alarm) ∧
    (∀ z, (z.isIn r.latchSet = true ↔ (s.zones.records.get z).state = .latched) ∧
      r.marks.get z = (s.zones.records.get z).mark) ∧
    r.weather = s.ownWeather ∧ (¬ offersWeather s → r.weather = none) ∧
    (offersWeather s → ∃ d, reportsSector s.weather.sectorWindow d ∧
      r.weather = some ⟨s.weather.speedWindow.sum / s.weather.speedWindow.length, d, s.weather.rainState⟩) ∧
    r.comfort = (if s.cfg.bmEnable then some (s.detection.heldStep.getD 0) else none) ∧
    r.overridePart = s.zones.ownOverride ∧
    (∀ l, (∃ e ∈ r.leaves, e.leaf = l) ↔ s.cfg.mapped l = true ∧ (s.feedback.get l).presence = .present) ∧
    (∀ e ∈ r.leaves, e.position = s.unitPosition (s.cfg.leader e.leaf) ∧ e.slot = (s.unitOf e.leaf).pair.slot ∧
      e.atTarget = s.atTarget e.leaf ∧ (e.estimated = true ↔ (s.feedback.get e.leaf).mode = .timed) ∧
      e.lastRunFailed = (s.unitOf e.leaf).lastRunFailed ∧
      e.summary = (match s.motion e.leaf with
        | .unref => .unref
        | .idle => .idle
        | .waiting | .starting | .running | .rundown | .probing => .moving
        | .absent | .outOfService => .out))

/-- A frame composed from a report's values is good, has 18 to 43 bytes, and is taken as the same report (R27, R28, R41). -/
def Obligations.FrameRoundTrip : Prop :=
  ∀ r : Report, r.wf →
    decodeFrame (encodeFrame r) = r ∧ goodFrame (encodeFrame r) = true ∧
      18 ≤ (encodeFrame r).length ∧ (encodeFrame r).length ≤ 43

/-- A field of two bytes, most significant first (R27). -/
def twoBytes (n : Nat) : List Byte := [BitVec.ofNat 8 (n / 256), BitVec.ofNat 8 n]

/-- The bytes of the parts that follow byte 15, in the order of R27's table; a part that is absent takes no bytes. -/
def partBytes (r : Report) : List Byte :=
  let rain : Rain → Byte
    | .dry => 0#8
    | .wet => 1#8
    | .unknown => 2#8
  let action : OverrideAction → Byte
    | .actOpen => 1#8
    | .actClose => 2#8
  let summary : Summary → BitVec 2
    | .unref => 0#2
    | .idle => 1#2
    | .moving => 2#2
    | .out => 3#2
  let slot : Slot → BitVec 3
    | .none => 0#3
    | .comfort => 1#3
    | .service => 2#3
    | .rain => 3#3
    | .storm => 4#3
    | .fire => 5#3
    | .brigade => 6#3
  let state (e : LeafEntry) : Byte :=
    summary e.summary ++ slot e.slot ++ BitVec.ofBool e.atTarget ++ BitVec.ofBool e.estimated ++ BitVec.ofBool e.lastRunFailed
  (match r.weather with
    | some w => twoBytes w.speed ++ [BitVec.ofNat 8 w.sector, rain w.rain]
    | none => []) ++
  (match r.comfort with
    | some c => [BitVec.ofNat 8 c]
    | none => []) ++
  (match r.overridePart with
    | some o => [action o.action, o.zoneSet] ++ twoBytes o.epoch
    | none => []) ++
  (r.leaves.map fun e => [BitVec.ofNat 8 e.leaf.number] ++ twoBytes (e.position.getD 65535) ++ [state e]).flatten

/-- Every byte of a frame by R27's table, and the check word's register after each byte by R28's polynomial. -/
def Obligations.FrameBytesAndCheckWord : Prop :=
  (∀ r : Report, r.wf →
    let f := encodeFrame r
    f[0]? = some 0xC3#8 ∧ f[1]? = some (BitVec.ofNat 8 (f.length - 4)) ∧ f[2]? = some (BitVec.ofNat 8 r.source) ∧
    f[3]? = some r.sequence ∧ f[6]? = some r.latchSet ∧ (∀ z : Zone, f[6 + z.number]? = some (r.marks.get z)) ∧
    f[4]? = some (BitVec.ofBool (decide (r.condition = .atService)) ++ 0#1 ++ BitVec.ofBool r.flags.fire ++
      BitVec.ofBool r.flags.isolated ++ BitVec.ofBool r.flags.degraded ++ BitVec.ofBool r.flags.battery ++
      BitVec.ofBool r.flags.low ++ BitVec.ofBool r.flags.lockout) ∧
    f[5]? = some (BitVec.ofBool r.origin ++ 0#3 ++ BitVec.ofNat 4 r.smokeZone) ∧
    f[15]? = some (BitVec.ofBool r.weather.isSome ++ BitVec.ofBool r.comfort.isSome ++ BitVec.ofBool r.overridePart.isSome ++
      0#2 ++ BitVec.ofNat 3 r.leaves.length) ∧
    (f.drop 16).take (f.length - 18) = partBytes r ∧
    (∃ covered : List Byte, f = 0xC3#8 :: covered ++ [(crc16 covered).extractLsb' 8 8, (crc16 covered).extractLsb' 0 8])) ∧
  crc16 [] = 0xFFFF#16 ∧
  (∀ (bytes : List Byte) (b : Byte), crc16 (bytes ++ [b]) = crcByte (crc16 bytes) b) ∧
  crc16 [0x31#8, 0x32#8, 0x33#8, 0x34#8, 0x35#8, 0x36#8, 0x37#8, 0x38#8, 0x39#8] = 0x29B1#16

/-- At the end of an event a report is made due where the content changed and differs from the last composed content, or one
is requested; it is urgent by the items of R30 or where the one it replaces was (R32). That the contents are compared once, at the
event's end with those at its beginning, so that a change undone inside one event makes no report due, is the model's choice
(log entry 10). -/
def Obligations.ReportMadeDueByDifference : Prop :=
  ∀ (s before : State) (request : Bool), Running s →
    let due := (s.content ≠ before.content ∧ s.composer.lastComposed.map Report.content ≠ some s.content) ∨ request = true
    let urgent := s.composer.lastComposed = none ∨ ∃ r, s.composer.lastComposed = some r ∧
      (r.origin ≠ s.content.origin ∨ r.latchSet ≠ s.content.latchSet ∨ r.marks ≠ s.content.marks ∨
        r.overridePart ≠ s.content.overridePart)
    let t := s.composeDue before request
    (¬ due → t = s) ∧
    (due → (t.line.pendingSlot = some true ∨ t.line.pendingSlot = some false) ∧
      (t.line.pendingSlot = some true ↔ urgent ∨ s.line.pendingSlot = some true) ∧
      t = { s with line := { s.line with pendingSlot := t.line.pendingSlot } })

/-- The report in the slot begins its first attempt (R33) under R32's three conditions; otherwise nothing changes. The holdoff timer
ends when it has run (R32), and at the heartbeat a report that is not urgent is made due (R31). -/
def Obligations.ComposerBeginsReportsAndTimers : Prop :=
  ∀ (s : State), Running s →
    (∀ urgent, s.line.pendingSlot = some urgent → s.composer.holdoffEnds = none → s.line.series = none →
      s.line.join = .running →
      Completes .firstAttemptBegins s fun t =>
        let report := s.composeReport (s.composer.ownSequence + 1#8)
        let window := if urgent then 4 else 8
        t.composer.ownSequence = s.composer.ownSequence + 1#8 ∧ t.composer.lastComposed = some report ∧
        t.line.pendingSlot = none ∧ t.composer.holdoffEnds = some (s.now + 100) ∧
        (∃ jitter, jitter ≤ 200 ∧ t.composer.heartbeatDue = some (s.now + 1900 + jitter)) ∧
        (s.line.busy = true → t.line.series = some ⟨encodeFrame report, 1, window, .waitingIdle⟩) ∧
        (s.line.busy = false → ∃ r, r < window ∧
          t.line.series = some ⟨encodeFrame report, 1, window, .backoff r s.now⟩) ∧
        t = ({ s with
          draws := t.draws
          composer := t.composer
          line := { s.line with pendingSlot := none, series := t.line.series } } : State).refresh) ∧
    (s.line.pendingSlot = none ∨ s.composer.holdoffEnds ≠ none ∨ s.line.series ≠ none ∨ s.line.join ≠ .running →
      exec .firstAttemptBegins s = .next s.refresh) ∧
    ∀ due, due ≤ s.now →
      (s.composer.holdoffEnds = some due →
        exec .holdoffExpiry s = .next ({ s with composer := { s.composer with holdoffEnds := none } } : State).refresh) ∧
      (s.composer.heartbeatDue = some due →
        exec .heartbeatExpiry s = .next ({ s with
          composer := { s.composer with heartbeatDue := none }
          line := { s.line with pendingSlot := some (decide (s.line.pendingSlot = some true)) } } : State).refresh)
/-! ### Chapter 3: line access and joining -/

/-- The line's activity and an attempt's waiting (R35 to R37, R40). A start bit makes the line BUSY, abandons a backoff and opens
a frame where the receiver hunts on an IDLE line; its byte, where given, joins that frame or the one being assembled until its
verdict, and is else discarded. A backoff of r slots of 500 us that has run out sends; that it has run out floor(r / 2) ms after
it began is the model's choice (log entry 4). 3 ms after the last byte the line is IDLE, and a waiting attempt draws. That
LINE_BUSY may give its byte, which else comes with the verdict's row, is the model's choice (log entry 12). -/
def Obligations.BackoffAbandonedRedrawnAndSent : Prop :=
  ∀ s : State, Running s → LineLawful s →
    let y := s.line
    (∀ rx : Option RxByte,
      let opens := y.busy = false ∧ y.receiver = .hunting ∧ y.transmitting = false
      let joins := y.receiver = .assembling ∧ y.transmitting = false ∧ judgeBytes y.rxBytes = none
      exec (.lineBusy rx) s = .next ({ s with line := { y with
        busy := true
        lastByte := s.now
        series := backoffAbandoned y.series
        receiver := if opens then .assembling else y.receiver
        rxBytes := if opens then rx.toList else if joins then y.rxBytes ++ rx.toList else y.rxBytes } } : State).refresh) ∧
    (∀ x r since, y.series = some x → x.phase = .backoff r since →
      (y.busy = false → since + r / 2 ≤ s.now →
        exec .backoffExpiry s = .next ({ s with line := { y with
          busy := true
          lastByte := s.now
          series := some { x with phase := .transmitting 0 }
          receiver := .discarding
          rxBytes := [] } } : State).refresh) ∧
      (y.busy = true ∨ s.now < since + r / 2 → exec .backoffExpiry s = .next s.refresh)) ∧
    (y.busy = false ∨ y.transmitting = true ∨ s.now < y.lastByte + 3 → exec .lineIdle s = .next s.refresh) ∧
    (y.busy = true → y.transmitting = false → y.lastByte + 3 ≤ s.now →
      (y.receiver ≠ .assembling ∨ ∃ f, goodFrame f = true ∧ bringsFrame s [] f) →
      let idle : LineInterface := { y with busy := false, receiver := .hunting, rxBytes := [] }
      (∀ x, y.series = some x → x.phase = .waitingIdle → Completes .lineIdle s fun t => ∃ r, r < x.window ∧
        t = ({ s with
          draws := t.draws
          line := { idle with series := some { x with phase := .backoff r s.now } } } : State).refresh) ∧
      ((∀ x, y.series = some x → x.phase ≠ .waitingIdle) →
        exec .lineIdle s = .next ({ s with line := idle } : State).refresh))

/-- A frame judged bad is counted (R52) and monitored (R46). -/
def countedBad (x : LineInterface) : LineInterface := { x with
  counters := { x.counters with bad := if x.counters.bad < 65535 then x.counters.bad + 1 else x.counters.bad }
  errorCounter := min 16 (x.errorCounter + 1)
  goodRun := 0
  degraded := x.degraded || decide (15 ≤ x.errorCounter) }

/-- A bad frame is the fourth of the fourth proving period, so the station joins (R49). -/
def joinsFailed (x : LineInterface) : Bool :=
  x.join = .listen && match x.proving with
    | some p => 3 ≤ p.badFrames && 3 ≤ p.failedPeriods
    | none => false

/-- A bad frame as the proving period takes it (R49): outside LISTEN, not at all. -/
def provedBad (x : LineInterface) (now : Nat) : LineInterface :=
  match x.join, x.proving with
  | .listen, some p =>
    if p.badFrames < 3 then { x with proving := some { p with badFrames := p.badFrames + 1 } }
    else if p.failedPeriods < 3 then { x with proving := some ⟨now + 6000, 0, p.failedPeriods + 1⟩ }
    else { x with join := .running, proving := none, errorCounter := 16, degraded := true }
  | _, _ => x

/-- The settled time begins where it has not begun (R66). -/
def settledBy (s : State) (now : Bool) : PeerTable :=
  if now then { s.peers with settledFrom := some (s.peers.settledFrom.getD s.now) } else s.peers

/-- A frame cut short at a gap is judged bad when the line becomes IDLE (R40, R41, R46), in LISTEN too (R49); an attempt that
waits draws its backoff (R36). A frame whose bytes are whole and good is not cut short (log entry 12). That contents are compared
once, at the event's end, is the model's choice (log entry 10). -/
def Obligations.FrameCutShortJudgedBadAtIdle : Prop :=
  ∀ s : State, Running s → LineLawful s → s.line.busy = true → s.line.transmitting = false → s.line.lastByte + 3 ≤ s.now →
    s.line.receiver = .assembling → (∀ f, goodFrame f = true → ¬ bringsFrame s [] f) →
    Completes .lineIdle s fun t => ∃ series,
      (∀ x, s.line.series = some x → x.phase = .waitingIdle →
        ∃ r, r < x.window ∧ series = some { x with phase := .backoff r s.now }) ∧
      ((∀ x, s.line.series = some x → x.phase ≠ .waitingIdle) → series = s.line.series ∧ t.draws = s.draws) ∧
      Reports s { s with
        draws := t.draws
        line := { provedBad (countedBad { s.line with busy := false, receiver := .hunting, rxBytes := [] }) s.now with
          series := series }
        peers := settledBy s (joinsFailed s.line) } t (joinsFailed s.line)

/-- A byte read back while transmitting: the next is sent, the frame has been sent (R38), or it is a collision (R39). -/
def Obligations.ReadbackSendsOrCollides : Prop :=
  ∀ (s : State) (x : Series) (n : Nat) (rx : RxByte), Running s → LineLawful s → s.line.series = some x →
    x.phase = .transmitting n →
    let differs := rx.framingError = true ∨ x.frame[n]? ≠ some rx.data
    let c := s.line.counters
    let col := min 65535 (c.collisions + 1)
    exec (.byteReadback rx) s = .next ({ s with line :=
      if differs then
        if x.attempt < 5 then { s.line with
          lastByte := s.now
          counters := { c with collisions := col }
          series := some ⟨x.frame, x.attempt + 1, if x.attempt = 1 then 16 else if x.attempt = 2 then 32 else 64,
            .waitingIdle⟩ }
        else { s.line with
          lastByte := s.now
          counters := { c with collisions := col, transmitFailures := min 65535 (c.transmitFailures + 1) }
          series := none }
      else if n + 1 < x.frame.length then { s.line with
        lastByte := s.now
        series := some { x with phase := .transmitting (n + 1) } }
      else { s.line with
        lastByte := s.now
        counters := { c with sent := min 65535 (c.sent + 1) }
        series := none } } : State).refresh

/-- A collision (R39) on attempts 1 to 4 begins the next attempt with the same frame and its own window; on attempt 5 the
report is abandoned. The driver is disabled, and neither sequence number nor last content changes. -/
def Obligations.CollisionBeginsNextAttemptOrAbandons : Prop :=
  ∀ (s : State) (x : Series) (n : Nat) (rx : RxByte), Running s → LineLawful s → s.line.series = some x →
    x.phase = .transmitting n → (rx.framingError = true ∨ x.frame[n]? ≠ some rx.data) →
    Completes (.byteReadback rx) s fun t =>
      t.pins.lineDriver = false ∧ t.line.counters.collisions = min 65535 (s.line.counters.collisions + 1) ∧
      t.composer = s.composer ∧
      (x.attempt ≤ 4 → t.line.counters.transmitFailures = s.line.counters.transmitFailures ∧
        ∃ y, t.line.series = some y ∧ y.frame = x.frame ∧ y.attempt = x.attempt + 1 ∧ y.phase = .waitingIdle ∧
          y.window = (match x.attempt with | 1 => 16 | 2 => 32 | _ => 64)) ∧
      (x.attempt = 5 → t.line.series = none ∧
        t.line.counters.transmitFailures = min 65535 (s.line.counters.transmitFailures + 1))

/-- The bytes held with those that come open with a frame judged bad at its last byte (R40, R41): a finding stands there, and no
shorter run of them has a finding or completes the frame. -/
def bringsBadFrame (s : State) (rest : List RxByte) : Prop :=
  ∃ f later, s.line.rxBytes ++ rest = f ++ later ∧ (badFinding f).isSome = true ∧
    ∀ k, k < f.length → badFinding (f.take k) = none ∧ frameComplete ((f.take k).map RxByte.data) = false

/-- A frame judged bad as its bytes arrive (R40, R41): counter and monitor (R46, R52), and the proving period in LISTEN, whose
fourth failure joins the station (R49). A complete good frame is not bad for a byte that comes after it. The proving timer's
expiry joins the station too, with an immediate report requested (R50). The settled time begins at a join (R66). That contents are
compared once, at the event's end, is the model's choice (log entry 10). -/
def Obligations.BadFrameCountedAndProvingJudged : Prop :=
  (∀ (s : State) (rest : List RxByte), Running s → LineLawful s → s.line.ready →
    (bringsBadFrame s rest → Completes (.badFrame rest) s fun t =>
      Reports s { s with
        line := provedBad (countedBad (frameTaken s)) s.now
        peers := settledBy s (joinsFailed s.line) } t (joinsFailed s.line)) ∧
    (∀ f later, goodFrame f = true → s.line.rxBytes ++ rest = f.map cleanByte ++ later →
      exec (.badFrame rest) s = .next s.refresh)) ∧
  ∀ (s : State) (p : Proving), Running s → s.line.join = .listen → s.line.proving = some p →
    (p.due ≤ s.now → Completes .provingTimerExpiry s fun t =>
      Reports s { s with
        line := { s.line with join := .running, proving := none }
        peers := settledBy s true } t true) ∧
    (s.now < p.due → exec .provingTimerExpiry s = .next s.refresh)

/-- A good frame with the own address as source is an address conflict: MUTE, the series and proving dropped (R44), and the
settled time begins (R66); it is counted and monitored as good (R42, R46) and reaches no record. A station already in MUTE keeps
its reason. That contents are compared once, at the event's end, is the model's choice (log entry 10). -/
def Obligations.OwnAddressFrameMutes : Prop :=
  ∀ (s : State) (rest f : List Byte), Running s → LineLawful s → s.line.ready → bringsFrame s rest f → goodFrame f = true →
    (decodeFrame f).source = s.line.ownAddress →
    Completes (.goodFrameReceived rest) s fun t =>
      (∀ m, s.line.join = .mute m → Reports s { s with line := countedGood (frameTaken s) } t false) ∧
      ((∀ m, s.line.join ≠ .mute m) → Reports s { s with
        line := { countedGood (frameTaken s) with join := .mute .addressConflict, proving := none, series := none }
        peers := settledBy s true } t false)

/-- The counters, the monitor, the proving counts, the attempt series and the bytes held keep their ranges in every step. -/
def Obligations.EveryStepKeepsLineLaws : Prop :=
  ∀ s t : State, LineLawful s → step s = .next t → LineLawful t

/-! ### Chapter 4: the peer table -/

/-- A good report of another station with a record is judged by status and sequence (R57); an admitted gap is applied to miss
score and good-run count (R59) and class; a duplicate changes nothing but the line, where its frame is counted and monitored as good. -/
def Obligations.ReportJudgedBySequence : Prop :=
  ∀ (s : State) (rest f : List Byte) (p : PeerRecord),
    Running s → PeersLawful s → s.line.ready → bringsFrame s rest f → goodFrame f = true →
    (decodeFrame f).source ≠ s.line.ownAddress → s.peers.find? (decodeFrame f).source = some p →
    Completes (.goodFrameReceived rest) s fun t =>
      let d (c : PeerContent) : Nat := ((decodeFrame f).sequence - c.lastSequence).toNat
      let holds (score run : Nat) (reliable : Bool) : Prop := ∃ c p', t.peers.find? p.address = some p' ∧
        p'.status = .fresh c ∧ c.missScore = score ∧ c.goodRun = run ∧ c.reliable = reliable ∧
        c.lastSequence = (decodeFrame f).sequence ∧ c.lastHeard = s.now ∧ c.missScore ≤ 15 ∧ c.goodRun ≤ 7
      (p.status = .absent → holds 0 0 true) ∧
      (∀ c, p.status = .lost c → holds 0 0 true) ∧
      (∀ c, p.status = .fresh c →
        (d c = 0 → t = ({ s with line := { countedGood (frameTaken s) with pendingSlot := t.line.pendingSlot } } : State).refresh) ∧
        (128 ≤ d c → holds 0 0 true) ∧
        (1 ≤ d c → d c ≤ 127 →
          let g := min (d c - 1) 8
          let class_ (score : Nat) : Bool := if 6 ≤ score then false else if score = 0 then true else c.reliable
          if 0 < g then holds (min 15 (c.missScore + g)) 0 (class_ (min 15 (c.missScore + g)))
          else if c.goodRun = 7 then holds (c.missScore - 1) 0 (class_ (c.missScore - 1))
          else holds c.missScore (c.goodRun + 1) c.reliable)) ∧
      t.line.counters.good = fieldSucc s.line.counters.good ∧
      (ZonesLawful s → t.line.unslotted = (countedGood (frameTaken s)).unslotted)

/-- What an initialised or admitted report stores: every part as reported, the weather under its deadband (R58, R61 to R64);
other records are untouched, ISOLATED clears (R66), and the brigade override is resolved again (R19). -/
def Obligations.ReportPartsStored : Prop :=
  ∀ (s : State) (rest f : List Byte) (r : Report) (p : PeerRecord),
    Running s → PeersLawful s → s.line.ready → bringsFrame s rest f → goodFrame f = true → r = decodeFrame f →
    r.source ≠ s.line.ownAddress → s.peers.find? r.source = some p → p.status.judge r.sequence ≠ .duplicate →
    Completes (.goodFrameReceived rest) s fun t =>
      let stored (w : WeatherPart) : PeerWeather := ⟨w.speed, w.sector, w.rain, s.now⟩
      let held : Option PeerWeather := match p.status with
        | .fresh c => if p.status.judge r.sequence = .initialise then none else c.weather
        | .absent => none
        | .lost _ => none
      (∃ c p', t.peers.find? p.address = some p' ∧ p'.status = .fresh c ∧
        c.condition = r.condition ∧ c.flags = r.flags ∧ c.smokeZone = r.smokeZone ∧ c.origin = r.origin ∧
        c.latchSet = r.latchSet ∧ c.marks = r.marks ∧ c.comfort = r.comfort ∧ c.overridePart = r.overridePart ∧
        c.leaves = r.leaves ∧
        (r.weather = none → c.weather = none) ∧
        (∀ w, r.weather = some w → held = none → c.weather = some (stored w)) ∧
        (∀ w o, r.weather = some w → held = some o →
          c.weather = some (if o.speed + 5 ≤ w.speed ∨ w.speed + 5 ≤ o.speed ∨ w.sector ≠ o.sector ∨
            o.updated + 30000 ≤ s.now then stored w else { o with rain := w.rain }))) ∧
      (∀ a, a ≠ p.address → t.peers.find? a = s.peers.find? a) ∧ t.peers.isolated = false ∧
      t.zones.brigade = t.resolution ∧
      (ZonesLawful s → t.peers.settledFrom = s.peers.settledFrom)

/-- Silence makes a FRESH record LOST with all it held, whatever zones are latched (R65); the settled time and the silence form
ISOLATED (R66). That contents are compared once, at the event's end, is the model's choice (log entry 10). -/
def Obligations.SilenceMakesLostAndIsolated : Prop :=
  ∀ (s : State) (a : Nat) (p : PeerRecord) (c : PeerContent), Running s → PeersLawful s →
    (s.peers.find? a = some p → p.status = .fresh c → c.lastHeard + 7000 ≤ s.now →
      Completes (.peerSilenceExpiry a) s fun t =>
        t.peers.find? a = some { p with status := .lost c } ∧
        (∀ b, b ≠ a → t.peers.find? b = s.peers.find? b) ∧
        (t.peers.isolated = true ↔ (∃ settled, s.peers.settledFrom = some settled ∧ settled + 7000 ≤ s.now) ∧
          ∀ b q c', t.peers.find? b = some q → q.status ≠ .fresh c') ∧
        t.zones.brigade = t.resolution ∧
        Closes s { s with peers := { s.peers with records := t.peers.records, isolated := t.peers.isolated } } t false) ∧
    (∀ settled, s.peers.settledFrom = some settled → settled + 7000 ≤ s.now →
      Completes .settledTimeReached s fun t =>
        (t.peers.isolated = true ↔ ∀ b q c', s.peers.find? b = some q → q.status ≠ .fresh c') ∧
        Reports s { s with peers := { s.peers with isolated := t.peers.isolated } } t false)

/-- The records are those of the 31 other addresses, and every score, run and class lies in its range. -/
def Obligations.EveryStepKeepsPeerLaws : Prop :=
  ∀ s t : State, PeersLawful s → step s = .next t → PeersLawful t

/-! ### Chapter 5: field inputs and local detection -/

/-- The band of a current in 0.1 mA (R70, R73). -/
def bandFor (current : Nat) : Band :=
  if current < 30 then .opened else if current < 120 then .normal else if current < 401 then .alarm else .shorted

/-- The candidate after a sample, from the class held, the candidate before and the class measured (R71). -/
def candidateFor (held : Option Band) (before : Option Candidate) (measured : Band) (now : Nat) : Option Candidate :=
  if held = some measured then none
  else if before.map Candidate.band = some measured then before else some ⟨measured, now⟩

/-- Samples of the loops and of the call point: bands (R70, R73) and candidates (R71, R78). -/
def Obligations.SamplesMoveCandidates : Prop :=
  ∀ (s : State) (d1 d2 cp : Nat), s.phase ≠ .off →
    (Completes (.loopSample d1 d2) s fun t =>
      (∀ l, let r := s.detection.loops.get l
        let current := match l with | .d1 => d1 | .d2 => d2
        let held := match r.hidden with
          | some b => some b
          | none => match r.state with
            | .normal => some Band.normal
            | .alarm => some .alarm
            | .opened => some .opened
            | .shorted => some .shorted
            | .disabled => none
            | .resetting => none
        let powered := decide (r.state ≠ .disabled) && match s.detection.loopReset with
          | .powerOff _ => false
          | .settle _ => true
          | .none => true
        t.detection.loops.get l = if powered then
          { r with current := current, candidate := candidateFor held r.candidate (bandFor current) s.now } else r) ∧
      t = ({ s with detection := { s.detection with loops := t.detection.loops } } : State).refresh) ∧
    exec (.callPointSample cp) s = .next ({ s with detection := { s.detection with callPoint :=
      ⟨s.detection.callPoint.state,
        candidateFor (some s.detection.callPoint.state) s.detection.callPoint.candidate (bandFor cp) s.now, cp⟩ } }
          : State).refresh

/-- The conditions for ALARM (R74). -/
def alarmStands (d : Detection) : Prop :=
  let inAlarm (l : Loop) : Prop := (d.loops.get l).state = .alarm
  let unable (l : Loop) : Prop := (d.loops.get l).state ∈ [LoopState.opened, .shorted, .disabled]
  d.callPoint.state = .alarm ∨ (inAlarm .d1 ∧ inAlarm .d2) ∨ (inAlarm .d1 ∧ unable .d2) ∨ (inAlarm .d2 ∧ unable .d1) ∨
    ∃ l, inAlarm l ∧ (d.loops.get l).confirm = .expired

/-- Local detection enters ALARM. -/
def entersAlarm (s t : State) : Bool := s.detection.localState ≠ .alarm && t.detection.localState = .alarm

/-- Local detection stands as R74 gives, and the line as R51 and R66 give: an entry to ALARM ends LISTEN, begins the settled time,
and makes an urgent report due; else the line but for the slot and the settled time are as they were, and the event closes. -/
def localDetectionFormed (s t : State) : Prop :=
  (t.detection.localState = .alarm ↔ alarmStands t.detection) ∧
  (t.detection.localState = .preAlarm ↔ ¬ alarmStands t.detection ∧ ∃ l, (t.detection.loops.get l).state = .alarm) ∧
  let ends := entersAlarm s t && decide (s.line.join = .listen)
  (ends = true → t.line.pendingSlot = some true) ∧
  Closes s { s with
    line := if ends then { s.line with join := .running, proving := none, pendingSlot := some true } else s.line
    peers := settledBy s ends
    zones := { s.zones with records := t.zones.records }
    detection := { s.detection with
      loops := t.detection.loops, callPoint := t.detection.callPoint, loopReset := t.detection.loopReset
      localState := t.detection.localState } } t false

/-- The zone records after local detection is formed: an entry to ALARM latches the smoke zone (R4, R76). -/
def latchedByAlarm (s t : State) : Prop :=
  ∀ z, t.zones.records.get z = if entersAlarm s t ∧ z = s.cfg.smokeZone
    then ⟨.latched, (s.zones.records.get z).mark, .own⟩ else s.zones.records.get z

/-- A candidate that has stood for the debounce period is taken (R71, R73), a confirm timer that has run for the confirm time
stays expired (R75), and local detection is formed (R74 to R76). During SETTLE the class is taken by the hidden class, and nothing
else changes (R78). That contents are compared once, at the event's end, is the model's choice (log entry 10). -/
def Obligations.DebouncedClassIsTaken : Prop :=
  ∀ (s : State) (c : Candidate), Running s → ZonesLawful s →
    (∀ l since, (s.detection.loops.get l).confirm = .running since → since + s.cfg.confirmTime * 1000 ≤ s.now →
      Completes (.confirmTimerExpiry l) s fun t =>
        (∀ k, t.detection.loops.get k = if k = l then { s.detection.loops.get l with confirm := .expired }
          else s.detection.loops.get k) ∧
        t.detection.callPoint = s.detection.callPoint ∧ t.detection.loopReset = s.detection.loopReset ∧
        latchedByAlarm s t ∧ localDetectionFormed s t) ∧
    (c.since + s.cfg.debounce * 1000 ≤ s.now → ∀ l, s.detection.loopReset = .none → (s.detection.loops.get l).state ≠ .disabled →
      (s.detection.loops.get l).hidden = none → (s.detection.loops.get l).candidate = some c →
      Completes (.debounceExpiry (.loop l)) s fun t =>
        (∀ k, t.detection.loops.get k = if k = l
          then { s.detection.loops.get l with
            state := c.band.loopState
            candidate := none
            confirm := if c.band = .alarm then .running s.now else .cleared }
          else s.detection.loops.get k) ∧
        t.detection.callPoint = s.detection.callPoint ∧ t.detection.loopReset = s.detection.loopReset ∧
        latchedByAlarm s t ∧ localDetectionFormed s t) ∧
    (c.since + s.cfg.debounce * 1000 ≤ s.now → s.detection.callPoint.candidate = some c →
      Completes (.debounceExpiry .callPoint) s fun t =>
        t.detection.callPoint = ⟨c.band, none, s.detection.callPoint.current⟩ ∧ t.detection.loops = s.detection.loops ∧
        t.detection.loopReset = s.detection.loopReset ∧ latchedByAlarm s t ∧ localDetectionFormed s t) ∧
    (c.since + s.cfg.debounce * 1000 ≤ s.now → ∀ l since b, s.detection.loopReset = .settle since →
      (s.detection.loops.get l).state ≠ .disabled → (s.detection.loops.get l).hidden = some b →
      (s.detection.loops.get l).candidate = some c →
      Completes (.debounceExpiry (.loop l)) s fun t => Closes s { s with detection := { s.detection with
        loops := s.detection.loops.set l { s.detection.loops.get l with hidden := some c.band, candidate := none } } } t false)

/-- The loop reset's power-off ends with the hidden classes at NORMAL (R77, R78), and the settle end takes them, forms local
detection and delivers the verdict (R78, R10). A settle end that brings local detection to ALARM latches the smoke zone as own
whatever its record was (R4), and ends LISTEN (R51). That contents are compared once, at the event's end, is the model's choice
(log entry 10). -/
def Obligations.LoopResetRunsToSettleEnd : Prop :=
  ∀ (s : State) (since : Nat), Running s → ZonesLawful s →
    (s.detection.loopReset = .powerOff since → since + 5000 ≤ s.now →
      exec .powerOffExpiry s = .next ({ s with detection := { s.detection with
        loopReset := .settle s.now
        loops := PerLoop.ofFn fun l =>
          let r := s.detection.loops.get l
          if r.state = .disabled then r else { r with candidate := none, hidden := some .normal } } } : State).refresh) ∧
    (s.detection.loopReset = .settle since → since + 10000 ≤ s.now →
      Completes .settleEnd s fun t =>
        let verdict := t.detection.localState = .alarm
        t.detection.loopReset = .none ∧ t.detection.callPoint = s.detection.callPoint ∧
        (∀ l, t.detection.loops.get l = match (s.detection.loops.get l).hidden with
          | some b => { s.detection.loops.get l with
              state := b.loopState, hidden := none, confirm := if b = .alarm then .running s.now else .cleared }
          | none => s.detection.loops.get l) ∧
        (∀ z, t.zones.records.get z =
          let old := s.zones.records.get z
          if z = s.cfg.smokeZone then
            if entersAlarm s t then ⟨.latched, old.mark, .own⟩
            else if old.state = .pending then
              (if verdict then ⟨.latched, old.mark, .own⟩ else ⟨.clear, old.mark, .none⟩)
            else old
          else old) ∧
        localDetectionFormed s t)

/-- A two-contact switch after a reading (R79): a new reading begins its hold, one that stands keeps its moment, and a reading that
returns ends it. -/
def switchAfter {α : Type} [DecidableEq α] (r : SwitchRecord α) (x : α) (now : Nat) : SwitchRecord α :=
  ⟨r.held, if x = r.held then none else if r.hold.map Prod.fst = some x then r.hold else some (x, now)⟩

/-- A single contact after a reading (R79): the first reading after a start is its state; later an opposite reading begins its hold
and keeps its moment, a reading that returns ends it, and a release that has stood for 50 ms is taken. -/
def contactAfter (first : Bool) (r : ContactRecord) (x : Bool) (now : Nat) : ContactRecord :=
  if first then ⟨x, none⟩
  else if x = r.made then ⟨r.made, none⟩
  else match r.hold with
    | none => ⟨r.made, some now⟩
    | some since => if x = false ∧ since + 50 ≤ now then ⟨false, none⟩ else ⟨r.made, some since⟩

/-- A reading of the switch contacts (R79), on every started station: the records of the key switch, the brigade switch, the two
service buttons and the zone-reset key, and nothing else. That a release, which has no row of its own, is taken by the reading that
finds it to have stood is the model's choice (log entry 3). -/
def Obligations.SwitchReadingsAreHeld : Prop :=
  ∀ (s : State) (c : SwitchContacts), s.phase ≠ .off →
    let d := s.detection
    let first := !d.firstReading
    let key := match c.keyService, c.keyLockout with
      | false, false => KeyReading.auto
      | true, false => .service
      | false, true => .lockout
      | true, true => .faultCode
    let brigade := match c.brigadeOpen, c.brigadeClose with
      | false, false => BrigadeReading.auto
      | true, false => .openPos
      | false, true => .closePos
      | true, true => .faultCode
    exec (.switchSample c) s = .next ({ s with detection := { d with
      key := switchAfter d.key key s.now
      brigade := switchAfter d.brigade brigade s.now
      openButton := contactAfter first d.openButton c.openButton s.now
      closeButton := contactAfter first d.closeButton c.closeButton s.now
      zoneResetKey := contactAfter first d.zoneResetKey c.zoneResetKey s.now
      firstReading := true } } : State).refresh

/-- The leaves of a run in flight belong to the unit whose run it is (R128): a part of the drive laws, and all of them that is asked
inside an event, where a result may differ from the pair held. -/
def membersBelong (s : State) : Prop :=
  ∀ u r, (s.units.get u).status = .inFlight r → ∀ m ∈ r.members, s.cfg.leader m = u

/-- A unit stopped by LOCKOUT or LOW in the event from `s` to `t` (R130, R148, R153, R154): from the queue and from STARTING it comes to
rest at once and hands its rest position (R119); from RUNNING and PROBING it passes to RUNDOWN; in RUNDOWN a pinch's back-off does not
begin. -/
def haltedIn (s t : State) (u : Leaf) : Prop :=
  let new := (t.units.get u).status
  let rests := new = .rest ∧ (membersBelong s → (t.tables.get u).restPosition = t.unitPosition u)
  (∀ e, (s.units.get u).status = .waiting e → rests) ∧
  ∀ r, (s.units.get u).status = .inFlight r →
    (∀ due, r.stage = .starting due → rests) ∧
    (r.stage = .running → new = .inFlight { r with stage := .rundown (s.now + 150) .halted, timeoutDue := none }) ∧
    (∀ due e, r.stage = .rundown due e →
      new = .inFlight { r with stage := .rundown due (if e = .pinched then .halted else e) })

/-- The key switch (R80): the position is taken; entry to LOCKOUT switches every output off, empties the queue and stops every unit
(R153); leaving SERVICE clears the service direction and every set service target (R81, R114). That a back-off already in its last
RUNDOWN still ends with PINCH is the model's choice (log entry 43), as is that contents are compared once, at the event's end (log
entry 10). -/
def Obligations.KeyPositionTaken : Prop :=
  ∀ (s : State) (new : KeyReading) (since : Nat), Running s → s.detection.key.hold = some (new, since) →
    since + 50 ≤ s.now → new ≠ s.detection.key.held →
    Completes .keySwitchChange s fun t =>
      let leaves := s.detection.key.held = .service
      t.detection = { s.detection with
        key := ⟨new, none⟩
        direction := if leaves then .none else s.detection.direction } ∧
      (∀ u, (t.tables.get u).serviceTarget = if leaves then none else (s.tables.get u).serviceTarget) ∧
      (new = .lockout → (∀ o, t.pins.outputs.get o = .off) ∧ t.arbiter.queue = [] ∧ ∀ u, haltedIn s t u) ∧
      Closes s { s with detection := t.detection, tables := t.tables } t false

/-- A service button with the key at SERVICE (R81): targets set, or a stop at the present positions. That contents are compared
once, at the event's end, is the model's choice (log entry 10). -/
def Obligations.ServiceButtonSetsTargets : Prop :=
  ∀ (s : State) (b : ServiceButton), Running s → (s.detection.button b).pressDue s.now = true →
    s.detection.key.held = .service →
    Completes (.serviceButtonPress b) s fun t =>
      let pressed : ServiceDirection := match b with | .openButton => .opening | .closeButton => .closing
      let stop := s.detection.direction = pressed
      t.detection = { s.detection.setButton b ⟨true, none⟩ with direction := if stop then .none else pressed } ∧
      (∀ u, (t.tables.get u).serviceTarget =
        if s.cfg.isUnit u then
          (if stop then s.unitPosition u else some (match b with | .openButton => 1000 | .closeButton => 0))
        else (s.tables.get u).serviceTarget) ∧
      Closes s { s with detection := t.detection, tables := t.tables } t false

/-- The BM input's step (R84) and the end of a refusal flash (R86). That contents are compared once, at the event's end, is the
model's choice (log entry 10). -/
def Obligations.HeldStepAndFlashEnd : Prop :=
  ∀ (s : State), Running s →
    (∀ v : Int, s.cfg.bmEnable = true → Completes (.bmSample v) s fun t =>
      (∃ step, t.detection = { s.detection with heldStep := some step } ∧ step % 5 = 0 ∧
        ∀ p, (v ≤ 0 → p = 0) → (0 ≤ v → p = min v.toNat 1000 / 10) → step = 5 * ((p + 2) / 5)) ∧
      Closes s { s with detection := t.detection } t false) ∧
    (∀ since, s.detection.flashSince = some since → since + 3000 ≤ s.now →
      exec .resetFlashEnd s = .next ({ s with detection := { s.detection with flashSince := none } } : State).refresh)

/-! ### Chapter 6: wind, rain and leaf sides -/

/-- A list with a newest entry, at most `n` long, its oldest removed (R90, R93). -/
def newestKept (n : Nat) (w : List Nat) (x : Nat) : List Nat := (w ++ [x]).drop ((w ++ [x]).length - n)

/-- The sector of a vane sample (R92): none where a line reads OPEN, its supervision current below 2.0 mA, and else the sector of the
code G3 G2 G1 G0, with HIGH as 1, by the rule's table. -/
def sectorFor (v : VaneSample) : Option Nat :=
  if v.g3.supervision < 20 ∨ v.g2.supervision < 20 ∨ v.g1.supervision < 20 ∨ v.g0.supervision < 20 then none
  else match v.g3.high, v.g2.high, v.g1.high, v.g0.high with
    | false, false, false, false => some 0
    | false, false, false, true => some 1
    | false, false, true, true => some 2
    | false, false, true, false => some 3
    | false, true, true, false => some 4
    | false, true, true, true => some 5
    | false, true, false, true => some 6
    | false, true, false, false => some 7
    | true, true, false, false => some 8
    | true, true, false, true => some 9
    | true, true, true, true => some 10
    | true, true, true, false => some 11
    | true, false, true, false => some 12
    | true, false, true, true => some 13
    | true, false, false, true => some 14
    | true, false, false, false => some 15

/-- The measurement second on a reporter: pulses and circuit tests, and its end with instant speed, windows and faults (R89 to
R94); from these the weather results are formed again (R99). That contents are compared once, at the event's end, is the model's
choice (log entry 10). -/
def Obligations.MeasurementSecondTaken : Prop :=
  ∀ (s : State) (v : VaneSample) (current : Nat), Running s → s.cfg.weatherReporter = true →
    exec .anemometerPulse s = .next ({ s with weather := { s.weather with
      windowCount := if s.weather.windowCount < 65535 then s.weather.windowCount + 1 else s.weather.windowCount } }
        : State).refresh ∧
    exec (.anemometerCircuitTest current) s = .next ({ s with weather := { s.weather with
      windowOpen := s.weather.windowOpen || decide (current < 20) } } : State).refresh ∧
    (s.weather.windowStart + 1000 ≤ s.now →
      Completes (.anemometerWindowEnd v) s fun t =>
        let instant := min 600 (s.weather.windowCount * s.cfg.anemoK / 10)
        Closes s { s with weather := { s.weather with
          windowStart := s.weather.windowStart + 1000
          windowCount := 0
          windowOpen := false
          anemoFault := s.weather.windowOpen
          speedWindow := if s.weather.windowOpen then [] else newestKept 3 s.weather.speedWindow instant
          vaneFault := (sectorFor v).isNone
          sectorWindow := match sectorFor v with
            | some d => newestKept 8 s.weather.sectorWindow d
            | none => [] } } t false)

/-- A rain reading and the dry-off timer's expiry (R95); from these the weather results are formed again (R99). That contents are
compared once, at the event's end, is the model's choice (log entry 10). -/
def Obligations.RainReadAndDriedOff : Prop :=
  ∀ (s : State) (r : RainReading), Running s →
    (s.cfg.weatherReporter = true →
      Completes (.rainReading r) s fun t =>
        Closes s { s with weather := match r with
          | .wet => { s.weather with rainState := .wet, dryOffSince := none, rainFault := false }
          | .circuitOpen => { s.weather with rainState := .unknown, dryOffSince := none, rainFault := true }
          | .dry => { s.weather with
              rainFault := false
              dryOffSince := if s.weather.rainState = .dry then s.weather.dryOffSince
                else some (s.weather.dryOffSince.getD s.now) } } t false) ∧
    (∀ since, s.weather.dryOffSince = some since → since + 300000 ≤ s.now →
      Completes .dryOffExpiry s fun t =>
        Closes s { s with weather := { s.weather with rainState := .dry, dryOffSince := none } } t false)

/-- The governing wind of a candidate set (R98): the largest speed, with the sector of the lowest address that gives it; CALM
below 15. -/
def Obligations.LargestSpeedLowestAddressGoverns : Prop :=
  ∀ cs : List WeatherCandidate, cs ≠ [] →
    ∃ g, governingOf cs = some g ∧
      (∃ c ∈ cs, c.speed = g.speed ∧ c.sector = g.sector ∧ c.address = g.source) ∧
      (∀ c ∈ cs, c.speed ≤ g.speed ∧ (c.speed = g.speed → g.source ≤ c.address)) ∧
      (g.calm = true ↔ g.speed < 15) ∧
      ((∀ c ∈ cs, c.speed ≤ 600) → g.speed ≤ 600)

/-- The candidate sets and the governing rain (R97, R100): own weather and FRESH RELIABLE peers first, FRESH UNRELIABLE peers
where there is none, and no governing wind without either. -/
def Obligations.CandidatesFormGoverningWindAndRain : Prop :=
  ∀ s : State,
    let t := s.formWeather
    let peer (reliable : Bool) (c : WeatherCandidate) : Prop := ∃ a p w, (a, p) ∈ s.peers.fresh ∧ p.reliable = reliable ∧
      p.weather = some w ∧ c = ⟨a, w.speed, w.sector, w.rain⟩
    let own (c : WeatherCandidate) : Prop := ∃ w, s.ownWeather = some w ∧ c = ⟨s.line.ownAddress, w.speed, w.sector, w.rain⟩
    let first (c : WeatherCandidate) : Prop := own c ∨ peer true c
    let used (c : WeatherCandidate) : Prop := first c ∨ ((∀ d, ¬ first d) ∧ peer false c)
    (t.weather.basis = .primary ↔ ∃ c, first c) ∧
    (t.weather.basis = .fallback ↔ (∀ c, ¬ first c) ∧ ∃ c, peer false c) ∧
    (t.weather.governing = none ↔ ∀ c, ¬ used c) ∧
    (∀ g, t.weather.governing = some g → (∃ c, used c ∧ c.speed = g.speed ∧ c.sector = g.sector ∧ c.address = g.source) ∧
      ∀ c, used c → c.speed ≤ g.speed) ∧
    (t.weather.governingRain = .wet ↔ ∃ c, used c ∧ c.rain = .wet) ∧
    (t.weather.governingRain = .dry ↔ (∀ c, used c → c.rain ≠ .wet) ∧ ∃ c, used c ∧ c.rain = .dry)

/-- The storm guard judged at a change of the governing wind, and the clear hold's expiry (R101). That contents are compared once,
at the event's end, is the model's choice (log entry 10). -/
def Obligations.StormGuardJudged : Prop :=
  (∀ s : State,
    let t := s.formWeather
    let changed := t.weather.governing ≠ s.weather.governing ∨ t.weather.basis ≠ s.weather.basis
    let below (limit : Nat) : Prop := ∃ g, t.weather.governing = some g ∧ g.speed < limit
    (¬ changed → t.weather.stormActive = s.weather.stormActive ∧ t.weather.clearSince = s.weather.clearSince) ∧
    (changed → s.weather.stormActive = false → below s.cfg.stormThreshold →
      t.weather.stormActive = false ∧ t.weather.clearSince = s.weather.clearSince) ∧
    (changed → s.weather.stormActive = false → ¬ below s.cfg.stormThreshold →
      t.weather.stormActive = true ∧ t.weather.clearSince = none) ∧
    (changed → s.weather.stormActive = true → t.weather.stormActive = true ∧
      (¬ below (s.cfg.stormThreshold - 20) → t.weather.clearSince = none) ∧
      (below (s.cfg.stormThreshold - 20) → t.weather.clearSince = some (s.weather.clearSince.getD s.now)))) ∧
  (∀ (s : State) (since : Nat), Running s → WeatherFormed s → s.weather.clearSince = some since → since + 60000 ≤ s.now →
    Completes .clearHoldExpiry s fun t =>
      t.weather = { s.weather with stormActive := false, clearSince := none } ∧
      Closes s { s with weather := t.weather } t false)

/-- The computed class of a facing (R103). -/
def Obligations.ComputedClassFollowsSectorDistance : Prop :=
  ∀ (s f : Nat) (g : GoverningWind), s < 16 → f < 16 → g.sector = s →
    let d := min (max s f - min s f) (16 - (max s f - min s f))
    d ≤ 8 ∧ computedClass none f = .undecided ∧
    (g.speed < 15 → computedClass (some g) f = .leeward) ∧
    (15 ≤ g.speed → d ≤ 3 → computedClass (some g) f = .windward) ∧
    (15 ≤ g.speed → d = 4 → computedClass (some g) f = .cross) ∧
    (15 ≤ g.speed → 5 ≤ d → computedClass (some g) f = .leeward)

/-- A side record takes a computed class, and a class held for 10,000 ms is applied (R105). A governing wind that changes, in
itself or in its basis, has every side record take the class computed from it for its facing (R99, R103); where nothing changes
they are as before. That contents are compared once, at the event's end, is the model's choice (log entry 10). -/
def Obligations.SideClassHeldThenApplied : Prop :=
  (∀ (r : SideRecord) (c : SideClass) (now : Nat),
    (c = r.applied → r.takeClass c now = { r with pendingClass := none }) ∧
    (c ≠ r.applied → (r.applied = .undecided ∨ c = .undecided) → r.takeClass c now = ⟨c, none⟩) ∧
    (c ≠ r.applied → r.applied ≠ .undecided → c ≠ .undecided →
      (∀ since, r.pendingClass = some (c, since) → r.takeClass c now = r) ∧
      ((∀ since, r.pendingClass ≠ some (c, since)) → r.takeClass c now = ⟨r.applied, some (c, now)⟩))) ∧
  (∀ (s : State) (u : Leaf),
    let t := s.formWeather
    let changed := t.weather.governing ≠ s.weather.governing ∨ t.weather.basis ≠ s.weather.basis
    (changed → s.cfg.isUnit u = true → t.weather.sides.get u =
      (s.weather.sides.get u).takeClass (computedClass t.weather.governing (s.cfg.facing.get u)) s.now) ∧
    (¬ changed ∨ s.cfg.isUnit u = false → t.weather.sides.get u = s.weather.sides.get u)) ∧
  (∀ (s : State) (l : Leaf) (c : SideClass) (since : Nat), Running s → WeatherFormed s →
    (s.weather.sides.get (s.cfg.leader l)).pendingClass = some (c, since) → since + 10000 ≤ s.now →
    Completes (.classHoldExpiry l) s fun t =>
      t.weather = { s.weather with sides := s.weather.sides.set (s.cfg.leader l) ⟨c, none⟩ } ∧
      Closes s { s with weather := t.weather } t false)

/-! ### Chapter 7: leaf demands -/

/-- The six slots of a table follow their sources as they stand (R109 to R118). -/
def Obligations.SlotsFollowTheirSources : Prop :=
  ∀ (s : State) (u : Leaf),
    let v := s.slotsOf u
    v.brigade = (match s.zones.brigade with
      | some .actOpen => some 1000
      | some .actClose => some 0
      | none => none) ∧
    (v.fire.isSome = true ↔ ∃ z, z.isIn s.cfg.answerSet = true ∧
      ((s.zones.records.get z).state = .latched ∨ (s.zones.records.get z).state = .pending)) ∧
    (∀ x, v.fire = some x → x = match (s.weather.sides.get u).applied with
      | .leeward => s.cfg.fireOpening
      | .cross => s.cfg.fireOpening
      | .windward => 0
      | .undecided => s.cfg.unknownWindOpening) ∧
    v.service = (if s.detection.key.held = .service then (s.tables.get u).serviceTarget else none) ∧
    (v.comfort = none ↔ s.cfg.comfortSource = 0) ∧
    (s.cfg.comfortSource ≠ 0 → s.cfg.comfortSource = s.line.ownAddress →
      v.comfort = some (s.detection.heldStep.getD 0 * 10)) ∧
    (∀ p c, s.cfg.comfortSource ≠ 0 → s.cfg.comfortSource ≠ s.line.ownAddress →
      s.peers.find? s.cfg.comfortSource = some p → p.status = .fresh c → v.comfort = some (c.comfort.getD 0 * 10)) ∧
    (s.cfg.comfortSource ≠ 0 → s.cfg.comfortSource ≠ s.line.ownAddress →
      (∀ p c, s.peers.find? s.cfg.comfortSource = some p → p.status ≠ .fresh c) → v.comfort = some 0) ∧
    v.storm = (if s.weather.stormActive then some 0 else none) ∧
    v.rain = (if s.weather.governingRain = .dry then none else some s.cfg.rainGap)

/-- The result of a table: BRIGADE, then FIRE (R120); else the base under its caps (R121); without a base the lower cap, unless
the rest position lies at or below it (R122). -/
def Obligations.ResolutionOfSlots : Prop :=
  ∀ (v : SlotValues) (rest : Option Nat),
    let r := v.resolve rest
    (∀ b, v.brigade = some b → r = ⟨some b, .brigade⟩) ∧
    (∀ f, v.brigade = none → v.fire = some f → r = ⟨some f, .fire⟩) ∧
    (v.brigade = none → v.fire = none →
      (∀ b, v.service = some b →
        (v.storm = none → r = ⟨some b, .service⟩) ∧
        (∀ c, v.storm = some c → r = if c < b then ⟨some c, .storm⟩ else ⟨some b, .service⟩)) ∧
      (∀ b, v.service = none → v.comfort = some b →
        let storm := v.storm.getD b
        let rain := v.rain.getD b
        r.target = some (min b (min storm rain)) ∧
        r.slot = (if b ≤ storm ∧ b ≤ rain then .comfort else if storm ≤ rain then .storm else .rain)) ∧
      (v.service = none → v.comfort = none →
        (v.storm = none → v.rain = none → r = ⟨none, .none⟩) ∧
        ((v.storm.isSome = true ∨ v.rain.isSome = true) →
          ∃ cap slot, (v.storm = some cap ∧ slot = Slot.storm ∨ v.rain = some cap ∧ slot = Slot.rain) ∧
            (∀ c, v.storm = some c → cap ≤ c ∧ (c = cap → slot = .storm)) ∧ (∀ c, v.rain = some c → cap ≤ c) ∧
            r = match rest with
              | none => ⟨some cap, slot⟩
              | some p => if cap < p then ⟨some cap, slot⟩ else ⟨none, .none⟩)))

/-! ### Chapter 8: leaf motion and drive slots -/

/-- The output serves the leaf, and the leaf drives in a run in RUNNING or PROBING. -/
def driving (s : State) (o : Output) (l : Leaf) (r : Run) : Prop :=
  s.leafAt o = some l ∧ s.runOf l = some r ∧ r.stage = .running ∧ (s.members.get l).motorOn = true

/-- The motor-on period that begins at a moment and a speed (R163, R164): in TIMED mode, from a known estimate. -/
def periodFrom (f : FeedbackRecord) (now : Nat) (v : Speed) : Option Period :=
  match f.mode, f.estimate with
  | .timed, some e => some ⟨e, now, v⟩
  | .timed, none => none
  | .pulse, _ => none

/-- The estimate of a period in progress, formed now in a direction (R164). -/
def formedEstimate (s : State) (m : Leaf) (dir : Dir) : Option Nat :=
  let f := s.feedback.get m
  match f.mode, f.period, f.estimate with
  | .timed, some p, some _ =>
    let way := (s.now - p.since) * 1000 / s.cfg.strokeTime m p.speed
    some (match dir with
      | .opening => min 1000 (p.base + way)
      | .closing => p.base - way)
  | _, _, e => e

/-- The direction a run's member drives in: a probe pulse closes (R170). -/
def waysOf (s : State) (r : Run) (m : Leaf) : Dir :=
  match (s.feedback.get m).probe with
  | .none | .requested => r.direction
  | .settle _ | .pulse _ => .closing

/-- The run has passed to RUNDOWN with an ending: every member's motor is off, its watchdog and its motor-on period have ended with
the estimate formed (R161, R164), and only the leaf and feedback records have changed. -/
def stopsInRundown (s t : State) (l : Leaf) (r : Run) (e : Ending) : Prop :=
  (t.unitOf l).status = .inFlight { r with stage := .rundown (s.now + 150) e, timeoutDue := none } ∧
  (∀ m ∈ r.members, (t.members.get m).motorOn = false ∧ (t.members.get m).checks = .off ∧
    (s.runOf m = some r → t.feedback.get m = { s.feedback.get m with
      estimate := formedEstimate s m (waysOf s r m), watchdog := none, period := none })) ∧
  t.tables = s.tables ∧ MotionOnly s t

/-- The end of STARTING switches the motors on, with blanking, forms the travel timeout (R137, R140), and begins a motor-on period of
each member in TIMED mode whose estimate is known (R164); the end of blanking applies the checks (R147). -/
def Obligations.StartingEndsAndBlankingEnds : Prop :=
  ∀ (s : State) (l : Leaf) (o : Output) (r : Run) (due : Nat), s.phase ≠ .off → due ≤ s.now →
    ((s.unitOf l).status = .inFlight r → r.stage = .starting due →
      Completes (.startingEnd l) s fun t =>
        let u := s.cfg.leader l
        let full := s.cfg.strokeTime u r.speed
        let timeout := match r.kind, s.unitPosition u with
          | .normal, some p => full * (max p r.target - min p r.target) / 1000 * 5 / 4 + 2000
          | _, _ => full * 5 / 4 + 2000
        (t.unitOf l).status = .inFlight { r with stage := .running, timeoutDue := some (s.now + timeout) } ∧
        (∀ m ∈ r.members, (t.members.get m).motorOn = true ∧ (t.members.get m).hold = .driving ∧
          (t.members.get m).checks = .blanking (s.now + 300) ∧ (t.members.get m).switchedOn = s.now ∧
          t.feedback.get m = { s.feedback.get m with
            lastLine := none, period := periodFrom (s.feedback.get m) s.now r.speed }) ∧
        (∀ m, m ∉ r.members → t.members.get m = s.members.get m ∧ t.feedback.get m = s.feedback.get m) ∧
        (∀ v, v ≠ u → t.units.get v = s.units.get v) ∧ t.tables = s.tables ∧ MotionOnly s t) ∧
    (s.leafAt o = some l → (s.members.get l).checks = .blanking due →
      exec (.blankingEnd o) s = .next ({ s with
        members := s.members.set l { s.members.get l with checks := .applied s.now } } : State).refresh)

/-- The findings that end a run in RUNNING or PROBING with a fault pass it to RUNDOWN at once (R140, R144, R145, R147, R148). -/
def Obligations.FaultFindingsStopTheRun : Prop :=
  ∀ (s : State) (o : Output) (l : Leaf) (r : Run) (current since due : Nat), s.phase ≠ .off → driving s o l r →
    (60 ≤ current → (s.feedback.get l).probe.pulsing = false →
      Completes (.overcurrent o current) s fun t => stopsInRundown s t l r (.fault .overcurrent)) ∧
    (s.cfg.stall.get l ≤ current → (s.members.get l).checks = .applied since → since + 300 ≤ s.now →
      Completes (.stall o current) s fun t => stopsInRundown s t l r (.fault .stall)) ∧
    (∀ p, s.cfg.pinch.get l ≤ current → (s.members.get l).checks = .applied since → since + 100 ≤ s.now →
      r.direction = .closing → r.kind = .normal → r.backoff = false → r.slot ≠ .fire → r.slot ≠ .brigade →
      (s.members.get l).slice = none → r.pinchFrom + 100 ≤ s.now → s.position l = some p → 20 < p →
      Completes (.pinch o current) s fun t => stopsInRundown s t l r .pinched) ∧
    (r.timeoutDue = some due → due ≤ s.now →
      Completes (.travelTimeout l) s fun t => stopsInRundown s t l r (.fault .travelTimeout)) ∧
    (∀ n, (s.members.get l).slice = some ⟨n, due⟩ → due ≤ s.now →
      (n = 1 → exec (.probingSliceEnd o) s = .next ({ s with members := s.members.set l { s.members.get l with
        slice := some ⟨2, s.now + s.cfg.strokeTime l r.speed * 20 / 1000⟩ } } : State).refresh) ∧
      (n = 2 → Completes (.probingSliceEnd o) s fun t => stopsInRundown s t l r
        (.fault (match r.direction with | .opening => .openUnconfirmed | .closing => .closeUnconfirmed))))

/-- The checks of a leaf are not applied, or have been for less than a period: off, in blanking, or applied too lately. -/
def checkedLessThan (s : State) (l : Leaf) (period : Nat) : Prop :=
  ∀ since, (s.members.get l).checks = .applied since → s.now < since + period

/-- A finding outside its check stops nothing (R144 to R148). An overcurrent below 6.0 A; a stall below the leaf's threshold; a pinch
below its threshold, on an opening run, a back-off, an UNREF or reference run, under FIRE or BRIGADE, in PROBING, at a position of at
most 20 or unknown, or within 100 ms of a change out of FIRE; a cut-out with a current of 0.1 A; each of the three in blanking or
before its checks have been applied for its time, and on an output whose motor is off. -/
def Obligations.FindingsOutsideTheirChecksStopNothing : Prop :=
  ∀ (s : State) (o : Output) (current : Nat), s.phase ≠ .off →
    let nothing (c : Instr) : Prop := exec c s = .next s.refresh
    (current < 60 → nothing (.overcurrent o current)) ∧
    ((∀ l r, ¬ driving s o l r) →
      nothing (.stall o current) ∧ nothing (.pinch o current) ∧ nothing (.endCutOut o current) ∧
      ((∀ l due, s.leafAt o = some l → (s.feedback.get l).probe ≠ .pulse due) → nothing (.overcurrent o current))) ∧
    ∀ l r, driving s o l r →
      (current < s.cfg.stall.get l ∨ checkedLessThan s l 300 → nothing (.stall o current)) ∧
      (1 ≤ current ∨ checkedLessThan s l 200 → nothing (.endCutOut o current)) ∧
      (current < s.cfg.pinch.get l ∨ checkedLessThan s l 100 → nothing (.pinch o current)) ∧
      (r.direction = .opening ∨ r.backoff = true ∨ r.kind ≠ .normal ∨ r.slot = .fire ∨ r.slot = .brigade ∨
        (s.members.get l).slice ≠ none ∨ s.position l = none ∨ (∃ p, s.position l = some p ∧ p ≤ 20) ∨
        s.now < r.pinchFrom + 100 → nothing (.pinch o current)) ∧
      (∀ due, (s.members.get l).checks = .blanking due →
        nothing (.stall o current) ∧ nothing (.pinch o current) ∧ nothing (.endCutOut o current))

/-- The closed-frame switch and the end cut-out fix the position at an end; a single leaf's run then ends without fault, but a
cut-out on a closing run is CLOSE_UNCONFIRMED (R144, R145, R165 to R167). That a back-off held at an end ends with PINCH is the
model's choice (log entry 19). -/
def Obligations.EndsFixThePosition : Prop :=
  ∀ (s : State) (o : Output) (l : Leaf) (r : Run) (current since : Nat), s.phase ≠ .off → driving s o l r →
    let f := s.feedback.get l
    let stroke := s.cfg.stroke.get l
    let arrival : Ending := if r.backoff then .fault .pinch else .clean
    let met (t : State) (count position drift : Nat) : Prop :=
      (f.mode = .pulse → (t.feedback.get l).count = some count) ∧
      (f.mode = .timed → (t.feedback.get l).estimate = some position) ∧ (t.feedback.get l).drift = drift ∧
      (t.members.get l).motorOn = false ∧
      (∀ m, m ≠ l → (t.feedback.get m).count = (s.feedback.get m).count ∧
        (t.feedback.get m).drift = (s.feedback.get m).drift) ∧
      t.tables = s.tables ∧ MotionOnly { s with feedback := t.feedback } t
    let more (p : Prop) [Decidable p] : Nat := if p then min 65535 (f.drift + 1) else f.drift
    f.drift ≤ 65535 →
    (r.direction = .closing → (s.members.get l).switchMade = false →
      Completes (.closedSwitchMade o) s fun t =>
        met t 0 0 (more (f.mode = .pulse ∧ ∃ n, f.count = some n ∧ 10 < n * 1000 / stroke)) ∧
        (t.members.get l).switchMade = true ∧
        (r.members = [l] → (t.unitOf l).status =
          .inFlight { r with stage := .rundown (s.now + 150) arrival, timeoutDue := none })) ∧
    (current = 0 → (s.members.get l).checks = .applied since → since + 200 ≤ s.now →
      (r.direction = .opening → Completes (.endCutOut o current) s fun t =>
        met t stroke 1000 (more (f.mode = .pulse ∧ ∃ n, f.count = some n ∧ stroke * 30 / 1000 < max n stroke - min n stroke)) ∧
        (r.members = [l] → (t.unitOf l).status =
          .inFlight { r with stage := .rundown (s.now + 150) arrival, timeoutDue := none })) ∧
      (r.direction = .closing → l ∈ r.members → Completes (.endCutOut o current) s fun t =>
        met t 0 0 f.drift ∧
        (t.unitOf l).status =
          .inFlight { r with stage := .rundown (s.now + 150) (.fault .closeUnconfirmed), timeoutDue := none }))

/-- A unit needs a run (R131, R151, R156), each of its probes ended and a member present (R155). -/
def unitNeeds (s : State) (u : Leaf) : Prop :=
  let x := s.units.get u
  (∀ m ∈ s.cfg.membersOf u, (s.feedback.get m).presence ≠ .unprobed) ∧
  (∃ m ∈ s.cfg.membersOf u, (s.feedback.get m).presence ≠ .absent) ∧
  if 4 ≤ x.failureCount then x.fireOwed = true
  else x.referenceOwed = true ∨ ∃ g, x.pair.target = some g ∧ ∀ q, s.unitPosition u = some q → 5 < max g q - min g q

/-- A unit is withheld (R131): by its retry hold, by LOCKOUT, or by LOW with its slot below FIRE. -/
def unitWithheld (s : State) (u : Leaf) : Prop :=
  let x := s.units.get u
  x.retryHold ≠ none ∨ s.detection.key.held = .lockout ∨
    (s.supply.state = .low ∧ x.pair.slot ≠ .fire ∧ x.pair.slot ≠ .brigade)

/-- The end of a RUNDOWN (R142, R148 to R150): without fault the failure count is 0; with a fault it rises, up to 4,
last-run-failed is set unless the same event starts the unit again, and a retry hold runs below 4, which keeps the unit at rest;
after a pinch the back-off begins. The unit rests in OUT_OF_SERVICE, UNREF or IDLE (R130, R149, R151) and hands its rest position,
which one that goes back to the queue does not (R119, R130, R142). The reversal pause runs from here, and pause and hold end when they have run (R135, R150). Of the model's choices these rest on: the hold's length goes by
the failed run's slot, and a FIRE pair stored in the RUNDOWN does not end a hold that is not PINCH's (log entries 17 and 33); a
gang rests by the positions known then (log entry 38); every member that is TIMED now loses its estimate, at the fourth failure too
(log entry 39); a gang's back-off goes to 50 beyond the gang position (log entry 41). That contents are compared once, at the event's end, is
the model's choice (log entry 10). -/
def Obligations.RundownEndsTheRun : Prop :=
  (∀ (s : State) (l : Leaf) (r : Run) (due : Nat) (e : Ending), Running s → (s.unitOf l).status = .inFlight r →
    r.stage = .rundown due e → due ≤ s.now →
    Completes (.rundownEnd l) s fun t =>
      let u := s.cfg.leader l
      let old := s.units.get u
      let new := t.units.get u
      let underFire (x : Slot) : Prop := x = .fire ∨ x = .brigade
      let startedAgain := ∃ r', new.status = .inFlight r'
      new.reversal = some (r.direction, s.now + 500) ∧
      (e = .clean → new.failureCount = 0 ∧ new.lastFault = old.lastFault ∧
        (¬ startedAgain → new.lastRunFailed = old.lastRunFailed)) ∧
      (∀ f, e = .fault f →
        new.failureCount = min 4 (old.failureCount + 1) ∧ new.lastFault = some f ∧
        (¬ startedAgain → new.lastRunFailed = true) ∧
        (3 ≤ old.failureCount → new.retryHold = none) ∧
        (old.failureCount < 3 → underFire r.slot → new.retryHold = some ⟨5000, s.now⟩) ∧
        (old.failureCount < 3 → ¬ underFire r.slot → (f = .pinch → ¬ underFire old.pair.slot) →
          (underFire new.pair.slot → new.pair = old.pair) →
          new.retryHold = some ⟨30000, s.now⟩) ∧
        (old.failureCount < 3 → ¬ underFire r.slot → f = .pinch → underFire old.pair.slot → new.retryHold = none) ∧
        (new.retryHold ≠ none → new.status = .rest) ∧
        (f = .stall ∨ f = .overcurrent ∨ f = .travelTimeout → ∀ m ∈ r.members, (s.feedback.get m).mode = .timed →
          (t.feedback.get m).estimate = none)) ∧
      (membersBelong s →
        let needs := unitNeeds s u ∧ ¬ unitWithheld s u
        let handed := (t.tables.get u).restPosition = t.unitPosition u
        let kept := (t.tables.get u).restPosition = (s.tables.get u).restPosition
        (e = .clean ∨ e = .halted ∨ (∃ f, e = .fault f) → handed) ∧
        (e = .pinched → kept) ∧
        (e = .stopped → ¬ needs → handed) ∧
        (e = .stopped → needs → new.pair = old.pair → kept ∧ (new.status = .waiting s.now ∨ startedAgain)) ∧
        ∀ m, s.cfg.leader m = u → (t.feedback.get m).estimate =
          if m ∈ r.members ∧ (s.feedback.get m).mode = .timed ∧
            (e = .fault .stall ∨ e = .fault .overcurrent ∨ e = .fault .travelTimeout)
          then none else (s.feedback.get m).estimate) ∧
      (e = .pinched → new.failureCount = old.failureCount ∧ new.status = .inFlight { r with
        kind := .normal
        backoff := true
        target := min 1000 ((s.unitPosition u).getD 0 + 50)
        direction := .opening
        stage := .starting (s.now + 500) }) ∧
      (e = .stopped ∨ e = .halted → new.failureCount = old.failureCount ∧ new.lastFault = old.lastFault ∧
        (¬ startedAgain → new.lastRunFailed = old.lastRunFailed)) ∧
      (new.status = .rest → ∀ m, s.cfg.leader m = u → (t.feedback.get m).presence = .present →
        let known := ∀ k, s.cfg.leader k = u → (t.feedback.get k).presence ≠ .absent → (t.position k).isSome = true
        (4 ≤ new.failureCount → t.motion m = .outOfService) ∧
        (new.failureCount < 4 → known → t.motion m = .idle) ∧
        (new.failureCount < 4 → ¬ known → t.motion m = .unref)) ∧
      (∀ v, v ≠ u → (t.units.get v).failureCount = (s.units.get v).failureCount) ∧
      Closes s { s with units := t.units } t false) ∧
  ∀ (s : State) (l : Leaf), Running s →
    (∀ d due, (s.units.get (s.cfg.leader l)).reversal = some (d, due) → due ≤ s.now →
      Completes (.reversalPauseEnd l) s fun t =>
        (t.units.get (s.cfg.leader l)).reversal = none ∧ Closes s s t false) ∧
    (∀ h, (s.units.get (s.cfg.leader l)).retryHold = some h → h.since + h.period ≤ s.now →
      Completes (.retryHoldExpiry l) s fun t =>
        (t.units.get (s.cfg.leader l)).retryHold = none ∧ Closes s s t false)

/-- After every event of a running station that closes, the weather results are those formed from the state as it came to be (R99 to
R105), the brigade result is the resolution (R19), each table's result is the pair handed (R123), no leaf at rest that needs a run and is
not withheld is left out of the queue (R131), and the pending-report slot is filled with its urgency where the content changed in the
event or a report is requested (R30, R32). That the contents are compared once, at the event's end, is the model's choice (log entry
10). -/
def Obligations.EveryLeafIsJudgedAfterAnEvent : Prop :=
  (∀ (s : State) (u : Leaf),
    (s.needsRun u = true ↔ unitNeeds s u) ∧ (s.withheld u = true ↔ unitWithheld s u)) ∧
  ∀ (s before : State) (request : Bool) (u : Leaf), Running s → s.cfg.isUnit u = true →
    let t := s.close before request
    Closes before s t.refresh request ∧
    (t.units.get u).pair = t.resultOf u ∧
    (membersBelong s → (t.units.get u).status = .rest → ¬ (t.needsRun u = true ∧ t.withheld u = false))

/-- Where a run under a target goes, from the unit's position (R137, R146): kind, run target, direction. -/
def aimOf (position : Option Nat) (g : Nat) : RunKind × Nat × Dir :=
  match position with
  | some q => (.normal, g, if q < g then .opening else .closing)
  | none => if g = 1000 then (.unref, 1000, .opening) else (.unref, 0, .closing)

/-- The run that a queue entry is started with (R137, R156). -/
def startedRun (s : State) (u : Leaf) : Run :=
  let x := s.units.get u
  let aim := if x.referenceOwed then (RunKind.reference, 0, Dir.closing) else aimOf (s.unitPosition u) (x.pair.target.getD 0)
  { kind := aim.1
    backoff := false
    target := aim.2.1
    direction := aim.2.2
    speed := if x.pair.slot = .fire ∨ x.pair.slot = .brigade then .full else .quiet
    slot := x.pair.slot
    stage := .starting (s.now + 50)
    timeoutDue := none
    members := s.presentMembers u
    pinchFrom := s.now }

/-- A queue entry has been started (R137, R151, R156). -/
def hasStarted (s t : State) (u : Leaf) : Prop :=
  t.units.get u = { s.units.get u with
    status := .inFlight (startedRun s u)
    lastDirection := some (startedRun s u).direction
    lastRunFailed := false
    fireOwed := false
    referenceOwed := false } ∧
  (∀ v, v ≠ u → t.units.get v = s.units.get v) ∧
  (∀ m, t.members.get m = if m ∈ s.presentMembers u then ⟨false, .driving, (s.members.get m).switchedOn, .off, none, false⟩
    else s.members.get m) ∧
  t.tables = s.tables ∧ t.feedback = s.feedback ∧ MotionOnly s t.refresh

/-- A run that preemption may stop (R136): below FIRE, in STARTING, RUNNING or PROBING, no reference run and no back-off. -/
def mayBePreempted (s : State) (v : Leaf) (r : Run) : Prop :=
  (s.units.get v).status = .inFlight r ∧ (r.stage = .running ∨ ∃ due, r.stage = .starting due) ∧
    r.slot ≠ .fire ∧ r.slot ≠ .brigade ∧ r.kind ≠ .reference ∧ r.backoff = false

/-- A run has been preempted (R136): through RUNDOWN from RUNNING or PROBING; at once from STARTING, back to the queue where the
unit still needs a run and else to rest, where it is judged again. -/
def hasBeenPreempted (s t : State) (v : Leaf) (r : Run) : Prop :=
  (r.stage = .running → (t.units.get v).status =
      .inFlight { r with stage := .rundown (s.now + 150) .stopped, timeoutDue := none } ∧
    ∀ m ∈ r.members, (t.members.get m).motorOn = false) ∧
  (∀ due, r.stage = .starting due →
    ((unitNeeds s v ∧ ¬ unitWithheld s v) → t.units.get v = { s.units.get v with status := .waiting s.now }) ∧
    (¬ (unitNeeds s v ∧ ¬ unitWithheld s v) → (t.tables.get v).restPosition = s.unitPosition v ∧
      ((t.units.get v).status = .rest ∨ (t.units.get v).status = .waiting s.now))) ∧
  (∀ w, w ≠ v → t.units.get w = s.units.get w) ∧ MotionOnly s t.refresh

/-- The arbiter has taken so many steps, each of which started or stopped something. -/
def servedIn : Nat → State → State → Prop
  | 0, s, t => t = s
  | n + 1, s, t => ∃ w, s.serveStep = some w ∧ servedIn n w t

/-- The start queue is ordered by slot rank, entry time and leaf number, and has each waiting unit once (R133). The arbiter serves in
steps until one starts and stops nothing (R135): a probe first, in output order; then the head, passing over a gang that needs two
slots while the count is 1, when its slots are free and its reversal pause has run out (R137); and a FIRE or BRIGADE head whose slots
are not free preempts, the lowest rank first, then the highest leaf number (R136). Nothing behind a head that cannot start is
started. -/
def Obligations.StartQueueIsOrderedAndServed : Prop :=
  ∀ s : State,
    (s.startQueue.Nodup ∧ s.startQueue.Pairwise (fun u v => s.queueBefore v u = false) ∧
      (∀ u, u ∈ s.startQueue ↔ s.cfg.isUnit u = true ∧ ∃ t, (s.units.get u).status = .waiting t) ∧
      ∀ u v a b, (s.units.get u).status = .waiting a → (s.units.get v).status = .waiting b →
        let ru := (s.units.get u).pair.slot.rank
        let rv := (s.units.get v).pair.slot.rank
        (s.queueBefore u v = true ↔ rv < ru ∨ (ru = rv ∧ (a < b ∨ (a = b ∧ u.number < v.number))))) ∧
    (Running s → s.detection.key.held ≠ .lockout →
      ∃ n, n ≤ 16 ∧ servedIn n s s.serve ∧ (n < 16 → s.serve.serveStep = none)) ∧
    (¬ Running s ∨ s.detection.key.held = .lockout → s.serve = s) ∧
    let count : Int := match s.supply.state with
      | .mains => 3
      | .battery => 2
      | .low => 1
    let free : Int := count - (s.slotsHeld : Nat)
    let released (v : Leaf) : Nat := match (s.units.get v).run? with
      | some r => match r.stage with
        | .rundown _ _ => r.members.length
        | .starting _ => 0
        | .running => 0
      | none => 0
    let coming : Int := free + ((N4.all.map released).sum : Nat)
    let need (u : Leaf) : Int := ((s.presentMembers u).length : Nat)
    let passed (u : Leaf) : Prop := count = 1 ∧ 2 ≤ need u
    let requested (o : Output) (l : Leaf) : Prop := s.leafAt o = some l ∧ (s.feedback.get l).probe = .requested
    (1 ≤ free → (∃ o l, requested o l) → ∃ o l, requested o l ∧ (∀ o' l', requested o' l' → o.number ≤ o'.number) ∧
      s.serveStep = some { s with
        feedback := s.feedback.set l { s.feedback.get l with probe := .settle (s.now + 50) } }) ∧
    (¬ (1 ≤ free ∧ ∃ o l, requested o l) →
      ((∀ u ∈ s.startQueue, passed u) → s.serveStep = none) ∧
      ∀ ahead u behind, s.startQueue = ahead ++ u :: behind → (∀ v ∈ ahead, passed v) → ¬ passed u →
        let x := s.units.get u
        let paused := ∃ d due, x.reversal = some (d, due) ∧ d ≠ (startedRun s u).direction ∧ s.now < due
        let atFire := x.pair.slot = .fire ∨ x.pair.slot = .brigade
        (need u ≤ free → paused → s.serveStep = none) ∧
        (need u ≤ free → ¬ paused → ∃ t, s.serveStep = some t ∧ hasStarted s t u) ∧
        (free < need u → (¬ atFire ∨ need u ≤ coming ∨ ∀ v r, ¬ mayBePreempted s v r) → s.serveStep = none) ∧
        (free < need u → atFire → coming < need u → (∃ v r, mayBePreempted s v r) →
          ∃ t v r, mayBePreempted s v r ∧
            (∀ w r', mayBePreempted s w r' → r.slot.rank < r'.slot.rank ∨
              (r.slot.rank = r'.slot.rank ∧ w.number ≤ v.number)) ∧
            s.serveStep = some t ∧ hasBeenPreempted s t v r))

/-- The records at a change of a run's speed in flight (R138, R164): the motor-on period of each member whose motor is on ends with the
estimate formed, and the next begins from it. -/
def speedChanged (s : State) (r : Run) (v : Speed) : State :=
  let atChange (m : Leaf) : FeedbackRecord :=
    let f := { s.feedback.get m with estimate := formedEstimate s m (waysOf s r m) }
    { f with period := periodFrom f s.now v }
  if v = r.speed then s
  else { s with feedback := Four.ofFn fun m =>
    if m ∈ r.members ∧ (s.members.get m).motorOn = true then atChange m else s.feedback.get m }

/-- A member's record when it is switched on (R137, R152). -/
def switchedOnAt (x : MemberRecord) (now : Nat) : MemberRecord :=
  { x with motorOn := true, hold := .driving, switchedOn := now, checks := .blanking (now + 300) }

/-- A place lies short of a goal in a direction. -/
def shortOf (dir : Dir) (a goal : Nat) : Bool :=
  match dir with
  | .opening => a < goal
  | .closing => goal < a

/-- A member whose count or estimate stands at or past a run target (R143, R162). -/
def atOrPast (w : State) (dir : Dir) (target : Nat) (m : Leaf) : Bool :=
  match (w.feedback.get m).mode with
  | .pulse => (w.feedback.get m).count.any fun n => !shortOf dir n ((target * w.cfg.stroke.get m + 500) / 1000)
  | .timed => (w.feedback.get m).estimate.any fun e => !shortOf dir e target

/-- Where a run's target is replaced, a member held with its motor off is switched on again if it lies short of the target (R141). -/
def resumesFor (s w : State) (r : Run) (m : Leaf) : Bool :=
  (s.members.get m).hold ≠ .driving && (w.position m).any fun a => shortOf r.direction a r.target

def memberOn (s w : State) (r : Run) (m : Leaf) : MemberRecord :=
  if resumesFor s w r m then switchedOnAt (s.members.get m) s.now else s.members.get m

/-- A member that is not done and not in PROBING stands at or past the replaced target. -/
def reachesAtOnce (s w : State) (r : Run) (m : Leaf) : Bool :=
  (memberOn s w r m).hold ≠ .done && (memberOn s w r m).slice.isNone && atOrPast w r.direction r.target m

/-- A member has reached the replaced target, and each member has arrived or is in PROBING. -/
def settlesAtOnce (s w : State) (r : Run) : Bool :=
  r.members.any (reachesAtOnce s w r) && r.members.all fun m =>
    (memberOn s w r m).hold = .done || (memberOn s w r m).slice.isSome || reachesAtOnce s w r m

/-- A member's record at its arrival (R143, R152). -/
def arrivedRecord (x : MemberRecord) : MemberRecord :=
  { x with motorOn := false, hold := .done, checks := .off, slice := none }

/-- A run's target is replaced in flight (R141): `w` is `s` after the change of speed, and `r` the run with its new target, speed and
slot. A member held short of the target is switched on again; one whose count or estimate stands at or past it arrives (R143, R152),
or enters PROBING where the target is the end (R144, R145); with the last member's arrival the run passes to RUNDOWN. The timeout is
formed again (R140), and stops where each member has arrived or probes. -/
def targetReplaced (s w t : State) (u : Leaf) (r : Run) (formedAgain : Nat) : Prop :=
  let toEnd := r.target = match r.direction with
    | .opening => 1000
    | .closing => 0
  let stops := ¬ toEnd ∧ settlesAtOnce s w r = true
  let status := (t.units.get u).status
  (stops → status = .inFlight { r with stage := .rundown (s.now + 150) .clean, timeoutDue := none }) ∧
  (¬ stops → status = .inFlight { r with
    timeoutDue := if settlesAtOnce s w r then none else if r.timeoutDue.isSome then some formedAgain else none }) ∧
  (∀ m ∈ r.members, reachesAtOnce s w r m = false →
    (stops → t.members.get m = arrivedRecord (memberOn s w r m)) ∧
    (¬ stops → t.members.get m = memberOn s w r m ∧ t.feedback.get m =
      if resumesFor s w r m then { w.feedback.get m with period := periodFrom (w.feedback.get m) s.now r.speed }
      else w.feedback.get m)) ∧
  (∀ m ∈ r.members, reachesAtOnce s w r m = true →
    let x := memberOn s w r m
    (t.feedback.get m).watchdog = none ∧
    (¬ toEnd → t.members.get m = arrivedRecord x ∧ (t.feedback.get m).period = none) ∧
    (toEnd → t.members.get m = { (if x.hold = .syncHeld then switchedOnAt x s.now else x) with
      slice := some ⟨1, s.now + s.cfg.strokeTime m r.speed * 20 / 1000⟩ }))

/-- A changed result is handed to the drive controller as a new pair (R123), which a unit takes at rest, in WAITING, in STARTING
(R139), in RUNNING or PROBING (R138, R141, R154) and stores in RUNDOWN (R142), in a back-off (R148) and, below FIRE, in a reference
run (R156). A FIRE or BRIGADE pair ends a 30,000 ms hold (R150) and drops an owed reference run (R156); an OUT_OF_SERVICE unit owes
a fire attempt or is stopped (R151). At a change of speed a motor-on period ends and the next begins (R164). When an attempt is owed, and owed again, is the model's choice (log entries 15 and 16), as is
that a member short of a replaced target is switched on with fresh blanking, and that one is where the target stays the same (log
entry 24), that a pair stored in a back-off or a reference run leaves its speed and slot as they are (log entry 23), that the estimate is
formed at a speed change, and compared there only where the target is replaced (log entry 45), and that a reference run that goes on
under a FIRE or BRIGADE pair is an UNREF run from there (log entry 46). -/
def Obligations.NewPairTaken : Prop :=
  ∀ (s : State) (u : Leaf), membersBelong s → s.cfg.isUnit u = true → s.resultOf u ≠ (s.units.get u).pair →
    let p := s.resultOf u
    let x := s.units.get u
    let t := s.handPair u
    let y := t.units.get u
    let atFire := p.slot = .fire ∨ p.slot = .brigade
    let out := 4 ≤ x.failureCount
    let barred := s.supply.state = .low ∧ ¬ atFire
    let speed : Speed := if atFire then .full else .quiet
    let full := s.cfg.strokeTime u speed
    let asBefore := y.status = x.status ∧ t.members = s.members ∧ t.feedback = s.feedback ∧ t.tables = s.tables
    let rests := y.status = .rest ∧ (t.tables.get u).restPosition = s.unitPosition u
    let owes := y.fireOwed = true ↔ atFire ∧ out
    y.pair = p ∧ y.lastRunFailed = x.lastRunFailed ∧ y.reversal = x.reversal ∧
    y.retryHold = (if atFire ∧ x.retryHold.map RetryHold.period = some 30000 then none else x.retryHold) ∧
    (y.referenceOwed = true ↔ x.referenceOwed = true ∧ ¬ atFire) ∧
    (∀ v, v ≠ u → t.units.get v = s.units.get v) ∧ MotionOnly s t.refresh ∧
    (x.status = .rest → asBefore ∧ owes) ∧
    (∀ e, x.status = .waiting e → owes ∧
      ((unitNeeds t u ∧ ¬ unitWithheld t u) → asBefore) ∧ (¬ (unitNeeds t u ∧ ¬ unitWithheld t u) → rests)) ∧
    (∀ r, x.status = .inFlight r →
      let stored := r.backoff = true ∨ (r.kind = .reference ∧ ¬ atFire)
      let stops (e : Ending) (owedAgain : Prop) : Prop :=
        y.status = .inFlight { r with stage := .rundown (s.now + 150) e, timeoutDue := none } ∧
        (∀ m ∈ r.members, (t.members.get m).motorOn = false ∧ (t.feedback.get m).period = none ∧
          (t.feedback.get m).estimate = formedEstimate s m (waysOf s r m)) ∧ (y.fireOwed = true ↔ owedAgain ∧ out ∧ atFire)
      let w := speedChanged s r speed
      let under (kind : RunKind) (target : Nat) : Run := { r with
        kind := kind
        target := target
        speed := speed
        slot := p.slot
        pinchFrom := if (r.slot = .fire ∨ r.slot = .brigade) ∧ ¬ atFire then s.now else r.pinchFrom }
      let goesOn (kind : RunKind) (target : Nat) (timeout : Option Nat) : Prop :=
        y.status = .inFlight { under kind target with timeoutDue := timeout } ∧
        t.members = s.members ∧ t.feedback = w.feedback ∧ t.tables = s.tables
      (stored → asBefore) ∧
      (∀ due e, r.stage = .rundown due e → asBefore ∧ owes) ∧
      (∀ due, ¬ stored → r.stage = .starting due →
        let needs := if out then atFire
          else ∃ g, p.target = some g ∧ ∀ q, s.unitPosition u = some q → 5 < max g q - min g q
        let aim := aimOf (s.unitPosition u) (p.target.getD 0)
        (needs → ¬ barred → y.lastDirection = some aim.2.2 ∧ y.status = .inFlight
          ⟨aim.1, false, aim.2.1, aim.2.2, speed, p.slot, .starting (s.now + 50), none, r.members, s.now⟩) ∧
        (¬ needs ∨ barred → rests)) ∧
      (¬ stored → r.stage = .running →
        (barred → stops .halted False) ∧
        (¬ barred → out → ¬ atFire → stops .stopped False) ∧
        (¬ barred → (out → atFire) → p.target = none → stops .stopped False) ∧
        ∀ g, ¬ barred → (out → atFire) → p.target = some g →
          let ended := match r.direction with
            | .opening => 1000
            | .closing => 0
          let sameEnd := g = r.target ∧ g = ended
          let beyond (a : Nat) : Prop := match r.direction with
            | .opening => a + 5 < g
            | .closing => g + 5 < a
          let probing := ∃ m ∈ r.members, (s.members.get m).slice.isSome = true
          let formedAgain := s.now + match w.unitPosition u with
            | some q => full * (max q g - min q g) / 1000 * 5 / 4 + 2000
            | none => full * 5 / 4 + 2000
          (r.kind = .normal → s.unitPosition u = none →
            (sameEnd → goesOn .normal g
              (if r.timeoutDue.isSome ∧ speed ≠ r.speed then some formedAgain else r.timeoutDue)) ∧
            (¬ sameEnd → stops .stopped True)) ∧
          (r.kind = .normal → ∀ q, s.unitPosition u = some q →
            (¬ beyond q → sameEnd → goesOn .normal g
              (if r.timeoutDue.isSome ∧ speed ≠ r.speed then some formedAgain else r.timeoutDue)) ∧
            (probing ∨ ¬ beyond q → ¬ sameEnd → stops .stopped (5 < max g q - min g q)) ∧
            (¬ probing ∨ sameEnd → beyond q → targetReplaced s w t u (under .normal g) formedAgain ∧
              ∀ m, m ∉ r.members → t.members.get m = s.members.get m ∧ t.feedback.get m = s.feedback.get m)) ∧
          (r.kind ≠ .normal →
            let called : Dir := if g = 1000 then .opening else .closing
            (called = r.direction → goesOn .unref r.target
              (if r.timeoutDue.isSome ∧ speed ≠ r.speed then some (s.now + (full * 5 / 4 + 2000)) else r.timeoutDue)) ∧
            (called ≠ r.direction → stops .stopped True))))

/-- The slots held never exceed 3 (R134), each table's result is the pair its unit holds (R123), the governing wind and rain stand as
their candidates give them (R97, R98, R100), the brigade result is the resolution (R19), and at LOCKOUT no output is energised and
nothing waits, starts or runs (R153). -/
def Obligations.EveryStepKeepsDriveLaws : Prop :=
  ∀ s t : State, DriveLawful s → step s = .next t → DriveLawful t

/-! ### Chapter 9: position feedback -/

/-- The direction a leaf's edges are counted in: closing in a probe pulse, else that of its run in RUNNING, PROBING or RUNDOWN
(R159, R170). -/
def drivenIn (s : State) (l : Leaf) (dir : Dir) : Prop :=
  (∃ due, (s.feedback.get l).probe = .pulse due ∧ dir = .closing) ∨
  (((s.feedback.get l).probe = .none ∨ (s.feedback.get l).probe = .requested) ∧
    ∃ r, s.runOf l = some r ∧ r.direction = dir ∧ (r.stage = .running ∨ ∃ due e, r.stage = .rundown due e))

/-- The mode of a leaf has become TIMED (R160, R161, R163): the estimate takes the position, the count is unknown, the watchdog is no
longer applied, and a motor-on period begins where the motor is on and the estimate known (R164), at the run's speed, or in a probe
pulse at a speed the specification does not name (log entry 21). A report is made due where the content changed, and nothing else
follows: the estimate is not compared in this event (log entry 47). -/
def becomesTimed (s t : State) (l : Leaf) : Prop :=
  let f := s.feedback.get l
  let estimate := f.count.map fun n => n * 1000 / s.cfg.stroke.get l
  let pulsing := ∃ due, f.probe = .pulse due
  (∃ period, t.feedback.get l = { f with
      mode := .timed, estimate := estimate, count := none, watchdog := none, period := period } ∧
    (estimate = none → period = none) ∧
    ∀ e, estimate = some e →
      (pulsing → ∃ v, period = some ⟨e, s.now, v⟩) ∧
      (¬ pulsing → ∀ r, s.runOf l = some r → (s.members.get l).motorOn = true → period = some ⟨e, s.now, r.speed⟩) ∧
      (¬ pulsing → (s.members.get l).motorOn = false ∨ s.runOf l = none → period = none)) ∧
  (∀ m, m ≠ l → t.feedback.get m = s.feedback.get m) ∧
  Reports s { s with feedback := t.feedback } t false

/-- Edges (R159 to R161): an edge on the other line moves a known count by 1 in the driven direction, clamped, and restarts the
pulse watchdog unless it ends the leaf's drive or begins PROBING; an edge on the same line makes the mode TIMED with the position
as estimate (R163), which is not compared in that event by the model's choice (log entry 47); without a driven direction, and in TIMED mode, edges are discarded. A single leaf arrives at its target count
(R143) and probes at an end (R144, R145). That a back-off held to 1000 arrives there by count without probing is the model's choice
(log entry 19), as is that a closing run with run target 1000, a fire attempt of a leaf that stands at 1000, arrives there at its
first edge (log entry 44). That contents are compared once, at the event's end, is the model's choice (log entry 10). -/
def Obligations.EdgesMoveTheCount : Prop :=
  ∀ (s : State) (o : Output) (l : Leaf) (line : FeedbackLine), s.phase ≠ .off → s.leafAt o = some l →
    let f := s.feedback.get l
    let stroke := s.cfg.stroke.get l
    (f.mode = .timed ∨ (∀ dir, ¬ drivenIn s l dir) → exec (.feedbackEdge o line) s = .next s.refresh) ∧
    (∀ dir, f.mode = .pulse → drivenIn s l dir →
      Completes (.feedbackEdge o line) s fun t =>
        let g := t.feedback.get l
        let moved (n : Nat) : Nat := match dir with | .opening => min stroke (n + 1) | .closing => n - 1
        (f.lastLine = some line → becomesTimed s t l) ∧
        (f.lastLine ≠ some line → g.mode = .pulse ∧ g.lastLine = some line ∧ g.count = f.count.map moved ∧
          ((t.members.get l).motorOn = true → (t.members.get l).slice = none → g.watchdog = f.watchdog.map fun _ => s.now)) ∧
        g.presence = f.presence ∧ g.drift = f.drift ∧
        (∀ m, m ≠ l → (t.feedback.get m).mode = (s.feedback.get m).mode ∧
          (t.feedback.get m).count = (s.feedback.get m).count) ∧
        (∀ r n, f.lastLine ≠ some line → f.count = some n → s.runOf l = some r → r.members = [l] → r.stage = .running →
          r.kind = .normal → r.direction = dir → (s.members.get l).hold = .driving → (s.members.get l).slice = none →
          let goal := (r.target * stroke + 500) / 1000
          let reaches := match dir with | .opening => goal ≤ moved n | .closing => moved n ≤ goal
          let toEnd := r.backoff = false ∧ r.target = match dir with | .opening => 1000 | .closing => 0
          (reaches → ¬ toEnd → (t.members.get l).motorOn = false ∧ g.watchdog = none ∧ (t.unitOf l).status = .inFlight { r with
            stage := .rundown (s.now + 150) (if r.backoff then .fault .pinch else .clean), timeoutDue := none }) ∧
          (reaches → toEnd →
            (t.members.get l).slice = some ⟨1, s.now + s.cfg.strokeTime l r.speed * 20 / 1000⟩ ∧
            (t.members.get l).motorOn = (s.members.get l).motorOn ∧ g.watchdog = none ∧
            (t.unitOf l).status = .inFlight { r with timeoutDue := none }) ∧
          (¬ reaches → t.unitOf l = s.unitOf l ∧ t.members.get l = s.members.get l)) ∧
        Follows { s with feedback := t.feedback } t ∧
        Reports s { s with units := t.units, members := t.members, feedback := t.feedback } t false)

/-- A count at or past a run's target count in the run direction (R143, R162). -/
def countReaches (s : State) (r : Run) (m : Leaf) (n : Nat) : Prop :=
  let goal := (r.target * s.cfg.stroke.get m + 500) / 1000
  match r.direction with
  | .opening => goal ≤ n
  | .closing => n ≤ goal

/-- By how far the first member of a gang leads in the run direction, in per mille, its count being `n'` and the other's `k`
(R152, R162). -/
def leadAfterEdge (s : State) (r : Run) (l m : Leaf) (n' k : Nat) : Int :=
  let a : Int := ((n' * 1000 / s.cfg.stroke.get l : Nat) : Int)
  let b : Int := ((k * 1000 / s.cfg.stroke.get m : Nat) : Int)
  match r.direction with
  | .opening => a - b
  | .closing => b - a

/-- Gang synchronisation at an edge (R152, R159). A member more than 30 per mille ahead is switched off and held; a held one
within 10 is switched on again, with blanking; else neither member changes. A member whose count reaches the run target arrives
and is held, one held for synchronisation that coasts there too; when both have, the gang passes to RUNDOWN together. A member
that has arrived stays held. At an end the member enters PROBING with its motor on, and the timeout stops where the other is done.
That a member held for synchronisation is switched on there is the model's choice (log entry 36), as is that a back-off held to
1000 arrives there by count without probing, and so ends with PINCH (log entry 19), and that a closing run with run target 1000
arrives there by count (log entry 44). That contents are compared once, at the
event's end, is the model's choice (log entry 10). -/
def Obligations.GangSynchronised : Prop :=
  ∀ (s : State) (o : Output) (l m : Leaf) (line : FeedbackLine) (r : Run) (n k : Nat), s.phase ≠ .off → DriveLawful s →
    s.leafAt o = some l → l ≠ m → s.runOf l = some r → s.runOf m = some r → (r.members = [l, m] ∨ r.members = [m, l]) →
    r.stage = .running → r.kind = .normal →
    (s.feedback.get l).mode = .pulse → (s.feedback.get l).count = some n → (s.feedback.get l).lastLine ≠ some line →
    ((s.feedback.get l).probe = .none ∨ (s.feedback.get l).probe = .requested) →
    (s.feedback.get m).mode = .pulse → (s.feedback.get m).count = some k →
    (s.members.get l).slice = none → (s.members.get m).slice = none →
    ((s.members.get m).hold ≠ .done → ¬ countReaches s r m k) →
    let n' := match r.direction with
      | .opening => min (s.cfg.stroke.get l) (n + 1)
      | .closing => n - 1
    let ahead := leadAfterEdge s r l m n' k
    let a := s.members.get l
    let b := s.members.get m
    let heldOff (x : MemberRecord) : MemberRecord :=
      { x with motorOn := false, hold := .syncHeld, checks := .off, slice := none }
    let onAgain (x : MemberRecord) : MemberRecord :=
      { x with motorOn := true, hold := .driving, switchedOn := s.now, checks := .blanking (s.now + 300) }
    Completes (.feedbackEdge o line) s fun t =>
      let a' := t.members.get l
      let b' := t.members.get m
      let goesOn := (t.unitOf l).status = .inFlight r
      let resumes := b' = if b.hold = .syncHeld ∧ -10 ≤ ahead then onAgain b else b
      (t.feedback.get l).count = some n' ∧
      (¬ countReaches s r l n' →
        (a.hold = .driving → b.hold = .driving → goesOn ∧
          (30 < ahead → a' = heldOff a ∧ b' = b) ∧ (ahead < -30 → a' = a ∧ b' = heldOff b) ∧
          (-30 ≤ ahead → ahead ≤ 30 → a' = a ∧ b' = b)) ∧
        (a.hold = .driving → b.hold = .syncHeld → goesOn ∧ a' = a ∧ resumes) ∧
        (a.hold = .syncHeld → b.hold = .driving → goesOn ∧ b' = b ∧
          (ahead ≤ 10 → a' = onAgain a) ∧ (10 < ahead → a' = a)) ∧
        (a.hold = .driving → b.hold = .done → goesOn ∧ a' = a ∧ b' = b) ∧
        (a.hold = .syncHeld → b.hold = .done → goesOn ∧ b' = b ∧
          (ahead ≤ 10 → a' = onAgain a) ∧ (10 < ahead → a' = a))) ∧
      (a.hold = .done → b.hold ≠ .done → goesOn ∧ a' = a ∧ resumes) ∧
      (countReaches s r l n' → a.hold ≠ .done →
        let toEnd := r.backoff = false ∧ r.target = match r.direction with
          | .opening => 1000
          | .closing => 0
        (¬ toEnd →
          a' = { a with motorOn := false, hold := .done, checks := .off, slice := none } ∧
          (b.hold ≠ .done → goesOn ∧ resumes) ∧
          (b.hold = .done → (t.unitOf l).status = .inFlight { r with
            stage := .rundown (s.now + 150) (if r.backoff then .fault .pinch else .clean), timeoutDue := none })) ∧
        (toEnd →
          let slice : Slice := ⟨1, s.now + s.cfg.strokeTime l r.speed * 20 / 1000⟩
          (a.hold = .driving → a' = { a with slice := some slice }) ∧
          (a.hold = .syncHeld → a' = { onAgain a with slice := some slice }) ∧ resumes ∧
          (b.hold ≠ .done → goesOn) ∧
          (b.hold = .done → (t.unitOf l).status = .inFlight { r with timeoutDue := none }))) ∧
      Follows { s with feedback := t.feedback } t ∧
      Reports s { s with units := t.units, members := t.members, feedback := t.feedback } t false

/-- The pulse watchdog is applied and finds feedback loss or restarts (R161, R163); the timed estimate follows its period (R164),
and a single leaf in TIMED mode arrives when it reaches the run target (R143) and probes at an end (R144, R145). That a back-off
held to 1000 arrives there, and so ends with PINCH, is the model's choice (log entry 19), as is that a closing run with run target
1000 arrives there at the first update (log entry 44), and that the estimate is not compared in the event of the change to TIMED (log
entry 47). That contents are compared once, at the event's end, is the model's choice (log entry 10). -/
def Obligations.WatchdogAndTimedEstimate : Prop :=
  ∀ (s : State) (o : Output) (l : Leaf) (r : Run) (current : Nat), s.phase ≠ .off → s.leafAt o = some l →
    let f := s.feedback.get l
    (driving s o l r → f.mode = .pulse → f.watchdog = none → (s.members.get l).slice = none →
      (s.members.get l).switchedOn + 500 ≤ s.now →
      exec (.watchdogApplied o) s = .next ({ s with
        feedback := s.feedback.set l { f with watchdog := some s.now } } : State).refresh) ∧
    (∀ since, f.watchdog = some since → since + 800 ≤ s.now →
      (1 ≤ current ∧ current < s.cfg.stall.get l → f.mode = .pulse →
        Completes (.pulseWatchdogExpiry o current) s fun t => becomesTimed s t l) ∧
      (¬ (1 ≤ current ∧ current < s.cfg.stall.get l) →
        exec (.pulseWatchdogExpiry o current) s = .next ({ s with
          feedback := s.feedback.set l { f with watchdog := some s.now } } : State).refresh)) ∧
    (∀ p e dir, f.mode = .timed → f.period = some p → f.estimate = some e → drivenIn s l dir →
      Completes (.timedEstimateUpdate o) s fun t =>
        let way := (s.now - p.since) * 1000 / s.cfg.strokeTime l p.speed
        let formed := match dir with | .opening => min 1000 (p.base + way) | .closing => p.base - way
        (t.feedback.get l).estimate = some formed ∧ (t.feedback.get l).mode = .timed ∧
        (∀ r, s.runOf l = some r → r.members = [l] → r.stage = .running → r.kind = .normal → r.direction = dir →
          (s.members.get l).hold = .driving → (s.members.get l).slice = none →
          let reaches := match dir with | .opening => r.target ≤ formed | .closing => formed ≤ r.target
          let toEnd := r.backoff = false ∧ r.target = match dir with | .opening => 1000 | .closing => 0
          (reaches → ¬ toEnd → (t.members.get l).motorOn = false ∧ (t.feedback.get l).period = none ∧
            (t.unitOf l).status = .inFlight { r with
              stage := .rundown (s.now + 150) (if r.backoff then .fault .pinch else .clean), timeoutDue := none }) ∧
          (reaches → toEnd →
            (t.members.get l).slice = some ⟨1, s.now + s.cfg.strokeTime l r.speed * 20 / 1000⟩ ∧
            (t.members.get l).motorOn = (s.members.get l).motorOn ∧
            (t.unitOf l).status = .inFlight { r with timeoutDue := none }) ∧
          (¬ reaches → t.unitOf l = s.unitOf l ∧ t.members.get l = s.members.get l)) ∧
        t.tables = s.tables ∧ MotionOnly { s with feedback := t.feedback } t)

/-- The presence probe (R170): after the settle the closing pulse begins, with a motor-on period in TIMED mode (R164), whose speed the
specification does not name (log entry 21); at its end the output is PRESENT where the current reached 0.1 A and else ABSENT; 6.0 A
ends it PRESENT at once. A unit at rest hands its rest position then (R119, R130): a gang once, when both its probes have ended, which
is the model's choice, as is the position of a gang with both members ABSENT (log entry 28). That contents are compared once, at the event's end, is the model's
choice (log entry 10). -/
def Obligations.PresenceProbeFindsItsLeaf : Prop :=
  ∀ (s : State) (o : Output) (l : Leaf) (due current : Nat), Running s → s.leafAt o = some l →
    let f := s.feedback.get l
    let found (t : State) (p : Presence) : Prop :=
      (t.feedback.get l).presence = p ∧ (t.feedback.get l).probe = .none ∧
      (t.feedback.get l).count = f.count ∧ (t.feedback.get l).mode = f.mode ∧
      (membersBelong s → (s.units.get (s.cfg.leader l)).status = .rest →
        let u := s.cfg.leader l
        let ended := ∀ m ∈ s.cfg.membersOf u, m = l ∨ (s.feedback.get m).presence ≠ .unprobed
        (t.feedback.get l).estimate = formedEstimate s l .closing ∧ (t.feedback.get l).period = none ∧
        (ended → (t.tables.get u).restPosition = t.unitPosition u) ∧
        (¬ ended → (t.tables.get u).restPosition = (s.tables.get u).restPosition)) ∧
      (∀ m, m ≠ l → (t.feedback.get m).presence = (s.feedback.get m).presence) ∧
      (∀ u, (t.units.get u).failureCount = (s.units.get u).failureCount) ∧
      Closes s { s with feedback := t.feedback } t false
    (f.probe = .settle due → due ≤ s.now →
      Completes (.probeSettleEnd o) s fun t =>
        (∃ v, t.feedback.get l = { f with
          probe := .pulse (s.now + 50), lastLine := none, period := periodFrom f s.now v }) ∧
        t.pins.outputs.get o = .driven .closing ∧
        (∀ m, m ≠ l → t.feedback.get m = s.feedback.get m) ∧
        t.units = s.units ∧ t.members = s.members ∧ t.tables = s.tables ∧ MotionOnly s t) ∧
    (f.probe = .pulse due →
      (due ≤ s.now → Completes (.probePulseEnd o current) s fun t =>
        found t (if 1 ≤ current then .present else .absent)) ∧
      (60 ≤ current → Completes (.overcurrent o current) s fun t => found t .present))


/-! ### Chapter 10: supply and field outputs -/

/-- Readings run the four qualification timers (R174, R175); each, when it has run, changes the supply state, with the slot count
(R134, R177). At the entry to LOW every run and every queue entry below FIRE is stopped, one in STARTING or in the queue at once and
to rest, unless the same event hands it a pair at FIRE or BRIGADE; runs and entries at FIRE and BRIGADE go on (R154). That a back-off
already in its last RUNDOWN still ends with PINCH is the model's choice (log entry 43). That a reading of the mains sense alone judges the timers with
the battery voltage last measured, be it before a change of state, is the model's choice (log entry 40). That contents are
compared once, at the event's end, is the model's choice (log entry 10). -/
def Obligations.SupplyReadAndQualified : Prop :=
  ∀ s : State, Running s →
    let x := s.supply
    (∀ (mains : Bool) (battery : Option Nat),
      let level := battery.getD x.battery
      let timer (runs : Prop) [Decidable runs] (since : Option Nat) : Option Nat :=
        if runs then some (since.getD s.now) else none
      exec (.supplyReading mains battery) s = .next ({ s with supply :=
        { state := x.state
          mainsAbsentSince := timer (x.state = .mains ∧ mains = false) x.mainsAbsentSince
          mainsPresentSince := timer (x.state ≠ .mains ∧ mains = true) x.mainsPresentSince
          lowSince := timer (x.state = .battery ∧ level < 210) x.lowSince
          recoverySince := timer (x.state = .low ∧ 225 ≤ level ∧ mains = false) x.recoverySince
          mains := mains
          battery := level } } : State).refresh) ∧
    let changed (c : Instr) (st : SupplyState) : Prop := Completes c s fun t =>
      t.supply = { x with
        state := st
        mainsAbsentSince := none
        mainsPresentSince := if st = .mains then none else x.mainsPresentSince
        lowSince := none
        recoverySince := none } ∧
      t.arbiter.slotCount = (match st with | .mains => 3 | .battery => 2 | .low => 1) ∧
      (st = .low → ∀ u,
        let old := s.units.get u
        let underFire (x : Slot) : Prop := x = .fire ∨ x = .brigade
        let slot := match old.status with
          | .inFlight r => r.slot
          | .rest | .waiting _ => old.pair.slot
        let atRest := (∃ e, old.status = .waiting e) ∨ ∃ r due, old.status = .inFlight r ∧ r.stage = .starting due
        (¬ underFire slot → (atRest → ¬ underFire (t.units.get u).pair.slot) → haltedIn s t u) ∧
        (underFire slot → (t.units.get u).pair = old.pair →
          (∀ r, old.status = .inFlight r → (t.units.get u).status = .inFlight r) ∧
          (∀ e, old.status = .waiting e → (t.units.get u).status = .waiting e ∨
            ∃ r, (t.units.get u).status = .inFlight r ∧ r.stage = .starting (s.now + 50)))) ∧
      Closes s { s with supply := t.supply } t false
    (∀ since, x.state = .mains → x.mainsAbsentSince = some since → since + 1000 ≤ s.now →
      changed .mainsAbsentExpiry .battery) ∧
    (∀ since, x.state ≠ .mains → x.mainsPresentSince = some since → since + 5000 ≤ s.now →
      changed .mainsPresentExpiry .mains) ∧
    (∀ since, x.state = .battery → x.lowSince = some since → since + 2000 ≤ s.now → changed .lowTimerExpiry .low) ∧
    (∀ since, x.state = .low → x.recoverySince = some since → since + 2000 ≤ s.now → changed .recoveryExpiry .battery)

/-- A fault cause stands (R179). -/
def faultStands (s : State) : Prop :=
  (∃ l, (s.detection.loops.get l).state = .opened ∨ (s.detection.loops.get l).state = .shorted) ∨
  s.detection.callPoint.state = .opened ∨ s.detection.callPoint.state = .shorted ∨
  s.detection.key.held = .faultCode ∨ (s.cfg.brigadePanel = true ∧ s.detection.brigade.held = .faultCode) ∨
  (s.cfg.weatherReporter = true ∧
    (s.weather.anemoFault = true ∨ s.weather.vaneFault = true ∨ s.weather.rainFault = true)) ∨
  (∃ l, s.cfg.mapped l = true ∧ (s.motion l = .absent ∨ s.motion l = .outOfService)) ∨
  s.supply.state = .low ∨ s.line.degraded = true ∨ s.peers.isolated = true ∨ (∃ reason, s.line.join = .mute reason) ∨
  s.store.adjusted = true ∨ s.store.defaulted = true

/-- An entry of the confirmation set (R181): an own entry, or one of a FRESH peer of the own smoke zone, under FIRE or
BRIGADE. -/
def inConfirmationSet (s : State) (e : LeafEntry) : Prop :=
  (e.slot = .fire ∨ e.slot = .brigade) ∧
  (e ∈ s.leafEntries ∨ ∃ p ∈ s.peers.records, ∃ c, p.status = .fresh c ∧ c.smokeZone = s.cfg.smokeZone.number ∧ e ∈ c.leaves)

/-- The pins at the end of every command: relays (R178, R179, R181, R182), lamps (R85 to R87), loop power (R70, R77), line
driver (R35), actuator outputs (R130, R137, R170). Before the first start every pin is off (log entry 6); a restart wait forces the
relays alone (log entry 30); a flash is lit first, the RESET lamp's from the refusal, the ALARM lamp's from station time 0 (log
entry 35). These three are the model's choices. -/
def Obligations.OutputsFollowState : Prop :=
  ∀ s : State,
    let p := s.refresh.pins
    (s.phase = .off → p = .allOff) ∧
    (s.phase ≠ .off →
      (p.alarmRelay = true ↔ Running s ∧
        ∃ z, z.isIn s.cfg.answerSet = true ∧ (s.zones.records.get z).state ≠ .clear) ∧
      (p.faultRelay = true ↔ Running s ∧ ¬ faultStands s) ∧
      (p.confirmationRelay = true ↔ Running s ∧
        (∃ z, z.isIn s.cfg.answerSet = true ∧ (s.zones.records.get z).state ≠ .clear) ∧
        (∃ e, inConfirmationSet s e) ∧ ∀ e, inConfirmationSet s e → e.atTarget = true) ∧
      p.alarmLamp = (match s.detection.localState with | .quiet => .dark | .preAlarm => .flashing 500 0 | .alarm => .lit) ∧
      p.faultLamp = (if p.faultRelay then .dark else .lit) ∧
      (p.fireLamp = .lit ↔ ∃ z, z.isIn s.cfg.answerSet = true ∧ (s.zones.records.get z).state ≠ .clear) ∧
      p.resetLamp = (match s.detection.flashSince with
        | some refused => .flashing 250 refused
        | none => if s.detection.loopReset = .none then .dark else .lit) ∧
      (∀ half since k d : Nat, d < half →
        (Lamp.flashing half since).litAt (since + 2 * k * half + d) = true ∧
        (Lamp.flashing half since).litAt (since + (2 * k + 1) * half + d) = false) ∧
      (∀ l, p.loopPower.get l = true ↔ (s.detection.loops.get l).state ≠ .disabled ∧
        ∀ since, s.detection.loopReset ≠ .powerOff since) ∧
      (p.lineDriver = true ↔ ∃ x n, s.line.series = some x ∧ x.phase = .transmitting n) ∧
      (∀ o, s.leafAt o = none → p.outputs.get o = .off) ∧
      ∀ o l, s.leafAt o = some l →
        (∀ due, (s.feedback.get l).probe = .pulse due → p.outputs.get o = .driven .closing) ∧
        (∀ due, (s.feedback.get l).probe = .settle due → p.outputs.get o = .relaySet .closing) ∧
        ((s.feedback.get l).probe = .none ∨ (s.feedback.get l).probe = .requested →
          ∀ d, p.outputs.get o = .driven d ↔ ∃ r, (s.unitOf l).status = .inFlight r ∧ l ∈ r.members ∧ r.stage = .running ∧
            (s.members.get l).motorOn = true ∧ r.direction = d))

/-! ### Chapter 11: settings, service port and starts -/

/-- The port is idle: the station has started and no reply is being sent (R186). -/
def atPort (s : State) : Prop := s.phase = .running ∧ s.port.sending = none

/-- The command is replied to with `r`, and nothing else changes but the outputs formed. -/
def repliesOnly (c : Instr) (s : State) (r : Reply) : Prop :=
  exec c s = .next ({ s with port := ⟨some r, false⟩ } : State).refresh

/-- A leaf number of a service command names this mapped logical leaf. -/
def names (s : State) (n : Nat) (l : Leaf) : Prop := l.number = n ∧ s.cfg.mapped l = true

/-- The commands of the service port. -/
def fromPort : Instr → Bool
  | .restart | .status | .peer _ | .zones | .leaf _ | .wind | .settings | .writeSetting _ _ | .move _ _ | .stopAll
  | .reference _ | .clearCounters | .unknownCommand => true
  | _ => false

/-- What STATUS shows (R187): the line, composer and peer states, the proving time left (R48), FIRE and local detection, the supply with
the times its timers have run (R177), the relays as they stand, every fault cause (R179), the drift events of each enabled output, and
the settings flags. -/
def statusShown (s : State) : StatusData where
  join := s.line.join
  provingLeft := s.line.proving.map fun p => p.due - s.now
  provingCounts := s.line.proving.map fun p => (p.badFrames, p.failedPeriods)
  ownAddress := s.line.ownAddress
  ownSequence := s.composer.ownSequence
  slotFull := s.line.pendingSlot.isSome
  errorCounter := s.line.errorCounter
  goodRun := s.line.goodRun
  degraded := s.line.degraded
  counters := s.line.counters
  isolated := s.peers.isolated
  fire := Zone.all.any fun z => z.isIn s.cfg.answerSet && decide ((s.zones.records.get z).state ≠ .clear)
  localState := s.detection.localState
  loopCurrents := PerLoop.ofFn fun l => (s.detection.loops.get l).current
  loopStates := PerLoop.ofFn fun l => (s.detection.loops.get l).state
  callPoint := s.detection.callPoint.state
  supply := s.supply.state
  mains := s.supply.mains
  battery := s.supply.battery
  supplyTimers :=
    { mainsAbsent := s.supply.mainsAbsentSince.map fun since => s.now - since
      mainsPresent := s.supply.mainsPresentSince.map fun since => s.now - since
      low := s.supply.lowSince.map fun since => s.now - since
      recovery := s.supply.recoverySince.map fun since => s.now - since }
  alarmRelay := s.pins.alarmRelay
  faultRelay := s.pins.faultRelay
  confirmation := s.pins.confirmationRelay
  causes :=
    let faulty (st : LoopState) : Bool := st = .opened || st = .shorted
    { loopFault := faulty s.detection.loops.d1.state || faulty s.detection.loops.d2.state
      callPointFault := s.detection.callPoint.state = .opened || s.detection.callPoint.state = .shorted
      keyFault := s.detection.key.held = .faultCode
      brigadeFault := s.cfg.brigadePanel && decide (s.detection.brigade.held = .faultCode)
      anemoFault := s.cfg.weatherReporter && s.weather.anemoFault
      vaneFault := s.cfg.weatherReporter && s.weather.vaneFault
      rainFault := s.cfg.weatherReporter && s.weather.rainFault
      leafFault := N4.all.any fun l => s.cfg.mapped l && decide (s.motion l = .absent ∨ s.motion l = .outOfService)
      supplyLow := s.supply.state = .low
      lineDegraded := s.line.degraded
      isolated := s.peers.isolated
      mute := match s.line.join with
        | .mute _ => true
        | .listen | .running => false
      adjusted := s.store.adjusted
      defaulted := s.store.defaulted }
  drift := Four.ofFn fun o => (s.leafAt o).map fun l => (s.feedback.get l).drift
  settingsPending := s.store.settingsPending
  adjusted := s.store.adjusted
  defaulted := s.store.defaulted

/-- What LEAF and WIND show of a side record (R107): facing, the class computed now, the applied class, and the pending class with the
time it has been held. -/
def sideShown (s : State) (u : Leaf) : SideData where
  leaf := u
  facing := s.cfg.facing.get u
  computed := computedClass s.weather.governing (s.cfg.facing.get u)
  applied := (s.weather.sides.get u).applied
  pendingClass := (s.weather.sides.get u).pendingClass.map fun p => (p.1, s.now - p.2)

/-- What LEAF shows of a leaf and the table that serves it (R126, R157, R173). -/
def leafShown (s : State) (l : Leaf) : LeafData :=
  let u := s.cfg.leader l
  { leaf := l
    tableLeader := u
    view := ⟨s.motion l, (s.position l).isSome, s.position l, s.atTarget l⟩
    unitRecord := s.units.get u
    member := s.members.get l
    retryLeft := (s.units.get u).retryHold.map fun h => h.since + h.period - s.now
    queuePlace := s.startQueue.idxOf? u
    slotCount := match s.supply.state with
      | .mains => 3
      | .battery => 2
      | .low => 1
    slotsHeld := s.slotsHeld
    feedback := s.feedback.get l
    watchdogRun := (s.feedback.get l).watchdog.map fun since => s.now - since
    periodRun := (s.feedback.get l).period.map fun p => s.now - p.since
    slots := s.slotsOf u
    serviceTarget := (s.tables.get u).serviceTarget
    restPosition := (s.tables.get u).restPosition
    comfortRecord := if s.cfg.comfortSource = 0 ∨ s.cfg.comfortSource = s.line.ownAddress then none
      else (s.peers.find? s.cfg.comfortSource).map fun p => match p.status with
        | .absent => .absent
        | .fresh _ => .fresh
        | .lost _ => .lost
    lastPair := (s.units.get u).pair
    side := sideShown s u }

/-- What WIND shows of a reporter alone (R107), with this reported sector, and this weather offered. -/
def reporterShown (s : State) (sector : Option Nat) (offered : Bool) : ReporterData where
  speedWindow := s.weather.speedWindow
  sectorWindow := s.weather.sectorWindow
  reportedSpeed := if s.weather.speedWindow = [] then none
    else some (s.weather.speedWindow.sum / s.weather.speedWindow.length)
  reportedSector := sector
  rainState := s.weather.rainState
  dryOffRun := s.weather.dryOffSince.map fun since => s.now - since
  anemoFault := s.weather.anemoFault
  vaneFault := s.weather.vaneFault
  rainFault := s.weather.rainFault
  offered := offered

/-- What WIND shows (R107): the governing results, the storm guard with its clear limit and the time its clear hold has run, the
reporter's part, and the side record of each single leaf or gang. -/
def windShown (s : State) (reporter : Option ReporterData) : WindData where
  governing := s.weather.governing
  calm := match s.weather.governing with
    | some g => decide (g.speed < 15)
    | none => false
  basis := s.weather.basis
  governingRain := s.weather.governingRain
  stormActive := s.weather.stormActive
  clearLimit := s.cfg.stormThreshold - 20
  clearRun := s.weather.clearSince.map fun since => s.now - since
  reporter := reporter
  sides := (N4.all.filter fun u => s.cfg.isUnit u).map (sideShown s)

/-- The commands that read (R187), with what they show of moments (R48, R69, R177) and of derived conditions; a line that is no
command; and the commands discarded while a reply is sent or a restart wait runs (R186, R192). That commands come decided and replies
are the data they carry is the model's choice (log entry 11). -/
def Obligations.ServiceReadsReplyAndChangeNothing : Prop :=
  ∀ s : State,
    (atPort s →
      repliesOnly .status s (.ok (.status (statusShown s))) ∧
      (∀ n p, s.peers.find? n = some p → repliesOnly (.peer n) s (.ok (.peer (s.peerData p.status)))) ∧
      s.peerData .absent = ⟨.absent, none, none, none⟩ ∧
      (∀ c, s.peerData (.fresh c) = ⟨.fresh, some c, some (s.now - c.lastHeard), c.weather.map fun w => s.now - w.updated⟩ ∧
        s.peerData (.lost c) = ⟨.lost, some c, some (s.now - c.lastHeard), c.weather.map fun w => s.now - w.updated⟩) ∧
      (∀ n, (∀ p ∈ s.peers.records, p.address ≠ n) → repliesOnly (.peer n) s (.refused .badValue)) ∧
      repliesOnly .zones s (.ok (.zones ⟨s.zones.records, s.zones.ownOverride, s.zones.remembered, s.zones.brigade⟩)) ∧
      (∀ n l, names s n l → repliesOnly (.leaf n) s (.ok (.leaf (leafShown s l)))) ∧
      (∀ n, (∀ l, ¬ names s n l) → repliesOnly (.leaf n) s (.refused .badLeaf)) ∧
      (s.cfg.weatherReporter = false → repliesOnly .wind s (.ok (.wind (windShown s none)))) ∧
      (s.cfg.weatherReporter = true → ∃ sector offered,
        repliesOnly .wind s (.ok (.wind (windShown s (some (reporterShown s sector offered))))) ∧
        (s.weather.sectorWindow = [] → sector = none) ∧
        (s.weather.sectorWindow ≠ [] → ∃ d, sector = some d ∧ reportsSector s.weather.sectorWindow d) ∧
        (offered = true ↔ offersWeather s)) ∧
      repliesOnly .settings s (.ok (.settings s.store.stored s.store.inForce)) ∧
      repliesOnly .unknownCommand s (.refused .badValue)) ∧
    (s.port.sending ≠ none ∨ s.phase = .restartWait → s.phase ≠ .off → ∀ c, fromPort c = true → exec c s = .next s.refresh)

/-- The range of a setting's value (R183), in the units it is stored in. -/
def settingLimits : SettingName → Option (Nat × Nat)
  | .smokeZone => some (1, 8)
  | .answerSet | .brigadeZones => some (0, 255)
  | .resetRight | .brigadePanel | .weatherReporter | .bmEnable | .loopDisable _ | .gangPairs _ => some (0, 1)
  | .anemoK => some (1, 100)
  | .stormThreshold => some (80, 250)
  | .comfortSource => some (0, 32)
  | .fireOpening => some (500, 1000)
  | .unknownWindOpening => some (0, 1000)
  | .rainGap => some (0, 200)
  | .confirmTime => some (30, 300)
  | .debounce => some (1, 10)
  | .outputMap _ => some (0, 4)
  | .facing _ => some (0, 15)
  | .stroke _ => some (200, 20000)
  | .fullTime _ => some (10, 300)
  | .quietTime _ => some (20, 600)
  | .stall _ => some (5, 50)
  | .pinch _ => some (3, 48)
  | .unknown => none

/-- The index a name carries lies in its own range (R188). -/
def settingIndexed : SettingName → Bool
  | .loopDisable i | .gangPairs i => 1 ≤ i && i ≤ 2
  | .outputMap i | .facing i | .stroke i | .fullTime i | .quietTime i | .stall i | .pinch i => 1 ≤ i && i ≤ 4
  | _ => true

/-- The element of a per-leaf or per-output field with this number. -/
def element {α : Type} (x : Four α) (i : Nat) : Option α :=
  match i with
  | 1 => some x.f1
  | 2 => some x.f2
  | 3 => some x.f3
  | 4 => some x.f4
  | _ => none

/-- The value stored under a name. -/
def storedValue (x : StoredSettings) : SettingName → Option Nat
  | .smokeZone => some x.smokeZone.toNat
  | .answerSet => some x.answerSet.toNat
  | .resetRight => some x.resetRight.toNat
  | .brigadePanel => some x.brigadePanel.toNat
  | .brigadeZones => some x.brigadeZones.toNat
  | .weatherReporter => some x.weatherReporter.toNat
  | .anemoK => some x.anemoK.toNat
  | .stormThreshold => some x.stormThreshold.toNat
  | .comfortSource => some x.comfortSource.toNat
  | .bmEnable => some x.bmEnable.toNat
  | .fireOpening => some x.fireOpening.toNat
  | .unknownWindOpening => some x.unknownWindOpening.toNat
  | .rainGap => some x.rainGap.toNat
  | .confirmTime => some x.confirmTime.toNat
  | .debounce => some x.debounce.toNat
  | .loopDisable i => if i = 1 then some x.loopDisable.d1.toNat else if i = 2 then some x.loopDisable.d2.toNat else none
  | .outputMap i => (element x.outputMap i).map BitVec.toNat
  | .gangPairs i => if i = 1 then some x.gangPair12.toNat else if i = 2 then some x.gangPair34.toNat else none
  | .facing i => (element x.facing i).map BitVec.toNat
  | .stroke i => (element x.stroke i).map BitVec.toNat
  | .fullTime i => (element x.fullTime i).map BitVec.toNat
  | .quietTime i => (element x.quietTime i).map BitVec.toNat
  | .stall i => (element x.stall i).map BitVec.toNat
  | .pinch i => (element x.pinch i).map BitVec.toNat
  | .unknown => none

/-- The commands that act (R188 to R190, R192): when each is refused, for which reason, and what it does when accepted. That
contents are compared once, at the event's end, is the model's choice (log entry 10). -/
def Obligations.ServiceCommandsAct : Prop :=
  ∀ s : State, atPort s →
    (∀ (name : SettingName) (v : Int),
      let within := ∃ lo hi, settingLimits name = some (lo, hi) ∧ (lo : Int) ≤ v ∧ v ≤ (hi : Int)
      (settingIndexed name = false → repliesOnly (.writeSetting name v) s (.refused .badLeaf)) ∧
      (settingIndexed name = true → ¬ within → repliesOnly (.writeSetting name v) s (.refused .badValue)) ∧
      (settingIndexed name = true → within → Completes (.writeSetting name v) s fun t =>
        storedValue t.store.stored name = some v.toNat ∧
        (∀ other, other ≠ name → storedValue t.store.stored other = storedValue s.store.stored other) ∧
        t = ({ s with
          store := { s.store with
            stored := t.store.stored, checkWord := t.store.stored.check, settingsPending := true }
          port := ⟨some (.ok .none), false⟩ } : State).refresh)) ∧
    exec .clearCounters s = .next ({ s with
      line := { s.line with counters := ⟨0, 0, 0, 0, 0⟩ }
      feedback := s.feedback.map fun f => { f with drift := 0 }
      port := ⟨some (.ok .none), false⟩ } : State).refresh ∧
    exec .restart s = .next ({ s with port := ⟨some (.ok .none), true⟩ } : State).refresh ∧
    (s.key ≠ .service → ∀ (n : Nat) (v : Int),
      repliesOnly (.move n v) s (.refused .notInService) ∧ repliesOnly .stopAll s (.refused .notInService) ∧
      repliesOnly (.reference n) s (.refused .notInService)) ∧
    (s.key = .service →
      (∀ (n : Nat) (v : Int), (∀ l, ¬ names s n l) →
        repliesOnly (.move n v) s (.refused .badLeaf) ∧ repliesOnly (.reference n) s (.refused .badLeaf)) ∧
      Completes .stopAll s (fun t =>
        (∀ u, (t.tables.get u).serviceTarget =
          if s.cfg.isUnit u then s.unitPosition u else (s.tables.get u).serviceTarget) ∧
        Closes s { s with
          tables := t.tables
          detection := { s.detection with direction := .none }
          port := ⟨some (.ok .none), false⟩ } t false) ∧
      ∀ (n : Nat) (l : Leaf), names s n l →
        let u := s.cfg.leader l
        (∀ v : Int, ¬ (0 ≤ v ∧ v ≤ 1000) → repliesOnly (.move n v) s (.refused .badValue)) ∧
        (∀ v : Int, 0 ≤ v → v ≤ 1000 → Completes (.move n v) s fun t =>
          (t.tables.get u).serviceTarget = some v.toNat ∧
          (∀ w, w ≠ u → (t.tables.get w).serviceTarget = (s.tables.get w).serviceTarget) ∧
          Closes s { s with
            tables := t.tables
            detection := { s.detection with direction := .none }
            port := ⟨some (.ok .none), false⟩ } t false) ∧
        let fire := ∃ z, z.isIn s.cfg.answerSet = true ∧ (s.zones.records.get z).state ≠ .clear
        let busy := (s.units.get u).status ≠ .rest ∨ ∃ m ∈ s.cfg.membersOf u,
          (∃ due, (s.feedback.get m).probe = .settle due) ∨ ∃ due, (s.feedback.get m).probe = .pulse due
        (fire → repliesOnly (.reference n) s (.refused .fireActive)) ∧
        (¬ fire → busy → repliesOnly (.reference n) s (.refused .busy)) ∧
        (¬ fire → ¬ busy → Completes (.reference n) s fun t =>
          let x := t.units.get u
          x.failureCount = 0 ∧ x.lastFault = (s.units.get u).lastFault ∧ x.lastRunFailed = false ∧ x.retryHold = none ∧
          (x.pair.slot ≠ .fire → x.pair.slot ≠ .brigade → x.referenceOwed = true) ∧
          (t.tables.get u).restPosition = none ∧
          (∀ m, let f := t.feedback.get m
            if m ∈ s.cfg.membersOf u
            then f.presence = .unprobed ∧ f.mode = .pulse ∧ f.count = none ∧ f.estimate = none ∧ f.probe ≠ .none ∧
              f.drift = (s.feedback.get m).drift
            else f.presence = (s.feedback.get m).presence ∧ f.mode = (s.feedback.get m).mode ∧
              f.count = (s.feedback.get m).count ∧ f.drift = (s.feedback.get m).drift) ∧
          (∀ w, w ≠ u → (t.units.get w).failureCount = (s.units.get w).failureCount ∧
            (t.units.get w).lastFault = (s.units.get w).lastFault) ∧
          Closes s { s with units := t.units, feedback := t.feedback, port := ⟨some (.ok .none), false⟩ } t false))

/-- The stored value lies in its range or at the nearer limit of it. -/
def heldTo (lo hi n : Nat) : Nat := if n < lo then lo else if hi < n then hi else n

/-- No stored value is outside its range, and no cross-field rule changes one (R183, R185). -/
def settingsSound (own : Nat) (x : StoredSettings) : Prop :=
  (∀ name v, storedValue x name = some v → ∃ lo hi, settingLimits name = some (lo, hi) ∧ lo ≤ v ∧ v ≤ hi) ∧
  (∀ l, (x.pinch.get l).toNat < (x.stall.get l).toNat) ∧
  (∀ z : Zone, z.number = x.smokeZone.toNat → z.isIn x.answerSet = true) ∧
  (x.comfortSource.toNat ≠ 0 → x.comfortSource.toNat = own → x.bmEnable = 1#8) ∧
  (∀ o p, o ≠ p → x.outputMap.get o = x.outputMap.get p → x.outputMap.get o = 0#8) ∧
  (x.gangPair12 = 1#8 → (∃ o, x.outputMap.get o = 1#8) ∧ (∃ o, x.outputMap.get o = 2#8) ∧ x.facing.f1 = x.facing.f2) ∧
  (x.gangPair34 = 1#8 → (∃ o, x.outputMap.get o = 3#8) ∧ (∃ o, x.outputMap.get o = 4#8) ∧ x.facing.f3 = x.facing.f4)

/-- The settings check of a start (R184): defaults on a check word that differs; else the stored values, clamped and adjusted
(R185), with SETTINGS_ADJUSTED where that changes one. -/
def Obligations.SettingsCheckedAtStart : Prop :=
  ∀ (own : Nat) (x : SettingsStore),
    let y := x.atStart own
    let v := x.stored
    let c := y.inForce
    y.settingsPending = false ∧
    (v.check ≠ x.checkWord →
      y = ⟨.defaults, StoredSettings.defaults.check, .defaults, false, false, true⟩) ∧
    (v.check = x.checkWord →
      y.stored = v ∧ y.checkWord = x.checkWord ∧ y.defaulted = false ∧ (y.adjusted = false ↔ settingsSound own v) ∧
      c.smokeZone.number = heldTo 1 8 v.smokeZone.toNat ∧
      (∀ z, z.isIn c.answerSet = true ↔ z.isIn v.answerSet = true ∨ z = c.smokeZone) ∧
      (c.resetRight = true ↔ v.resetRight ≠ 0#8) ∧ (c.brigadePanel = true ↔ v.brigadePanel ≠ 0#8) ∧
      c.brigadeZones = v.brigadeZones ∧ (c.weatherReporter = true ↔ v.weatherReporter ≠ 0#8) ∧
      c.anemoK = heldTo 1 100 v.anemoK.toNat ∧ c.stormThreshold = heldTo 80 250 v.stormThreshold.toNat ∧
      (c.bmEnable = true ↔ v.bmEnable ≠ 0#8) ∧
      c.comfortSource = (if heldTo 0 32 v.comfortSource.toNat = own ∧ c.bmEnable = false then 0
        else heldTo 0 32 v.comfortSource.toNat) ∧
      c.fireOpening = heldTo 500 1000 v.fireOpening.toNat ∧
      c.unknownWindOpening = heldTo 0 1000 v.unknownWindOpening.toNat ∧ c.rainGap = heldTo 0 200 v.rainGap.toNat ∧
      c.confirmTime = heldTo 30 300 v.confirmTime.toNat ∧ c.debounce = heldTo 1 10 v.debounce.toNat ∧
      (∀ l, c.loopDisable.get l = true ↔ v.loopDisable.get l ≠ 0#8) ∧
      (∀ o l, c.outputMap.get o = some l ↔ heldTo 0 4 (v.outputMap.get o).toNat = l.number ∧
        ∀ p : Output, p.number < o.number → heldTo 0 4 (v.outputMap.get p).toNat ≠ l.number) ∧
      (c.gang12 = true ↔ v.gangPair12 ≠ 0#8 ∧ c.mapped .n1 = true ∧ c.mapped .n2 = true ∧ c.facing.f1 = c.facing.f2) ∧
      (c.gang34 = true ↔ v.gangPair34 ≠ 0#8 ∧ c.mapped .n3 = true ∧ c.mapped .n4 = true ∧ c.facing.f3 = c.facing.f4) ∧
      ∀ l, c.facing.get l = heldTo 0 15 (v.facing.get l).toNat ∧ c.stroke.get l = heldTo 200 20000 (v.stroke.get l).toNat ∧
        c.fullTime.get l = heldTo 10 300 (v.fullTime.get l).toNat ∧
        c.quietTime.get l = heldTo 20 600 (v.quietTime.get l).toNat ∧
        c.stall.get l = heldTo 5 50 (v.stall.get l).toNat ∧
        c.pinch.get l = (if c.stall.get l ≤ heldTo 3 48 (v.pinch.get l).toNat then c.stall.get l - 2
          else heldTo 3 48 (v.pinch.get l).toNat))

/-- The weather unit right after a start: windows empty, everything UNKNOWN or UNDECIDED with the storm guard ACTIVE, and on a
reporter the first reading of the rain contact taken (R88, R95, R99, R101, R104). -/
def weatherAfterStart (now : Nat) (reporter : Bool) (rain : RainReading) : Weather where
  windowStart := now
  windowCount := 0
  windowOpen := false
  speedWindow := []
  sectorWindow := []
  anemoFault := false
  vaneFault := false
  rainState := if reporter = true ∧ rain = .wet then .wet else .unknown
  dryOffSince := if reporter = true ∧ rain = .dry then some now else none
  rainFault := decide (reporter = true ∧ rain = .circuitOpen)
  governing := none
  basis := .none
  governingRain := .unknown
  stormActive := true
  clearSince := none
  sides := Four.const ⟨.undecided, none⟩

/-- The detection unit right after a start: the key and, with the BM input enabled, its held step are read; the rest is at its start
value (R71, R73, R79, R80, R84). -/
def detectionAfterStart (c : Settings) (i : StartInputs) : Detection where
  loops := PerLoop.ofFn fun l => ⟨if c.loopDisable.get l then .disabled else .normal, none, 0, .cleared, none⟩
  callPoint := ⟨.normal, none, 0⟩
  localState := .quiet
  loopReset := .none
  key := ⟨match i.keyService, i.keyLockout with
    | false, false => .auto
    | true, false => .service
    | false, true => .lockout
    | true, true => .faultCode, none⟩
  brigade := ⟨.auto, none⟩
  firstReading := false
  openButton := ⟨false, none⟩
  closeButton := ⟨false, none⟩
  zoneResetKey := ⟨false, none⟩
  direction := .none
  heldStep := if c.bmEnable then some (bmStep i.bm) else none
  flashSince := none

/-- The station right after a start with these inputs (R191), but for what a leaf record keeps: its count, failure count, last fault
and last-run-failed. -/
def afterStart (s : State) (i : StartInputs) (t : State) : Prop :=
  let own := 10 * i.tens + i.units
  let valid := 1 ≤ own ∧ own ≤ 32
  t.phase = .running ∧ t.now = s.now ∧ t.pending = s.pending ∧ t.draws = s.draws ∧ t.store = s.store.atStart own ∧
  t.zones = ⟨PerZone.ofFn fun _ => ⟨.clear, 0#8, .none⟩, none, 0, none⟩ ∧
  t.peers = ⟨(recordAddresses own).map (fun a => ⟨a, .absent⟩), false, if valid then none else some s.now⟩ ∧
  t.composer = ⟨none, 255#8, none, none⟩ ∧
  t.line = {
    ownAddress := own
    join := if valid then .listen else .mute .addressInvalid
    proving := if valid then some ⟨s.now + 6000, 0, 0⟩ else none
    series := none
    receiver := .hunting
    rxBytes := []
    busy := true
    lastByte := s.now
    errorCounter := 0
    goodRun := 0
    degraded := false
    counters := ⟨0, 0, 0, 0, 0⟩
    pendingSlot := none } ∧
  t.supply = ⟨if i.mains then .mains else if i.battery < 210 then .low else .battery, none, none, none, none,
    i.mains, i.battery⟩ ∧
  t.detection = detectionAfterStart t.cfg i ∧
  t.weather = weatherAfterStart s.now t.cfg.weatherReporter i.rain ∧
  t.port = ⟨none, false⟩ ∧ t.pins.alarmRelay = false ∧ t.pins.confirmationRelay = false ∧
  (t.pins.faultRelay = true ↔ ¬ faultStands t) ∧
  (∀ u, t.tables.get u = ⟨none, if t.cfg.isUnit u then t.unitPosition u else none⟩ ∧
    t.units.get u = {
      pair := if t.cfg.isUnit u then t.resultOf u else ⟨none, .none⟩
      status := .rest
      lastDirection := none
      failureCount := (t.units.get u).failureCount
      lastFault := (t.units.get u).lastFault
      lastRunFailed := (t.units.get u).lastRunFailed
      retryHold := none
      fireOwed := false
      referenceOwed := false
      reversal := none } ∧
    t.members.get u = ⟨false, .driving, 0, .off, none, false⟩) ∧
  (∀ l, let f := t.feedback.get l
    f = ⟨.unprobed, .pulse, f.count, none, none, none, none, 0, f.probe⟩ ∧
    (f.probe = .none ↔ t.cfg.mapped l = false) ∧ (∀ due, f.probe = .settle due → due = s.now + 50) ∧
    ∀ due, f.probe ≠ .pulse due) ∧
  (∀ l, t.cfg.mapped l = true → t.motion l = .unref) ∧ t.refresh = t

/-- A power-on start from any state (R191); the end of a reply, which begins the restart wait of an accepted RESTART; the start at
the wait's end, with the leaf records it keeps (R192). That each member of a gang keeps by its own conditions and takes the gang's
failure count, last fault and last-run-failed is the model's choice (log entry 22), as is that a kept position is handed before
the first pairs are formed, which its leaf's table rests on (log entry 42), that an output is shown off through its RUNDOWN (log
entry 30), that a waiting leaf rests when the restart wait begins (log entry 27), and the values of items that a start does not
read: currents 0 and contacts released (log entry 8). -/
def Obligations.StartsAndRestarts : Prop :=
  ∀ (s : State) (i : StartInputs),
    (Completes (.powerOnStart i) s fun t => afterStart s i t ∧
      (∀ l, (t.feedback.get l).count = none) ∧
      ∀ u, (t.units.get u).failureCount = 0 ∧ (t.units.get u).lastFault = none ∧ (t.units.get u).lastRunFailed = false) ∧
    (Running s → ∀ r, s.port.sending = some r →
      (s.port.restartPending = false →
        exec .serviceReplySent s = .next ({ s with port := ⟨none, false⟩ } : State).refresh) ∧
      (s.port.restartPending = true → Completes .serviceReplySent s fun t =>
        t.pins.alarmRelay = false ∧ t.pins.faultRelay = false ∧ t.pins.confirmationRelay = false ∧
        t.pins.lineDriver = false ∧ (∀ o, t.pins.outputs.get o = .off) ∧
        (∀ u r, (s.units.get u).status = .inFlight r → r.stage = .running →
          (t.units.get u).status = .inFlight { r with stage := .rundown (s.now + 150) .halted, timeoutDue := none }) ∧
        (∀ u, ((s.units.get u).status = .rest ∨ (∃ e, (s.units.get u).status = .waiting e) ∨
          ∃ r due, (s.units.get u).status = .inFlight r ∧ r.stage = .starting due) → (t.units.get u).status = .rest) ∧
        (∀ l, (t.feedback.get l).probe.inProgress = false) ∧
        MotionOnly { s with phase := .restartWait, line := { s.line with series := none }, port := ⟨none, false⟩ } t)) ∧
    (s.phase = .restartWait →
      ((∃ u r due e, (s.units.get u).status = .inFlight r ∧ r.stage = .rundown due e) →
        exec (.restartStart i) s = .next s.refresh) ∧
      ((∀ u r due e, (s.units.get u).status = .inFlight r → r.stage ≠ .rundown due e) →
        Completes (.restartStart i) s fun t => afterStart s i t ∧
          ∀ l,
            let old := s.feedback.get l
            let kept := old.mode = .pulse ∧ old.count.isSome = true ∧ (∃ o, s.cfg.outputOf l = some o) ∧
              t.cfg.outputOf l = s.cfg.outputOf l ∧ t.cfg.stroke.get l = s.cfg.stroke.get l
            (kept → (t.feedback.get l).count = old.count ∧
              (t.units.get l).failureCount = (s.unitOf l).failureCount ∧
              (t.units.get l).lastFault = (s.unitOf l).lastFault ∧
              (t.units.get l).lastRunFailed = (s.unitOf l).lastRunFailed) ∧
            (¬ kept → (t.feedback.get l).count = none ∧ (t.units.get l).failureCount = 0 ∧
              (t.units.get l).lastFault = none ∧ (t.units.get l).lastRunFailed = false)))

/-- The laws of chapters 1, 3, 4 and 8 hold before the first start; that state's phase and the factory store are the model's choice
(log entries 6 and 7). -/
def Obligations.AllLawsHoldAtReset : Prop :=
  ZonesLawful .reset ∧ LineLawful .reset ∧ PeersLawful .reset ∧ DriveLawful .reset
end

