-- ==== Sys2Proof/Laws/Containers.lean ====
section
/-! SUPPORT. Reading after writing in the small containers: Four, PerZone, PerLoop. -/

namespace Sys2Proof

variable {α : Type}

@[simp] theorem Four.get_set (v : Four α) (i j : N4) (x : α) : (v.set i x).get j = if j = i then x else v.get j := by
  cases i <;> cases j <;> simp [Four.set, Four.get]

@[simp] theorem Four.get_ofFn (f : N4 → α) (i : N4) : (Four.ofFn f).get i = f i := by cases i <;> rfl

@[simp] theorem Four.get_const (x : α) (i : N4) : (Four.const x).get i = x := by cases i <;> rfl

@[simp] theorem Four.get_map {β : Type} (f : α → β) (v : Four α) (i : N4) : (v.map f).get i = f (v.get i) := by
  cases i <;> rfl

theorem Four.ext_get {v w : Four α} (h : ∀ i, v.get i = w.get i) : v = w := by
  cases v; cases w
  have h1 := h .n1; have h2 := h .n2; have h3 := h .n3; have h4 := h .n4
  simp only [Four.get] at h1 h2 h3 h4
  simp [h1, h2, h3, h4]

@[simp] theorem PerZone.get_ofFn (f : Zone → α) (z : Zone) : (PerZone.ofFn f).get z = f z := by cases z <;> rfl

@[simp] theorem PerZone.get_set (v : PerZone α) (y z : Zone) (x : α) :
    (v.set y x).get z = if z = y then x else v.get z := by simp [PerZone.set]

theorem PerZone.ext_get {v w : PerZone α} (h : ∀ z, v.get z = w.get z) : v = w := by
  cases v; cases w
  have h1 := h .z1; have h2 := h .z2; have h3 := h .z3; have h4 := h .z4
  have h5 := h .z5; have h6 := h .z6; have h7 := h .z7; have h8 := h .z8
  simp only [PerZone.get] at h1 h2 h3 h4 h5 h6 h7 h8
  simp [h1, h2, h3, h4, h5, h6, h7, h8]

@[simp] theorem PerLoop.get_set (v : PerLoop α) (k l : Loop) (x : α) :
    (v.set k x).get l = if l = k then x else v.get l := by
  cases k <;> cases l <;> simp [PerLoop.set, PerLoop.get]

@[simp] theorem PerLoop.get_ofFn (f : Loop → α) (l : Loop) : (PerLoop.ofFn f).get l = f l := by cases l <;> rfl

theorem N4.mem_all (i : N4) : i ∈ N4.all := by cases i <;> simp [N4.all]

theorem Zone.mem_all (z : Zone) : z ∈ Zone.all := by cases z <;> simp [Zone.all]

end Sys2Proof
end

