-- ==== Sys2Proof/Laws/State.lean ====
section
/-! SUPPORT. What each field update of State leaves and sets: one lemma a field, so that no proof unfolds a record update. -/

namespace Sys2Proof.Machine

variable (s : State)

@[simp] theorem State.setUnit_now (u : Leaf) (x : UnitRecord) : (s.setUnit u x).now = s.now := rfl
@[simp] theorem State.setUnit_phase (u : Leaf) (x : UnitRecord) : (s.setUnit u x).phase = s.phase := rfl
@[simp] theorem State.setUnit_pending (u : Leaf) (x : UnitRecord) : (s.setUnit u x).pending = s.pending := rfl
@[simp] theorem State.setUnit_draws (u : Leaf) (x : UnitRecord) : (s.setUnit u x).draws = s.draws := rfl
@[simp] theorem State.setUnit_store (u : Leaf) (x : UnitRecord) : (s.setUnit u x).store = s.store := rfl
@[simp] theorem State.setUnit_line (u : Leaf) (x : UnitRecord) : (s.setUnit u x).line = s.line := rfl
@[simp] theorem State.setUnit_composer (u : Leaf) (x : UnitRecord) : (s.setUnit u x).composer = s.composer := rfl
@[simp] theorem State.setUnit_peers (u : Leaf) (x : UnitRecord) : (s.setUnit u x).peers = s.peers := rfl
@[simp] theorem State.setUnit_detection (u : Leaf) (x : UnitRecord) : (s.setUnit u x).detection = s.detection := rfl
@[simp] theorem State.setUnit_zones (u : Leaf) (x : UnitRecord) : (s.setUnit u x).zones = s.zones := rfl
@[simp] theorem State.setUnit_weather (u : Leaf) (x : UnitRecord) : (s.setUnit u x).weather = s.weather := rfl
@[simp] theorem State.setUnit_tables (u : Leaf) (x : UnitRecord) : (s.setUnit u x).tables = s.tables := rfl
@[simp] theorem State.setUnit_members (u : Leaf) (x : UnitRecord) : (s.setUnit u x).members = s.members := rfl
@[simp] theorem State.setUnit_feedback (u : Leaf) (x : UnitRecord) : (s.setUnit u x).feedback = s.feedback := rfl
@[simp] theorem State.setUnit_supply (u : Leaf) (x : UnitRecord) : (s.setUnit u x).supply = s.supply := rfl
@[simp] theorem State.setUnit_port (u : Leaf) (x : UnitRecord) : (s.setUnit u x).port = s.port := rfl
@[simp] theorem State.setUnit_pins (u : Leaf) (x : UnitRecord) : (s.setUnit u x).pins = s.pins := rfl
@[simp] theorem State.setUnit_arbiter (u : Leaf) (x : UnitRecord) : (s.setUnit u x).arbiter = s.arbiter := rfl
@[simp] theorem State.setUnit_views (u : Leaf) (x : UnitRecord) : (s.setUnit u x).views = s.views := rfl

@[simp] theorem State.setMember_now (l : Leaf) (x : MemberRecord) : (s.setMember l x).now = s.now := rfl
@[simp] theorem State.setMember_phase (l : Leaf) (x : MemberRecord) : (s.setMember l x).phase = s.phase := rfl
@[simp] theorem State.setMember_pending (l : Leaf) (x : MemberRecord) : (s.setMember l x).pending = s.pending := rfl
@[simp] theorem State.setMember_draws (l : Leaf) (x : MemberRecord) : (s.setMember l x).draws = s.draws := rfl
@[simp] theorem State.setMember_store (l : Leaf) (x : MemberRecord) : (s.setMember l x).store = s.store := rfl
@[simp] theorem State.setMember_line (l : Leaf) (x : MemberRecord) : (s.setMember l x).line = s.line := rfl
@[simp] theorem State.setMember_composer (l : Leaf) (x : MemberRecord) : (s.setMember l x).composer = s.composer := rfl
@[simp] theorem State.setMember_peers (l : Leaf) (x : MemberRecord) : (s.setMember l x).peers = s.peers := rfl
@[simp] theorem State.setMember_detection (l : Leaf) (x : MemberRecord) : (s.setMember l x).detection = s.detection := rfl
@[simp] theorem State.setMember_zones (l : Leaf) (x : MemberRecord) : (s.setMember l x).zones = s.zones := rfl
@[simp] theorem State.setMember_weather (l : Leaf) (x : MemberRecord) : (s.setMember l x).weather = s.weather := rfl
@[simp] theorem State.setMember_tables (l : Leaf) (x : MemberRecord) : (s.setMember l x).tables = s.tables := rfl
@[simp] theorem State.setMember_units (l : Leaf) (x : MemberRecord) : (s.setMember l x).units = s.units := rfl
@[simp] theorem State.setMember_feedback (l : Leaf) (x : MemberRecord) : (s.setMember l x).feedback = s.feedback := rfl
@[simp] theorem State.setMember_supply (l : Leaf) (x : MemberRecord) : (s.setMember l x).supply = s.supply := rfl
@[simp] theorem State.setMember_port (l : Leaf) (x : MemberRecord) : (s.setMember l x).port = s.port := rfl
@[simp] theorem State.setMember_pins (l : Leaf) (x : MemberRecord) : (s.setMember l x).pins = s.pins := rfl
@[simp] theorem State.setMember_arbiter (l : Leaf) (x : MemberRecord) : (s.setMember l x).arbiter = s.arbiter := rfl
@[simp] theorem State.setMember_views (l : Leaf) (x : MemberRecord) : (s.setMember l x).views = s.views := rfl

@[simp] theorem State.setFeedback_now (l : Leaf) (x : FeedbackRecord) : (s.setFeedback l x).now = s.now := rfl
@[simp] theorem State.setFeedback_phase (l : Leaf) (x : FeedbackRecord) : (s.setFeedback l x).phase = s.phase := rfl
@[simp] theorem State.setFeedback_pending (l : Leaf) (x : FeedbackRecord) : (s.setFeedback l x).pending = s.pending := rfl
@[simp] theorem State.setFeedback_draws (l : Leaf) (x : FeedbackRecord) : (s.setFeedback l x).draws = s.draws := rfl
@[simp] theorem State.setFeedback_store (l : Leaf) (x : FeedbackRecord) : (s.setFeedback l x).store = s.store := rfl
@[simp] theorem State.setFeedback_line (l : Leaf) (x : FeedbackRecord) : (s.setFeedback l x).line = s.line := rfl
@[simp] theorem State.setFeedback_composer (l : Leaf) (x : FeedbackRecord) : (s.setFeedback l x).composer = s.composer := rfl
@[simp] theorem State.setFeedback_peers (l : Leaf) (x : FeedbackRecord) : (s.setFeedback l x).peers = s.peers := rfl
@[simp] theorem State.setFeedback_detection (l : Leaf) (x : FeedbackRecord) : (s.setFeedback l x).detection = s.detection := rfl
@[simp] theorem State.setFeedback_zones (l : Leaf) (x : FeedbackRecord) : (s.setFeedback l x).zones = s.zones := rfl
@[simp] theorem State.setFeedback_weather (l : Leaf) (x : FeedbackRecord) : (s.setFeedback l x).weather = s.weather := rfl
@[simp] theorem State.setFeedback_tables (l : Leaf) (x : FeedbackRecord) : (s.setFeedback l x).tables = s.tables := rfl
@[simp] theorem State.setFeedback_units (l : Leaf) (x : FeedbackRecord) : (s.setFeedback l x).units = s.units := rfl
@[simp] theorem State.setFeedback_members (l : Leaf) (x : FeedbackRecord) : (s.setFeedback l x).members = s.members := rfl
@[simp] theorem State.setFeedback_supply (l : Leaf) (x : FeedbackRecord) : (s.setFeedback l x).supply = s.supply := rfl
@[simp] theorem State.setFeedback_port (l : Leaf) (x : FeedbackRecord) : (s.setFeedback l x).port = s.port := rfl
@[simp] theorem State.setFeedback_pins (l : Leaf) (x : FeedbackRecord) : (s.setFeedback l x).pins = s.pins := rfl
@[simp] theorem State.setFeedback_arbiter (l : Leaf) (x : FeedbackRecord) : (s.setFeedback l x).arbiter = s.arbiter := rfl
@[simp] theorem State.setFeedback_views (l : Leaf) (x : FeedbackRecord) : (s.setFeedback l x).views = s.views := rfl

@[simp] theorem State.setTable_now (u : Leaf) (x : DemandTable) : (s.setTable u x).now = s.now := rfl
@[simp] theorem State.setTable_phase (u : Leaf) (x : DemandTable) : (s.setTable u x).phase = s.phase := rfl
@[simp] theorem State.setTable_pending (u : Leaf) (x : DemandTable) : (s.setTable u x).pending = s.pending := rfl
@[simp] theorem State.setTable_draws (u : Leaf) (x : DemandTable) : (s.setTable u x).draws = s.draws := rfl
@[simp] theorem State.setTable_store (u : Leaf) (x : DemandTable) : (s.setTable u x).store = s.store := rfl
@[simp] theorem State.setTable_line (u : Leaf) (x : DemandTable) : (s.setTable u x).line = s.line := rfl
@[simp] theorem State.setTable_composer (u : Leaf) (x : DemandTable) : (s.setTable u x).composer = s.composer := rfl
@[simp] theorem State.setTable_peers (u : Leaf) (x : DemandTable) : (s.setTable u x).peers = s.peers := rfl
@[simp] theorem State.setTable_detection (u : Leaf) (x : DemandTable) : (s.setTable u x).detection = s.detection := rfl
@[simp] theorem State.setTable_zones (u : Leaf) (x : DemandTable) : (s.setTable u x).zones = s.zones := rfl
@[simp] theorem State.setTable_weather (u : Leaf) (x : DemandTable) : (s.setTable u x).weather = s.weather := rfl
@[simp] theorem State.setTable_units (u : Leaf) (x : DemandTable) : (s.setTable u x).units = s.units := rfl
@[simp] theorem State.setTable_members (u : Leaf) (x : DemandTable) : (s.setTable u x).members = s.members := rfl
@[simp] theorem State.setTable_feedback (u : Leaf) (x : DemandTable) : (s.setTable u x).feedback = s.feedback := rfl
@[simp] theorem State.setTable_supply (u : Leaf) (x : DemandTable) : (s.setTable u x).supply = s.supply := rfl
@[simp] theorem State.setTable_port (u : Leaf) (x : DemandTable) : (s.setTable u x).port = s.port := rfl
@[simp] theorem State.setTable_pins (u : Leaf) (x : DemandTable) : (s.setTable u x).pins = s.pins := rfl
@[simp] theorem State.setTable_arbiter (u : Leaf) (x : DemandTable) : (s.setTable u x).arbiter = s.arbiter := rfl
@[simp] theorem State.setTable_views (u : Leaf) (x : DemandTable) : (s.setTable u x).views = s.views := rfl

@[simp] theorem State.setDetection_now (x : Detection) : (s.setDetection x).now = s.now := rfl
@[simp] theorem State.setDetection_phase (x : Detection) : (s.setDetection x).phase = s.phase := rfl
@[simp] theorem State.setDetection_pending (x : Detection) : (s.setDetection x).pending = s.pending := rfl
@[simp] theorem State.setDetection_draws (x : Detection) : (s.setDetection x).draws = s.draws := rfl
@[simp] theorem State.setDetection_store (x : Detection) : (s.setDetection x).store = s.store := rfl
@[simp] theorem State.setDetection_line (x : Detection) : (s.setDetection x).line = s.line := rfl
@[simp] theorem State.setDetection_composer (x : Detection) : (s.setDetection x).composer = s.composer := rfl
@[simp] theorem State.setDetection_peers (x : Detection) : (s.setDetection x).peers = s.peers := rfl
@[simp] theorem State.setDetection_zones (x : Detection) : (s.setDetection x).zones = s.zones := rfl
@[simp] theorem State.setDetection_weather (x : Detection) : (s.setDetection x).weather = s.weather := rfl
@[simp] theorem State.setDetection_tables (x : Detection) : (s.setDetection x).tables = s.tables := rfl
@[simp] theorem State.setDetection_units (x : Detection) : (s.setDetection x).units = s.units := rfl
@[simp] theorem State.setDetection_members (x : Detection) : (s.setDetection x).members = s.members := rfl
@[simp] theorem State.setDetection_feedback (x : Detection) : (s.setDetection x).feedback = s.feedback := rfl
@[simp] theorem State.setDetection_supply (x : Detection) : (s.setDetection x).supply = s.supply := rfl
@[simp] theorem State.setDetection_port (x : Detection) : (s.setDetection x).port = s.port := rfl
@[simp] theorem State.setDetection_pins (x : Detection) : (s.setDetection x).pins = s.pins := rfl
@[simp] theorem State.setDetection_arbiter (x : Detection) : (s.setDetection x).arbiter = s.arbiter := rfl
@[simp] theorem State.setDetection_views (x : Detection) : (s.setDetection x).views = s.views := rfl

@[simp] theorem State.setWeather_now (x : Weather) : (s.setWeather x).now = s.now := rfl
@[simp] theorem State.setWeather_phase (x : Weather) : (s.setWeather x).phase = s.phase := rfl
@[simp] theorem State.setWeather_pending (x : Weather) : (s.setWeather x).pending = s.pending := rfl
@[simp] theorem State.setWeather_draws (x : Weather) : (s.setWeather x).draws = s.draws := rfl
@[simp] theorem State.setWeather_store (x : Weather) : (s.setWeather x).store = s.store := rfl
@[simp] theorem State.setWeather_line (x : Weather) : (s.setWeather x).line = s.line := rfl
@[simp] theorem State.setWeather_composer (x : Weather) : (s.setWeather x).composer = s.composer := rfl
@[simp] theorem State.setWeather_peers (x : Weather) : (s.setWeather x).peers = s.peers := rfl
@[simp] theorem State.setWeather_detection (x : Weather) : (s.setWeather x).detection = s.detection := rfl
@[simp] theorem State.setWeather_zones (x : Weather) : (s.setWeather x).zones = s.zones := rfl
@[simp] theorem State.setWeather_tables (x : Weather) : (s.setWeather x).tables = s.tables := rfl
@[simp] theorem State.setWeather_units (x : Weather) : (s.setWeather x).units = s.units := rfl
@[simp] theorem State.setWeather_members (x : Weather) : (s.setWeather x).members = s.members := rfl
@[simp] theorem State.setWeather_feedback (x : Weather) : (s.setWeather x).feedback = s.feedback := rfl
@[simp] theorem State.setWeather_supply (x : Weather) : (s.setWeather x).supply = s.supply := rfl
@[simp] theorem State.setWeather_port (x : Weather) : (s.setWeather x).port = s.port := rfl
@[simp] theorem State.setWeather_pins (x : Weather) : (s.setWeather x).pins = s.pins := rfl
@[simp] theorem State.setWeather_arbiter (x : Weather) : (s.setWeather x).arbiter = s.arbiter := rfl
@[simp] theorem State.setWeather_views (x : Weather) : (s.setWeather x).views = s.views := rfl

@[simp] theorem State.setLine_now (x : LineInterface) : (s.setLine x).now = s.now := rfl
@[simp] theorem State.setLine_phase (x : LineInterface) : (s.setLine x).phase = s.phase := rfl
@[simp] theorem State.setLine_pending (x : LineInterface) : (s.setLine x).pending = s.pending := rfl
@[simp] theorem State.setLine_draws (x : LineInterface) : (s.setLine x).draws = s.draws := rfl
@[simp] theorem State.setLine_store (x : LineInterface) : (s.setLine x).store = s.store := rfl
@[simp] theorem State.setLine_composer (x : LineInterface) : (s.setLine x).composer = s.composer := rfl
@[simp] theorem State.setLine_peers (x : LineInterface) : (s.setLine x).peers = s.peers := rfl
@[simp] theorem State.setLine_detection (x : LineInterface) : (s.setLine x).detection = s.detection := rfl
@[simp] theorem State.setLine_zones (x : LineInterface) : (s.setLine x).zones = s.zones := rfl
@[simp] theorem State.setLine_weather (x : LineInterface) : (s.setLine x).weather = s.weather := rfl
@[simp] theorem State.setLine_tables (x : LineInterface) : (s.setLine x).tables = s.tables := rfl
@[simp] theorem State.setLine_units (x : LineInterface) : (s.setLine x).units = s.units := rfl
@[simp] theorem State.setLine_members (x : LineInterface) : (s.setLine x).members = s.members := rfl
@[simp] theorem State.setLine_feedback (x : LineInterface) : (s.setLine x).feedback = s.feedback := rfl
@[simp] theorem State.setLine_supply (x : LineInterface) : (s.setLine x).supply = s.supply := rfl
@[simp] theorem State.setLine_port (x : LineInterface) : (s.setLine x).port = s.port := rfl
@[simp] theorem State.setLine_pins (x : LineInterface) : (s.setLine x).pins = s.pins := rfl
@[simp] theorem State.setLine_arbiter (x : LineInterface) : (s.setLine x).arbiter = s.arbiter := rfl
@[simp] theorem State.setLine_views (x : LineInterface) : (s.setLine x).views = s.views := rfl

@[simp] theorem State.setSupply_now (x : Supply) : (s.setSupply x).now = s.now := rfl
@[simp] theorem State.setSupply_phase (x : Supply) : (s.setSupply x).phase = s.phase := rfl
@[simp] theorem State.setSupply_pending (x : Supply) : (s.setSupply x).pending = s.pending := rfl
@[simp] theorem State.setSupply_draws (x : Supply) : (s.setSupply x).draws = s.draws := rfl
@[simp] theorem State.setSupply_store (x : Supply) : (s.setSupply x).store = s.store := rfl
@[simp] theorem State.setSupply_line (x : Supply) : (s.setSupply x).line = s.line := rfl
@[simp] theorem State.setSupply_composer (x : Supply) : (s.setSupply x).composer = s.composer := rfl
@[simp] theorem State.setSupply_peers (x : Supply) : (s.setSupply x).peers = s.peers := rfl
@[simp] theorem State.setSupply_detection (x : Supply) : (s.setSupply x).detection = s.detection := rfl
@[simp] theorem State.setSupply_zones (x : Supply) : (s.setSupply x).zones = s.zones := rfl
@[simp] theorem State.setSupply_weather (x : Supply) : (s.setSupply x).weather = s.weather := rfl
@[simp] theorem State.setSupply_tables (x : Supply) : (s.setSupply x).tables = s.tables := rfl
@[simp] theorem State.setSupply_units (x : Supply) : (s.setSupply x).units = s.units := rfl
@[simp] theorem State.setSupply_members (x : Supply) : (s.setSupply x).members = s.members := rfl
@[simp] theorem State.setSupply_feedback (x : Supply) : (s.setSupply x).feedback = s.feedback := rfl
@[simp] theorem State.setSupply_port (x : Supply) : (s.setSupply x).port = s.port := rfl
@[simp] theorem State.setSupply_pins (x : Supply) : (s.setSupply x).pins = s.pins := rfl
@[simp] theorem State.setSupply_arbiter (x : Supply) : (s.setSupply x).arbiter = s.arbiter := rfl
@[simp] theorem State.setSupply_views (x : Supply) : (s.setSupply x).views = s.views := rfl

@[simp] theorem State.setZones_now (x : PerZone ZoneRecord) : (s.setZones x).now = s.now := rfl
@[simp] theorem State.setZones_phase (x : PerZone ZoneRecord) : (s.setZones x).phase = s.phase := rfl
@[simp] theorem State.setZones_pending (x : PerZone ZoneRecord) : (s.setZones x).pending = s.pending := rfl
@[simp] theorem State.setZones_draws (x : PerZone ZoneRecord) : (s.setZones x).draws = s.draws := rfl
@[simp] theorem State.setZones_store (x : PerZone ZoneRecord) : (s.setZones x).store = s.store := rfl
@[simp] theorem State.setZones_line (x : PerZone ZoneRecord) : (s.setZones x).line = s.line := rfl
@[simp] theorem State.setZones_composer (x : PerZone ZoneRecord) : (s.setZones x).composer = s.composer := rfl
@[simp] theorem State.setZones_peers (x : PerZone ZoneRecord) : (s.setZones x).peers = s.peers := rfl
@[simp] theorem State.setZones_detection (x : PerZone ZoneRecord) : (s.setZones x).detection = s.detection := rfl
@[simp] theorem State.setZones_weather (x : PerZone ZoneRecord) : (s.setZones x).weather = s.weather := rfl
@[simp] theorem State.setZones_tables (x : PerZone ZoneRecord) : (s.setZones x).tables = s.tables := rfl
@[simp] theorem State.setZones_units (x : PerZone ZoneRecord) : (s.setZones x).units = s.units := rfl
@[simp] theorem State.setZones_members (x : PerZone ZoneRecord) : (s.setZones x).members = s.members := rfl
@[simp] theorem State.setZones_feedback (x : PerZone ZoneRecord) : (s.setZones x).feedback = s.feedback := rfl
@[simp] theorem State.setZones_supply (x : PerZone ZoneRecord) : (s.setZones x).supply = s.supply := rfl
@[simp] theorem State.setZones_port (x : PerZone ZoneRecord) : (s.setZones x).port = s.port := rfl
@[simp] theorem State.setZones_pins (x : PerZone ZoneRecord) : (s.setZones x).pins = s.pins := rfl
@[simp] theorem State.setZones_arbiter (x : PerZone ZoneRecord) : (s.setZones x).arbiter = s.arbiter := rfl
@[simp] theorem State.setZones_views (x : PerZone ZoneRecord) : (s.setZones x).views = s.views := rfl

@[simp] theorem State.setStatus_now (u : Leaf) (x : UnitStatus) : (s.setStatus u x).now = s.now := rfl
@[simp] theorem State.setStatus_phase (u : Leaf) (x : UnitStatus) : (s.setStatus u x).phase = s.phase := rfl
@[simp] theorem State.setStatus_pending (u : Leaf) (x : UnitStatus) : (s.setStatus u x).pending = s.pending := rfl
@[simp] theorem State.setStatus_draws (u : Leaf) (x : UnitStatus) : (s.setStatus u x).draws = s.draws := rfl
@[simp] theorem State.setStatus_store (u : Leaf) (x : UnitStatus) : (s.setStatus u x).store = s.store := rfl
@[simp] theorem State.setStatus_line (u : Leaf) (x : UnitStatus) : (s.setStatus u x).line = s.line := rfl
@[simp] theorem State.setStatus_composer (u : Leaf) (x : UnitStatus) : (s.setStatus u x).composer = s.composer := rfl
@[simp] theorem State.setStatus_peers (u : Leaf) (x : UnitStatus) : (s.setStatus u x).peers = s.peers := rfl
@[simp] theorem State.setStatus_detection (u : Leaf) (x : UnitStatus) : (s.setStatus u x).detection = s.detection := rfl
@[simp] theorem State.setStatus_zones (u : Leaf) (x : UnitStatus) : (s.setStatus u x).zones = s.zones := rfl
@[simp] theorem State.setStatus_weather (u : Leaf) (x : UnitStatus) : (s.setStatus u x).weather = s.weather := rfl
@[simp] theorem State.setStatus_tables (u : Leaf) (x : UnitStatus) : (s.setStatus u x).tables = s.tables := rfl
@[simp] theorem State.setStatus_members (u : Leaf) (x : UnitStatus) : (s.setStatus u x).members = s.members := rfl
@[simp] theorem State.setStatus_feedback (u : Leaf) (x : UnitStatus) : (s.setStatus u x).feedback = s.feedback := rfl
@[simp] theorem State.setStatus_supply (u : Leaf) (x : UnitStatus) : (s.setStatus u x).supply = s.supply := rfl
@[simp] theorem State.setStatus_port (u : Leaf) (x : UnitStatus) : (s.setStatus u x).port = s.port := rfl
@[simp] theorem State.setStatus_pins (u : Leaf) (x : UnitStatus) : (s.setStatus u x).pins = s.pins := rfl
@[simp] theorem State.setStatus_arbiter (u : Leaf) (x : UnitStatus) : (s.setStatus u x).arbiter = s.arbiter := rfl
@[simp] theorem State.setStatus_views (u : Leaf) (x : UnitStatus) : (s.setStatus u x).views = s.views := rfl

@[simp] theorem State.setRun_now (u : Leaf) (x : Run) : (s.setRun u x).now = s.now := rfl
@[simp] theorem State.setRun_phase (u : Leaf) (x : Run) : (s.setRun u x).phase = s.phase := rfl
@[simp] theorem State.setRun_pending (u : Leaf) (x : Run) : (s.setRun u x).pending = s.pending := rfl
@[simp] theorem State.setRun_draws (u : Leaf) (x : Run) : (s.setRun u x).draws = s.draws := rfl
@[simp] theorem State.setRun_store (u : Leaf) (x : Run) : (s.setRun u x).store = s.store := rfl
@[simp] theorem State.setRun_line (u : Leaf) (x : Run) : (s.setRun u x).line = s.line := rfl
@[simp] theorem State.setRun_composer (u : Leaf) (x : Run) : (s.setRun u x).composer = s.composer := rfl
@[simp] theorem State.setRun_peers (u : Leaf) (x : Run) : (s.setRun u x).peers = s.peers := rfl
@[simp] theorem State.setRun_detection (u : Leaf) (x : Run) : (s.setRun u x).detection = s.detection := rfl
@[simp] theorem State.setRun_zones (u : Leaf) (x : Run) : (s.setRun u x).zones = s.zones := rfl
@[simp] theorem State.setRun_weather (u : Leaf) (x : Run) : (s.setRun u x).weather = s.weather := rfl
@[simp] theorem State.setRun_tables (u : Leaf) (x : Run) : (s.setRun u x).tables = s.tables := rfl
@[simp] theorem State.setRun_members (u : Leaf) (x : Run) : (s.setRun u x).members = s.members := rfl
@[simp] theorem State.setRun_feedback (u : Leaf) (x : Run) : (s.setRun u x).feedback = s.feedback := rfl
@[simp] theorem State.setRun_supply (u : Leaf) (x : Run) : (s.setRun u x).supply = s.supply := rfl
@[simp] theorem State.setRun_port (u : Leaf) (x : Run) : (s.setRun u x).port = s.port := rfl
@[simp] theorem State.setRun_pins (u : Leaf) (x : Run) : (s.setRun u x).pins = s.pins := rfl
@[simp] theorem State.setRun_arbiter (u : Leaf) (x : Run) : (s.setRun u x).arbiter = s.arbiter := rfl
@[simp] theorem State.setRun_views (u : Leaf) (x : Run) : (s.setRun u x).views = s.views := rfl

@[simp] theorem State.handRest_now (u : Leaf) : (s.handRest u).now = s.now := rfl
@[simp] theorem State.handRest_phase (u : Leaf) : (s.handRest u).phase = s.phase := rfl
@[simp] theorem State.handRest_pending (u : Leaf) : (s.handRest u).pending = s.pending := rfl
@[simp] theorem State.handRest_draws (u : Leaf) : (s.handRest u).draws = s.draws := rfl
@[simp] theorem State.handRest_store (u : Leaf) : (s.handRest u).store = s.store := rfl
@[simp] theorem State.handRest_line (u : Leaf) : (s.handRest u).line = s.line := rfl
@[simp] theorem State.handRest_composer (u : Leaf) : (s.handRest u).composer = s.composer := rfl
@[simp] theorem State.handRest_peers (u : Leaf) : (s.handRest u).peers = s.peers := rfl
@[simp] theorem State.handRest_detection (u : Leaf) : (s.handRest u).detection = s.detection := rfl
@[simp] theorem State.handRest_zones (u : Leaf) : (s.handRest u).zones = s.zones := rfl
@[simp] theorem State.handRest_weather (u : Leaf) : (s.handRest u).weather = s.weather := rfl
@[simp] theorem State.handRest_units (u : Leaf) : (s.handRest u).units = s.units := rfl
@[simp] theorem State.handRest_members (u : Leaf) : (s.handRest u).members = s.members := rfl
@[simp] theorem State.handRest_feedback (u : Leaf) : (s.handRest u).feedback = s.feedback := rfl
@[simp] theorem State.handRest_supply (u : Leaf) : (s.handRest u).supply = s.supply := rfl
@[simp] theorem State.handRest_port (u : Leaf) : (s.handRest u).port = s.port := rfl
@[simp] theorem State.handRest_pins (u : Leaf) : (s.handRest u).pins = s.pins := rfl
@[simp] theorem State.handRest_arbiter (u : Leaf) : (s.handRest u).arbiter = s.arbiter := rfl
@[simp] theorem State.handRest_views (u : Leaf) : (s.handRest u).views = s.views := rfl

@[simp] theorem State.reply_now (r : Reply) : (s.reply r).now = s.now := rfl
@[simp] theorem State.reply_phase (r : Reply) : (s.reply r).phase = s.phase := rfl
@[simp] theorem State.reply_pending (r : Reply) : (s.reply r).pending = s.pending := rfl
@[simp] theorem State.reply_draws (r : Reply) : (s.reply r).draws = s.draws := rfl
@[simp] theorem State.reply_store (r : Reply) : (s.reply r).store = s.store := rfl
@[simp] theorem State.reply_line (r : Reply) : (s.reply r).line = s.line := rfl
@[simp] theorem State.reply_composer (r : Reply) : (s.reply r).composer = s.composer := rfl
@[simp] theorem State.reply_peers (r : Reply) : (s.reply r).peers = s.peers := rfl
@[simp] theorem State.reply_detection (r : Reply) : (s.reply r).detection = s.detection := rfl
@[simp] theorem State.reply_zones (r : Reply) : (s.reply r).zones = s.zones := rfl
@[simp] theorem State.reply_weather (r : Reply) : (s.reply r).weather = s.weather := rfl
@[simp] theorem State.reply_tables (r : Reply) : (s.reply r).tables = s.tables := rfl
@[simp] theorem State.reply_units (r : Reply) : (s.reply r).units = s.units := rfl
@[simp] theorem State.reply_members (r : Reply) : (s.reply r).members = s.members := rfl
@[simp] theorem State.reply_feedback (r : Reply) : (s.reply r).feedback = s.feedback := rfl
@[simp] theorem State.reply_supply (r : Reply) : (s.reply r).supply = s.supply := rfl
@[simp] theorem State.reply_pins (r : Reply) : (s.reply r).pins = s.pins := rfl
@[simp] theorem State.reply_arbiter (r : Reply) : (s.reply r).arbiter = s.arbiter := rfl
@[simp] theorem State.reply_views (r : Reply) : (s.reply r).views = s.views := rfl

@[simp] theorem State.setUnit_units (u : Leaf) (x : UnitRecord) : (s.setUnit u x).units = s.units.set u x := rfl
@[simp] theorem State.setMember_members (l : Leaf) (x : MemberRecord) : (s.setMember l x).members = s.members.set l x := rfl
@[simp] theorem State.setFeedback_feedback (l : Leaf) (x : FeedbackRecord) :
    (s.setFeedback l x).feedback = s.feedback.set l x := rfl
@[simp] theorem State.setTable_tables (u : Leaf) (x : DemandTable) : (s.setTable u x).tables = s.tables.set u x := rfl
@[simp] theorem State.setDetection_detection (x : Detection) : (s.setDetection x).detection = x := rfl
@[simp] theorem State.setWeather_weather (x : Weather) : (s.setWeather x).weather = x := rfl
@[simp] theorem State.setLine_line (x : LineInterface) : (s.setLine x).line = x := rfl
@[simp] theorem State.setSupply_supply (x : Supply) : (s.setSupply x).supply = x := rfl
@[simp] theorem State.setZones_records (x : PerZone ZoneRecord) : (s.setZones x).zones.records = x := rfl
@[simp] theorem State.setZones_ownOverride (x : PerZone ZoneRecord) :
    (s.setZones x).zones.ownOverride = s.zones.ownOverride := rfl
@[simp] theorem State.setZones_remembered (x : PerZone ZoneRecord) :
    (s.setZones x).zones.remembered = s.zones.remembered := rfl
@[simp] theorem State.setZones_brigade (x : PerZone ZoneRecord) : (s.setZones x).zones.brigade = s.zones.brigade := rfl
@[simp] theorem State.setStatus_units (u : Leaf) (x : UnitStatus) :
    (s.setStatus u x).units = s.units.set u { s.units.get u with status := x } := rfl
@[simp] theorem State.setRun_units (u : Leaf) (r : Run) :
    (s.setRun u r).units = s.units.set u { s.units.get u with status := .inFlight r } := rfl
@[simp] theorem State.handRest_tables (u : Leaf) :
    (s.handRest u).tables = s.tables.set u { s.tables.get u with restPosition := s.unitPosition u } := rfl
@[simp] theorem State.reply_port (r : Reply) : (s.reply r).port = ⟨some r, false⟩ := rfl

/-! ### The end of every command -/

@[simp] theorem State.refresh_now : s.refresh.now = s.now := rfl
@[simp] theorem State.refresh_phase : s.refresh.phase = s.phase := rfl
@[simp] theorem State.refresh_pending : s.refresh.pending = s.pending := rfl
@[simp] theorem State.refresh_draws : s.refresh.draws = s.draws := rfl
@[simp] theorem State.refresh_store : s.refresh.store = s.store := rfl
@[simp] theorem State.refresh_line : s.refresh.line = s.line := rfl
@[simp] theorem State.refresh_composer : s.refresh.composer = s.composer := rfl
@[simp] theorem State.refresh_peers : s.refresh.peers = s.peers := rfl
@[simp] theorem State.refresh_detection : s.refresh.detection = s.detection := rfl
@[simp] theorem State.refresh_zones : s.refresh.zones = s.zones := rfl
@[simp] theorem State.refresh_weather : s.refresh.weather = s.weather := rfl
@[simp] theorem State.refresh_tables : s.refresh.tables = s.tables := rfl
@[simp] theorem State.refresh_units : s.refresh.units = s.units := rfl
@[simp] theorem State.refresh_members : s.refresh.members = s.members := rfl
@[simp] theorem State.refresh_feedback : s.refresh.feedback = s.feedback := rfl
@[simp] theorem State.refresh_supply : s.refresh.supply = s.supply := rfl
@[simp] theorem State.refresh_port : s.refresh.port = s.port := rfl
@[simp] theorem State.refresh_pins : s.refresh.pins = s.formPins := rfl
@[simp] theorem State.refresh_arbiter : s.refresh.arbiter = s.formArbiter := rfl
@[simp] theorem State.refresh_views : s.refresh.views = Four.ofFn s.formView := rfl

/-! What is formed does not depend on what was formed before. -/

theorem State.insertEntry_refresh (u : Leaf) (q : List Leaf) : s.refresh.insertEntry u q = s.insertEntry u q := by
  induction q with
  | nil => rfl
  | cons v vs ih =>
    show (if s.queueBefore u v then u :: v :: vs else v :: s.refresh.insertEntry u vs) = _
    rw [ih]; rfl

@[simp] theorem State.startQueue_refresh : s.refresh.startQueue = s.startQueue := by
  have h : s.refresh.insertEntry = s.insertEntry := by
    funext u q; exact State.insertEntry_refresh s u q
  unfold State.startQueue
  simp only [h]
  rfl

@[simp] theorem State.formArbiter_refresh : s.refresh.formArbiter = s.formArbiter := by
  unfold State.formArbiter; rw [State.startQueue_refresh]; rfl

@[simp] theorem State.formPins_refresh : s.refresh.formPins = s.formPins := rfl

@[simp] theorem State.formView_refresh : s.refresh.formView = s.formView := rfl

@[simp] theorem State.refresh_refresh : s.refresh.refresh = s.refresh := by
  have ha := State.formArbiter_refresh s
  have hb := State.formPins_refresh s
  have hc := State.formView_refresh s
  rw [State.refresh, ha, hb, hc]
  rfl

/-- A command taken by a station that has been started. -/
theorem State.act_started {s : State} (h : s.phase ≠ .off) (f : State → State) : s.act f = (f s).refresh := if_neg h

/-- A command taken before the first start (log entry 6). -/
theorem State.act_off {s : State} (h : s.phase = .off) (f : State → State) : s.act f = s := if_pos h

/-- A service command that the port takes. -/
theorem State.service_idle {s : State} (h : s.portIdle = true) (f : State → State) : s.service f = (f s).refresh := by
  have hp : s.phase ≠ .off := by
    intro e
    simp [State.portIdle, e] at h
  simp [State.service, State.act_started hp, h]

/-- A service command that arrives while a reply is being sent is discarded. -/
theorem State.service_busy {s : State} (h : s.phase ≠ .off) (hb : s.portIdle = false) (f : State → State) :
    s.service f = s.refresh := by simp [State.service, State.act_started h, hb]

end Sys2Proof.Machine
end

