-- ==== Sys2Proof/Laws/Drive.lean ====
section
/-! SUPPORT. What the drive controller and the arbiter leave: one relation, kept by each of their operations. Nothing outside
the leaves' records is written, no count, feedback mode, presence or drift, and no set service target. -/

namespace Sys2Proof.Machine

/-- What every operation of the drive controller and the arbiter leaves. -/
structure Driven (s t : State) : Prop where
  now : t.now = s.now
  phase : t.phase = s.phase
  pending : t.pending = s.pending
  draws : t.draws = s.draws
  store : t.store = s.store
  line : t.line = s.line
  composer : t.composer = s.composer
  peers : t.peers = s.peers
  detection : t.detection = s.detection
  zones : t.zones = s.zones
  weather : t.weather = s.weather
  supply : t.supply = s.supply
  port : t.port = s.port
  serviceTarget : ∀ u, (t.tables.get u).serviceTarget = (s.tables.get u).serviceTarget
  presence : ∀ l, (t.feedback.get l).presence = (s.feedback.get l).presence
  mode : ∀ l, (t.feedback.get l).mode = (s.feedback.get l).mode
  count : ∀ l, (t.feedback.get l).count = (s.feedback.get l).count
  drift : ∀ l, (t.feedback.get l).drift = (s.feedback.get l).drift

theorem Driven.refl (s : State) : Driven s s := by constructor <;> first | rfl | (intro; rfl)

theorem Driven.trans {s t u : State} (h : Driven s t) (k : Driven t u) : Driven s u := by
  constructor
  all_goals first
    | exact k.now.trans h.now | exact k.phase.trans h.phase | exact k.pending.trans h.pending
    | exact k.draws.trans h.draws | exact k.store.trans h.store | exact k.line.trans h.line
    | exact k.composer.trans h.composer | exact k.peers.trans h.peers | exact k.detection.trans h.detection
    | exact k.zones.trans h.zones | exact k.weather.trans h.weather | exact k.supply.trans h.supply
    | exact k.port.trans h.port
    | exact fun x => (k.serviceTarget x).trans (h.serviceTarget x)
    | exact fun x => (k.presence x).trans (h.presence x)
    | exact fun x => (k.mode x).trans (h.mode x)
    | exact fun x => (k.count x).trans (h.count x)
    | exact fun x => (k.drift x).trans (h.drift x)

theorem Driven.foldl {α : Type} {f : State → α → State} (hf : ∀ s a, Driven s (f s a)) (l : List α) (s : State) :
    Driven s (l.foldl f s) := by
  induction l generalizing s with
  | nil => exact Driven.refl s
  | cons a l ih => exact (hf s a).trans (ih (f s a))

/-! ### Updates -/

theorem driven_setUnit (s : State) (u : Leaf) (x : UnitRecord) : Driven s (s.setUnit u x) := by
  constructor <;> first | rfl | (intro; rfl)

theorem driven_setStatus (s : State) (u : Leaf) (x : UnitStatus) : Driven s (s.setStatus u x) := driven_setUnit s u _

theorem driven_setRun (s : State) (u : Leaf) (r : Run) : Driven s (s.setRun u r) := driven_setUnit s u _

theorem driven_setMember (s : State) (l : Leaf) (x : MemberRecord) : Driven s (s.setMember l x) := by
  constructor <;> first | rfl | (intro; rfl)

theorem driven_handRest (s : State) (u : Leaf) : Driven s (s.handRest u) := by
  constructor
  case serviceTarget =>
    intro v
    simp only [State.handRest_tables, Four.get_set]
    split
    · next h => subst h; rfl
    · rfl
  all_goals first | rfl | (intro; rfl)

/-- A feedback record's update that leaves presence, mode, count and drift. -/
def SameFeedback (f g : FeedbackRecord) : Prop :=
  g.presence = f.presence ∧ g.mode = f.mode ∧ g.count = f.count ∧ g.drift = f.drift

theorem driven_setFeedback (s : State) (l : Leaf) (x : FeedbackRecord) (h : SameFeedback (s.feedback.get l) x) :
    Driven s (s.setFeedback l x) := by
  obtain ⟨h1, h2, h3, h4⟩ := h
  constructor
  case presence => intro m; simp only [State.setFeedback_feedback, Four.get_set]; split <;> simp_all
  case mode => intro m; simp only [State.setFeedback_feedback, Four.get_set]; split <;> simp_all
  case count => intro m; simp only [State.setFeedback_feedback, Four.get_set]; split <;> simp_all
  case drift => intro m; simp only [State.setFeedback_feedback, Four.get_set]; split <;> simp_all
  all_goals first | rfl | (intro; rfl)

theorem driven_placeAtRest (s : State) (u : Leaf) : Driven s (s.placeAtRest u) :=
  (driven_setStatus s u _).trans (driven_handRest _ u)

/-! ### Motors and periods -/

theorem sameFeedback_formEstimate (f : FeedbackRecord) (now : Nat) (g : Speed → Nat) (d : Dir) :
    SameFeedback f (f.formEstimate now g d) := by
  unfold FeedbackRecord.formEstimate
  split <;> exact ⟨rfl, rfl, rfl, rfl⟩

theorem sameFeedback_beginPeriod (f : FeedbackRecord) (now : Nat) (v : Speed) : SameFeedback f (f.beginPeriod now v) := by
  unfold FeedbackRecord.beginPeriod
  split <;> exact ⟨rfl, rfl, rfl, rfl⟩

theorem driven_formEstimate (s : State) (l : Leaf) : Driven s (s.formEstimate l) :=
  driven_setFeedback s l _ (sameFeedback_formEstimate _ _ _ _)

theorem driven_beginPeriod (s : State) (l : Leaf) (v : Speed) : Driven s (s.beginPeriod l v) :=
  driven_setFeedback s l _ (sameFeedback_beginPeriod _ _ _)

theorem driven_endPeriod (s : State) (l : Leaf) : Driven s (s.endPeriod l) :=
  (driven_formEstimate s l).trans (driven_setFeedback _ l _ (by exact ⟨rfl, rfl, rfl, rfl⟩))

theorem driven_switchOn (s : State) (l : Leaf) (v : Speed) : Driven s (s.switchOn l v) :=
  (driven_setMember s l _).trans (driven_beginPeriod _ l v)

theorem driven_switchOff (s : State) (l : Leaf) : Driven s (s.switchOff l) :=
  ((driven_endPeriod s l).trans (driven_setFeedback _ l _ (by exact ⟨rfl, rfl, rfl, rfl⟩))).trans (driven_setMember _ l _)

theorem driven_grantProbe (s : State) (l : Leaf) : Driven s (s.grantProbe l) :=
  driven_setFeedback s l _ (by exact ⟨rfl, rfl, rfl, rfl⟩)

theorem driven_stopProbe (s : State) (l : Leaf) : Driven s (s.stopProbe l) := by
  unfold State.stopProbe
  split
  · exact (driven_endPeriod s l).trans (driven_setFeedback _ l _ (by exact ⟨rfl, rfl, rfl, rfl⟩))
  · exact Driven.refl s

/-! ### Starting, stopping -/

theorem driven_readyMembers (s : State) (ls : List Leaf) : Driven s (s.readyMembers ls) :=
  Driven.foldl (fun t l => driven_setMember t l _) ls s

theorem driven_startUnit (s : State) (u : Leaf) : Driven s (s.startUnit u) :=
  (driven_setUnit s u _).trans (driven_readyMembers _ _)

theorem driven_enterRunning (s : State) (u : Leaf) (r : Run) : Driven s (s.enterRunning u r) := by
  refine Driven.trans (Driven.foldl (fun t l => ?_) r.members s) (driven_setRun _ u _)
  exact (driven_setFeedback t l _ (by exact ⟨rfl, rfl, rfl, rfl⟩)).trans (driven_switchOn _ l _)

theorem driven_toRundown (s : State) (u : Leaf) (r : Run) (e : Ending) : Driven s (s.toRundown u r e) :=
  (Driven.foldl (fun t l => driven_switchOff t l) r.members s).trans (driven_setRun _ u _)

theorem driven_settleTimeout (s : State) (u : Leaf) (r : Run) : Driven s (s.settleTimeout u r) := by
  unfold State.settleTimeout
  split
  · exact driven_setRun s u _
  · exact Driven.refl s

theorem driven_finishMember (s : State) (u : Leaf) (r : Run) (l : Leaf) : Driven s (s.finishMember u r l) := by
  have h := (driven_switchOff s l).trans
    (driven_setMember _ l { (s.switchOff l).members.get l with hold := .done })
  unfold State.finishMember
  simp only
  split
  · exact h.trans (driven_toRundown _ u r _)
  · exact h.trans (driven_settleTimeout _ u r)

theorem driven_probingMotor (s : State) (r : Run) (l : Leaf) : Driven s (s.probingMotor r l) := by
  unfold State.probingMotor
  split
  · exact driven_switchOn s l r.speed
  · exact Driven.refl s

theorem driven_beginProbing (s : State) (u : Leaf) (r : Run) (l : Leaf) : Driven s (s.beginProbing u r l) :=
  (((driven_probingMotor s r l).trans (driven_setMember _ l _)).trans (driven_setFeedback _ l _ (by exact ⟨rfl, rfl, rfl, rfl⟩))).trans (driven_settleTimeout _ u r)

theorem driven_checkReach (s : State) (l : Leaf) : Driven s (s.checkReach l) := by
  unfold State.checkReach
  dsimp only
  repeat' split
  all_goals first
    | exact Driven.refl s
    | exact driven_beginProbing s _ _ _
    | exact driven_finishMember s _ _ _

theorem driven_holdMember (s : State) (l : Leaf) : Driven s (s.holdMember l) :=
  (driven_switchOff s l).trans (driven_setMember _ l _)

theorem driven_holdLeading (s : State) (l : Leaf) : Driven s (s.holdLeading l) :=
  (driven_holdMember s l).trans (driven_checkReach _ l)

theorem driven_checkReaches (s : State) (ls : List Leaf) : Driven s (s.checkReaches ls) := Driven.foldl driven_checkReach ls s

theorem driven_syncPair (s : State) (r : Run) (a b : Leaf) : Driven s (s.syncPair r a b) := by
  unfold State.syncPair
  split
  · next pa pb _ _ =>
    dsimp only
    generalize lead r.direction pa pb = ahead
    split_ifs
    · exact driven_switchOn s a r.speed
    · exact Driven.refl s
    · exact driven_switchOn s b r.speed
    · exact Driven.refl s
    · exact driven_holdLeading s a
    · exact driven_holdLeading s b
    · exact Driven.refl s
  · exact Driven.refl s

theorem driven_syncGang (s : State) (l : Leaf) : Driven s (s.syncGang l) := by
  unfold State.syncGang
  repeat' split
  all_goals first
    | exact Driven.refl s
    | exact driven_syncPair s _ _ _

theorem driven_moved (s : State) (l : Leaf) : Driven s (s.moved l) := (driven_checkReach s l).trans (driven_syncGang _ l)

/-! ### New pairs -/

theorem driven_changeSpeed (s : State) (r : Run) (v : Speed) : Driven s (s.changeSpeed r v) := by
  unfold State.changeSpeed
  split
  · exact Driven.refl s
  · refine Driven.foldl (fun t l => ?_) r.members s
    split
    · exact (driven_endPeriod t l).trans (driven_beginPeriod _ l v)
    · exact Driven.refl t

theorem driven_continueRun (s : State) (u : Leaf) (r : Run) (p : Pair) (aim : Aim) (b : Bool) :
    Driven s (s.continueRun u r p aim b) := (driven_changeSpeed s r _).trans (driven_setRun _ u _)

theorem driven_resumeHeld (s : State) (r : Run) (target : Nat) : Driven s (s.resumeHeld r target) := by
  refine Driven.foldl (fun t l => ?_) r.members s
  repeat' split
  all_goals first
    | exact Driven.refl t
    | exact driven_switchOn t l _

theorem driven_stopForPair (s : State) (u : Leaf) (r : Run) (p : Pair) (b : Bool) (e : Ending) :
    Driven s (s.stopForPair u r p b e) := (driven_setUnit s u _).trans (driven_toRundown _ u r e)

theorem driven_retarget (s : State) (u : Leaf) (r : Run) (p : Pair) (target : Nat) : Driven s (s.retarget u r p target) := by
  unfold State.retarget
  dsimp only
  split
  · split
    · exact driven_continueRun s u r p _ _
    · exact driven_stopForPair s u r p _ _
  · split
    · exact ((driven_continueRun s u r p _ _).trans (driven_resumeHeld _ _ _)).trans (driven_checkReaches _ _)
    · split
      · exact driven_continueRun s u r p _ _
      · exact driven_stopForPair s u r p _ _

theorem driven_retargetUnref (s : State) (u : Leaf) (r : Run) (p : Pair) (target : Nat) :
    Driven s (s.retargetUnref u r p target) := by
  unfold State.retargetUnref
  split
  · exact driven_continueRun s u r p _ _
  · exact driven_stopForPair s u r p _ _

theorem driven_takeRunning (s : State) (u : Leaf) (r : Run) (p : Pair) : Driven s (s.takeRunning u r p) := by
  unfold State.takeRunning
  repeat' split
  all_goals first
    | exact driven_stopForPair s u r p _ _
    | exact driven_retarget s u r p _
    | exact driven_retargetUnref s u r p _

theorem driven_takeStarting (s : State) (u : Leaf) (r : Run) (p : Pair) : Driven s (s.takeStarting u r p) := by
  unfold State.takeStarting
  dsimp only
  generalize (if (s.units.get u).outOfService then p.slot.fireClass else s.wantsRun u p) = needs
  split
  · exact driven_setUnit s u _
  · exact driven_placeAtRest s u

theorem driven_takePair (s : State) (u : Leaf) (p : Pair) : Driven s (s.takePair u p) := by
  have h := driven_setUnit s u ((s.units.get u).withPair p)
  unfold State.takePair
  simp only
  repeat' split
  all_goals first
    | exact h
    | exact h.trans (driven_placeAtRest _ u)
    | exact h.trans (driven_takeStarting _ u _ p)
    | exact h.trans (driven_takeRunning _ u _ p)

theorem driven_handPair (s : State) (u : Leaf) : Driven s (s.handPair u) := by
  unfold State.handPair
  split
  · exact driven_takePair s u _
  · exact Driven.refl s

theorem driven_handPairs (s : State) : Driven s s.handPairs := Driven.foldl driven_handPair _ s

theorem driven_judge (s : State) (u : Leaf) : Driven s (s.judge u) := by
  unfold State.judge
  split
  · exact driven_setStatus s u _
  · exact Driven.refl s

theorem driven_judgeAll (s : State) : Driven s s.judgeAll := Driven.foldl driven_judge _ s

/-! ### LOCKOUT, LOW, the arbiter -/

theorem driven_halt (s : State) (u : Leaf) : Driven s (s.halt u) := by
  unfold State.halt
  repeat' split
  all_goals first
    | exact Driven.refl s
    | exact driven_placeAtRest s u
    | exact (driven_setUnit s u _).trans (driven_placeAtRest _ u)
    | exact (driven_setUnit s u _).trans (driven_toRundown _ u _ _)
    | exact driven_setRun s u _

theorem driven_haltAll (s : State) : Driven s s.haltAll := Driven.foldl driven_halt _ s

theorem driven_stopProbes (s : State) : Driven s s.stopProbes := Driven.foldl driven_stopProbe _ s

theorem driven_haltBelowFire (s : State) : Driven s s.haltBelowFire := by
  refine Driven.foldl (fun t u => ?_) _ s
  split
  · exact Driven.refl t
  · exact driven_halt t u

theorem driven_preempt (s : State) (u : Leaf) (r : Run) : Driven s (s.preempt u r) := by
  unfold State.preempt
  repeat' split
  all_goals first
    | exact driven_toRundown s u r _
    | exact driven_setStatus s u _
    | exact ((driven_placeAtRest s u).trans (driven_handPair _ u)).trans (driven_judge _ u)

/-- Everything one step of serving can do. -/
theorem serveStep_cases {s t : State} (h : s.serveStep = some t) :
    (∃ l, t = s.grantProbe l) ∨ (∃ u, t = s.startUnit u) ∨ ∃ u r, t = s.preempt u r := by
  unfold State.serveStep at h
  split at h
  · exact Or.inl ⟨_, (Option.some.inj h).symm⟩
  · split at h
    · cases h
    · next u _ =>
      simp only at h
      split at h
      · split at h
        · exact Or.inr (Or.inl ⟨_, (Option.some.inj h).symm⟩)
        · cases h
      · split at h
        · obtain ⟨c, _, hc⟩ := Option.map_eq_some_iff.mp h
          exact Or.inr (Or.inr ⟨c.1, c.2, hc.symm⟩)
        · cases h

theorem driven_serveStep {s t : State} (h : s.serveStep = some t) : Driven s t := by
  obtain ⟨l, rfl⟩ | ⟨u, rfl⟩ | ⟨u, r, rfl⟩ := serveStep_cases h
  · exact driven_grantProbe s l
  · exact driven_startUnit s u
  · exact driven_preempt s u r

theorem driven_serveLoop (n : Nat) (s : State) : Driven s (State.serveLoop n s) := by
  induction n generalizing s with
  | zero => exact Driven.refl s
  | succ n ih =>
    unfold State.serveLoop
    split
    · next t h => exact (driven_serveStep h).trans (ih t)
    · exact Driven.refl s

theorem driven_serve (s : State) : Driven s s.serve := by
  unfold State.serve
  split
  · exact driven_serveLoop 16 s
  · exact Driven.refl s

theorem driven_drive (s : State) : Driven s s.drive :=
  (((driven_handPairs s).trans (driven_handPairs _)).trans (driven_judgeAll _)).trans (driven_serve _)

theorem driven_loseEstimates (s : State) (r : Run) (f : RunFault) : Driven s (s.loseEstimates r f) := by
  unfold State.loseEstimates
  split
  · refine Driven.foldl (fun t l => ?_) r.members s
    split
    · exact driven_setFeedback t l _ (by exact ⟨rfl, rfl, rfl, rfl⟩)
    · exact Driven.refl t
  · exact Driven.refl s

theorem driven_beginBackoff (s : State) (u : Leaf) (r : Run) : Driven s (s.beginBackoff u r) :=
  (driven_setUnit s u _).trans (driven_readyMembers _ _)

theorem driven_endRun (s : State) (u : Leaf) (r : Run) (e : Ending) : Driven s (s.endRun u r e) := by
  have h (x : UnitRecord) := driven_setUnit s u x
  unfold State.endRun
  simp only
  split
  · exact ((h _).trans (driven_setUnit _ u _)).trans (driven_placeAtRest _ u)
  · exact (((h _).trans (driven_setUnit _ u _)).trans (driven_loseEstimates _ r _)).trans (driven_placeAtRest _ u)
  · split
    · exact (h _).trans (driven_beginBackoff _ u r)
    · exact (h _).trans (driven_placeAtRest _ u)
  · split
    · exact (h _).trans (driven_setStatus _ u _)
    · exact (h _).trans (driven_placeAtRest _ u)
  · exact (h _).trans (driven_placeAtRest _ u)

end Sys2Proof.Machine
end

