-- ==== Sys2Proof/Laws/Faults.lean ====
section
/-! SUPPORT. Taking a pair, judging and serving leave every failure count and last fault: only the end of a run, a REFERENCE and
a start write them. -/

namespace Sys2Proof.Machine

/-- Every unit's failure count and last fault are the same. -/
def SameFaults (s t : State) : Prop :=
  ∀ u, (t.units.get u).failureCount = (s.units.get u).failureCount ∧ (t.units.get u).lastFault = (s.units.get u).lastFault

theorem SameFaults.refl (s : State) : SameFaults s s := fun _ => ⟨rfl, rfl⟩

theorem SameFaults.of_units {s t : State} (h : t.units = s.units) : SameFaults s t := fun u => by rw [h]; exact ⟨rfl, rfl⟩

theorem SameFaults.trans {s t u : State} (h : SameFaults s t) (k : SameFaults t u) : SameFaults s u := fun x =>
  ⟨(k x).1.trans (h x).1, (k x).2.trans (h x).2⟩

theorem SameFaults.foldl {α : Type} {f : State → α → State} (hf : ∀ s a, SameFaults s (f s a)) (l : List α) (s : State) :
    SameFaults s (l.foldl f s) := by
  induction l generalizing s with
  | nil => exact SameFaults.refl s
  | cons a l ih => exact (hf s a).trans (ih (f s a))

theorem sameFaults_setUnit (s : State) (u : Leaf) (x : UnitRecord)
    (h : x.failureCount = (s.units.get u).failureCount ∧ x.lastFault = (s.units.get u).lastFault) :
    SameFaults s (s.setUnit u x) := by
  intro v
  simp only [State.setUnit_units, Four.get_set]
  split
  · next e => subst e; exact h
  · exact ⟨rfl, rfl⟩

theorem sameFaults_setStatus (s : State) (u : Leaf) (x : UnitStatus) : SameFaults s (s.setStatus u x) :=
  sameFaults_setUnit s u _ ⟨rfl, rfl⟩

theorem sameFaults_setRun (s : State) (u : Leaf) (r : Run) : SameFaults s (s.setRun u r) := sameFaults_setStatus s u _

theorem sameFaults_placeAtRest (s : State) (u : Leaf) : SameFaults s (s.placeAtRest u) :=
  (sameFaults_setStatus s u .rest).trans (SameFaults.of_units rfl)

theorem sameFaults_switchOn (s : State) (l : Leaf) (v : Speed) : SameFaults s (s.switchOn l v) := SameFaults.of_units rfl

theorem sameFaults_switchOff (s : State) (l : Leaf) : SameFaults s (s.switchOff l) := SameFaults.of_units rfl

theorem sameFaults_toRundown (s : State) (u : Leaf) (r : Run) (e : Ending) : SameFaults s (s.toRundown u r e) :=
  (SameFaults.foldl sameFaults_switchOff r.members s).trans (sameFaults_setRun _ u _)

theorem sameFaults_readyMembers (s : State) (ls : List Leaf) : SameFaults s (s.readyMembers ls) :=
  SameFaults.foldl (f := fun t l => t.setMember l _) (fun _ _ => SameFaults.of_units rfl) ls s

theorem sameFaults_startUnit (s : State) (u : Leaf) : SameFaults s (s.startUnit u) :=
  (sameFaults_setUnit s u _ (by exact ⟨rfl, rfl⟩)).trans (sameFaults_readyMembers _ _)

theorem sameFaults_changeSpeed (s : State) (r : Run) (v : Speed) : SameFaults s (s.changeSpeed r v) := by
  unfold State.changeSpeed
  split
  · exact SameFaults.refl s
  · refine SameFaults.foldl (fun t l => ?_) r.members s
    split <;> exact SameFaults.of_units rfl

theorem sameFaults_continueRun (s : State) (u : Leaf) (r : Run) (p : Pair) (aim : Aim) (b : Bool) :
    SameFaults s (s.continueRun u r p aim b) := (sameFaults_changeSpeed s r _).trans (sameFaults_setRun _ u _)

theorem sameFaults_resumeHeld (s : State) (r : Run) (target : Nat) : SameFaults s (s.resumeHeld r target) := by
  refine SameFaults.foldl (fun t l => ?_) r.members s
  repeat' split
  all_goals exact SameFaults.of_units rfl

theorem sameFaults_stopForPair (s : State) (u : Leaf) (r : Run) (p : Pair) (b : Bool) (e : Ending) :
    SameFaults s (s.stopForPair u r p b e) :=
  (sameFaults_setUnit s u _ (by exact ⟨rfl, rfl⟩)).trans (sameFaults_toRundown _ u r e)

theorem sameFaults_setMember (s : State) (l : Leaf) (m : MemberRecord) : SameFaults s (s.setMember l m) := fun _ => ⟨rfl, rfl⟩

theorem sameFaults_setFeedback (s : State) (l : Leaf) (f : FeedbackRecord) : SameFaults s (s.setFeedback l f) := fun _ => ⟨rfl, rfl⟩

theorem sameFaults_settleTimeout (s : State) (u : Leaf) (r : Run) : SameFaults s (s.settleTimeout u r) := by
  unfold State.settleTimeout
  split
  · exact sameFaults_setRun s u _
  · exact SameFaults.refl s

theorem sameFaults_finishMember (s : State) (u : Leaf) (r : Run) (l : Leaf) : SameFaults s (s.finishMember u r l) := by
  have h := (sameFaults_switchOff s l).trans
    (sameFaults_setMember _ l { (s.switchOff l).members.get l with hold := .done })
  unfold State.finishMember
  simp only
  split
  · exact h.trans (sameFaults_toRundown _ u r _)
  · exact h.trans (sameFaults_settleTimeout _ u r)

theorem sameFaults_probingMotor (s : State) (r : Run) (l : Leaf) : SameFaults s (s.probingMotor r l) := by
  unfold State.probingMotor
  split
  · exact sameFaults_switchOn s l _
  · exact SameFaults.refl s

theorem sameFaults_beginProbing (s : State) (u : Leaf) (r : Run) (l : Leaf) : SameFaults s (s.beginProbing u r l) :=
  (((sameFaults_probingMotor s r l).trans (sameFaults_setMember _ l _)).trans (sameFaults_setFeedback _ l _)).trans
    (sameFaults_settleTimeout _ u r)

theorem sameFaults_checkReach (s : State) (l : Leaf) : SameFaults s (s.checkReach l) := by
  unfold State.checkReach
  dsimp only
  repeat' split
  all_goals first
    | exact SameFaults.refl s
    | exact sameFaults_beginProbing s _ _ _
    | exact sameFaults_finishMember s _ _ _

theorem sameFaults_checkReaches (s : State) (ls : List Leaf) : SameFaults s (s.checkReaches ls) :=
  SameFaults.foldl sameFaults_checkReach ls s

theorem sameFaults_retarget (s : State) (u : Leaf) (r : Run) (p : Pair) (target : Nat) :
    SameFaults s (s.retarget u r p target) := by
  unfold State.retarget
  dsimp only
  split
  · split
    · exact sameFaults_continueRun s u r p _ _
    · exact sameFaults_stopForPair s u r p _ _
  · split
    · exact ((sameFaults_continueRun s u r p _ _).trans (sameFaults_resumeHeld _ _ _)).trans (sameFaults_checkReaches _ _)
    · split
      · exact sameFaults_continueRun s u r p _ _
      · exact sameFaults_stopForPair s u r p _ _

theorem sameFaults_retargetUnref (s : State) (u : Leaf) (r : Run) (p : Pair) (target : Nat) :
    SameFaults s (s.retargetUnref u r p target) := by
  unfold State.retargetUnref
  split
  · exact sameFaults_continueRun s u r p _ _
  · exact sameFaults_stopForPair s u r p _ _

theorem sameFaults_takeRunning (s : State) (u : Leaf) (r : Run) (p : Pair) : SameFaults s (s.takeRunning u r p) := by
  unfold State.takeRunning
  repeat' split
  all_goals first
    | exact sameFaults_stopForPair s u r p _ _
    | exact sameFaults_retarget s u r p _
    | exact sameFaults_retargetUnref s u r p _

theorem sameFaults_takeStarting (s : State) (u : Leaf) (r : Run) (p : Pair) : SameFaults s (s.takeStarting u r p) := by
  unfold State.takeStarting
  dsimp only
  generalize (if (s.units.get u).outOfService then p.slot.fireClass else s.wantsRun u p) = needs
  split
  · exact sameFaults_setUnit s u _ (by exact ⟨rfl, rfl⟩)
  · exact sameFaults_placeAtRest s u

theorem sameFaults_takePair (s : State) (u : Leaf) (p : Pair) : SameFaults s (s.takePair u p) := by
  have h := sameFaults_setUnit s u ((s.units.get u).withPair p) ⟨rfl, rfl⟩
  unfold State.takePair
  simp only
  repeat' split
  all_goals first
    | exact h
    | exact h.trans (sameFaults_placeAtRest _ u)
    | exact h.trans (sameFaults_takeStarting _ u _ p)
    | exact h.trans (sameFaults_takeRunning _ u _ p)

theorem sameFaults_handPair (s : State) (u : Leaf) : SameFaults s (s.handPair u) := by
  unfold State.handPair
  split
  · exact sameFaults_takePair s u _
  · exact SameFaults.refl s

theorem sameFaults_handPairs (s : State) : SameFaults s s.handPairs := SameFaults.foldl sameFaults_handPair _ s

theorem sameFaults_judge (s : State) (u : Leaf) : SameFaults s (s.judge u) := by
  unfold State.judge
  split
  · exact sameFaults_setStatus s u _
  · exact SameFaults.refl s

theorem sameFaults_judgeAll (s : State) : SameFaults s s.judgeAll := SameFaults.foldl sameFaults_judge _ s

theorem sameFaults_preempt (s : State) (u : Leaf) (r : Run) : SameFaults s (s.preempt u r) := by
  unfold State.preempt
  repeat' split
  all_goals first
    | exact sameFaults_toRundown s u r _
    | exact sameFaults_setStatus s u _
    | exact ((sameFaults_placeAtRest s u).trans (sameFaults_handPair _ u)).trans (sameFaults_judge _ u)

theorem sameFaults_serveLoop (n : Nat) (s : State) : SameFaults s (State.serveLoop n s) := by
  induction n generalizing s with
  | zero => exact SameFaults.refl s
  | succ n ih =>
    unfold State.serveLoop
    split
    · next t h =>
      refine SameFaults.trans ?_ (ih t)
      obtain ⟨l, rfl⟩ | ⟨u, rfl⟩ | ⟨u, r, rfl⟩ := serveStep_cases h
      · exact SameFaults.of_units rfl
      · exact sameFaults_startUnit s u
      · exact sameFaults_preempt s u r
    · exact SameFaults.refl s

theorem sameFaults_drive (s : State) : SameFaults s s.drive := by
  refine (((sameFaults_handPairs s).trans (sameFaults_handPairs _)).trans (sameFaults_judgeAll _)).trans ?_
  unfold State.drive State.serve
  split
  · exact sameFaults_serveLoop 16 _
  · exact SameFaults.refl _

end Sys2Proof.Machine
end

