-- ==== Sys2Proof/Laws/Events.lean ====
section
/-! SUPPORT. The end of an event: what `reform`, `composeDue` and `close` leave, and that every event closed is one that
`Follows` the change that made it. -/

namespace Sys2Proof.Machine

/-! ### Weather and brigade formed again -/

/-- What `reform` leaves. -/
structure Reformed (s t : State) : Prop where
  weather : t = { s with weather := t.weather, zones := { s.zones with brigade := t.zones.brigade } }
  measured : t.weather.measured = s.weather.measured

theorem measured_judgeGuard (w : Weather) (a b n : Nat) : (w.judgeGuard a b n).measured = w.measured := by
  unfold Weather.judgeGuard
  repeat' split
  all_goals rfl

theorem formSides_eq (s : State) : s.formSides = { s with weather := s.formSides.weather } := rfl

theorem formWeather_eq (s : State) : s.formWeather = { s with weather := s.formWeather.weather } := by
  unfold State.formWeather
  dsimp only
  split <;> rfl

theorem measured_formWeather (s : State) : s.formWeather.weather.measured = s.weather.measured := by
  unfold State.formWeather
  dsimp only
  split
  · rfl
  · exact measured_judgeGuard _ _ _ _

theorem reformed_reform (s : State) : Reformed s s.reform where
  weather := by
    have h := formWeather_eq s
    unfold State.reform State.formBrigade
    generalize s.formWeather.resolution = b
    rw [h]
  measured := measured_formWeather s

/-- The brigade result is the resolution of the state it is formed in. -/
theorem reform_brigade (s : State) : s.reform.zones.brigade = s.reform.resolution := by
  have h := formWeather_eq s
  show s.formWeather.resolution = s.formWeather.formBrigade.resolution
  rfl

/-! ### A report made due -/

theorem composeDue_eq (s b : State) (r : Bool) :
    s.composeDue b r = { s with line := { s.line with pendingSlot := (s.composeDue b r).line.pendingSlot } } := by
  unfold State.composeDue
  split <;> rfl

/-- A slot that is full stays full, and an urgent one urgent (R32). -/
theorem composeDue_slot (s b : State) (r : Bool) :
    (s.line.pendingSlot.isSome → (s.composeDue b r).line.pendingSlot.isSome) ∧
      (s.line.pendingSlot = some true → (s.composeDue b r).line.pendingSlot = some true) := by
  unfold State.composeDue
  split
  · constructor
    · intro; rfl
    · intro h
      show slotAfter s.line.pendingSlot _ = some true
      rw [h]; rfl
  · exact ⟨id, id⟩

/-! ### The end of an event -/

/-- An event after which nothing follows but the outputs. -/
theorem follows_refresh (s : State) : Follows s s.refresh := by
  constructor
  case formed => exact State.refresh_refresh s
  case slotKept => exact id
  case urgencyKept => exact id
  all_goals first | rfl | (intro; rfl)

theorem resolution_congr {s t : State} (h1 : t.zones = s.zones) (h2 : t.peers = s.peers)
    (h3 : t.line.ownAddress = s.line.ownAddress) (h4 : t.store = s.store) : t.resolution = s.resolution := by
  simp only [State.resolution, State.overrideCandidates, State.peerOverrides, State.cfg, h1, h2, h3, h4]

/-- An event closed: everything it may still change. -/
theorem follows_close (s b : State) (r : Bool) (hs : s.phase = .running) : Follows s (s.close b r).refresh := by
  have h1 := reformed_reform s
  have h2 := driven_drive s.reform
  have h3 := sameFaults_drive s.reform
  have h4 := composeDue_eq s.reform.drive b r
  have h5 := composeDue_slot s.reform.drive b r
  have hc : s.close b r = s.reform.drive.composeDue b r := if_pos hs
  have w := h1.weather
  rw [hc]
  generalize s.reform.drive.composeDue b r = t at h4 h5
  generalize hd : s.reform.drive = d at h2 h3 h4 h5
  generalize s.reform = q at h1 h2 h3 w
  constructor
  case now => rw [h4]; exact h2.now.trans (by rw [w])
  case phase => rw [h4]; exact h2.phase.trans (by rw [w])
  case pending => rw [h4]; exact h2.pending.trans (by rw [w])
  case draws => rw [h4]; exact h2.draws.trans (by rw [w])
  case store => rw [h4]; exact h2.store.trans (by rw [w])
  case line =>
    show t.line.unslotted = _
    rw [h4]
    show d.line.unslotted = _
    rw [h2.line, w]
  case slotKept =>
    intro h
    apply h5.1
    rw [h2.line, w]; exact h
  case urgencyKept =>
    intro h
    apply h5.2
    rw [h2.line, w]; exact h
  case composer => rw [h4]; exact h2.composer.trans (by rw [w])
  case peers => rw [h4]; exact h2.peers.trans (by rw [w])
  case detection => rw [h4]; exact h2.detection.trans (by rw [w])
  case zoneRecords => rw [h4]; exact (congrArg _ h2.zones).trans (by rw [w])
  case ownOverride => rw [h4]; exact (congrArg ZoneLogic.ownOverride h2.zones).trans (by rw [w])
  case remembered => rw [h4]; exact (congrArg ZoneLogic.remembered h2.zones).trans (by rw [w])
  case measured => rw [h4]; exact (congrArg Weather.measured h2.weather).trans h1.measured
  case supply => rw [h4]; exact h2.supply.trans (by rw [w])
  case port => rw [h4]; exact h2.port.trans (by rw [w])
  case serviceTarget => intro u; rw [h4]; exact (h2.serviceTarget u).trans (by rw [w])
  case presence => intro u; rw [h4]; exact (h2.presence u).trans (by rw [w])
  case mode => intro u; rw [h4]; exact (h2.mode u).trans (by rw [w])
  case count => intro u; rw [h4]; exact (h2.count u).trans (by rw [w])
  case drift => intro u; rw [h4]; exact (h2.drift u).trans (by rw [w])
  case failureCount => intro u; rw [h4]; exact ((h3 u).1).trans (by rw [w])
  case lastFault => intro u; rw [h4]; exact ((h3 u).2).trans (by rw [w])
  case formed => exact State.refresh_refresh t

/-- An event that may only make a report due. -/
theorem follows_composeDue (s b : State) (r : Bool) : Follows s (s.composeDue b r).refresh := by
  have h4 := composeDue_eq s b r
  have h5 := composeDue_slot s b r
  generalize s.composeDue b r = t at h4 h5
  constructor
  case formed => exact State.refresh_refresh t
  case slotKept => exact h5.1
  case urgencyKept => exact h5.2
  all_goals ((try intro); rw [h4]; rfl)

/-- A reply begun in the event. -/
theorem Follows.reply {a t : State} (h : Follows a t.refresh) (r : Reply) : Follows (a.reply r) (t.reply r).refresh := by
  constructor
  case formed => exact State.refresh_refresh _
  case port => rfl
  all_goals first
    | exact h.now | exact h.phase | exact h.pending | exact h.draws | exact h.store | exact h.line | exact h.slotKept
    | exact h.urgencyKept | exact h.composer | exact h.peers | exact h.detection | exact h.zoneRecords
    | exact h.ownOverride | exact h.remembered | exact h.measured | exact h.supply | exact h.serviceTarget
    | exact h.presence | exact h.mode | exact h.count | exact h.drift | exact h.failureCount | exact h.lastFault

/-- After an event closed while running, the brigade result is the resolution as it then stands (R19). -/
theorem close_brigade (s b : State) (r : Bool) (hs : s.phase = .running) :
    (s.close b r).zones.brigade = (s.close b r).resolution := by
  have h2 := driven_drive s.reform
  have h4 := composeDue_eq s.reform.drive b r
  have hc : s.close b r = s.reform.drive.composeDue b r := if_pos hs
  rw [hc]
  generalize s.reform.drive.composeDue b r = t at h4
  generalize hd : s.reform.drive = d at h2 h4
  have ht : t.resolution = s.reform.resolution := by
    apply resolution_congr
    · rw [h4]; exact h2.zones
    · rw [h4]; exact h2.peers
    · rw [h4]; show d.line.ownAddress = _; rw [h2.line]
    · rw [h4]; exact h2.store
  rw [ht, ← reform_brigade s, h4]
  exact congrArg ZoneLogic.brigade h2.zones

/-! ### The slot filled -/

/-- What a composed report carries is not the slot. -/
theorem content_slot (s : State) (x : Option Bool) :
    ({ s with line := { s.line with pendingSlot := x } } : State).content = s.content := rfl

theorem content_refresh (s : State) : s.refresh.content = s.content := rfl

/-- An urgent difference, as the composer finds it. -/
theorem contentUrgent_iff (s : State) : s.contentUrgent = true ↔ s.differsUrgently := by
  unfold State.contentUrgent State.differsUrgently
  split
  next h => simp [h]
  next r h => simp [h, urgentDifference, or_assoc]

/-- A report made due at the end of an event fills the slot. -/
theorem slotFilled_composeDue (s b : State) (r : Bool) (hs : s.phase = .running) :
    SlotFilled b s (s.composeDue b r).refresh r := by
  have hc : (s.composeDue b r).refresh.content = s.content := by
    rw [content_refresh, composeDue_eq, content_slot]
  have hl : (s.composeDue b r).refresh.composer = s.composer := by
    show (s.composeDue b r).composer = _
    rw [composeDue_eq]
  have hu : (s.composeDue b r).refresh.differsUrgently ↔ s.differsUrgently := by
    unfold State.differsUrgently
    rw [hc, hl]
  have hd : (s.phase = .running && ((s.content ≠ b.content && s.contentDiffers) || r)) = true ↔
      (r = true ∨ (s.content ≠ b.content ∧ s.composer.lastComposed.map Report.content ≠ some s.content)) := by
    simp [hs, State.contentDiffers, or_comm]
  constructor
  · rw [hc, hl]
    intro h
    refine ⟨s.line.pendingSlot.getD false || s.contentUrgent, ?_, ?_⟩
    · show (s.composeDue b r).line.pendingSlot = _
      unfold State.composeDue
      rw [if_pos (hd.2 h)]
      rfl
    · rw [hu, ← contentUrgent_iff]
      cases s.line.pendingSlot with
      | none => simp
      | some x => cases x <;> simp
  · rw [hc, hl]
    intro h
    show (s.composeDue b r).line.pendingSlot = _
    unfold State.composeDue
    rw [if_neg (fun hh => h (hd.1 hh))]

/-- An event of a running station that only makes a report due. -/
theorem reports_composeDue (s b : State) (r : Bool) (hs : s.phase = .running) : Reports b s (s.composeDue b r).refresh r where
  rest := by rw [composeDue_eq]; rfl
  slot := slotFilled_composeDue s b r hs

/-! ### The event closed -/

/-- An event of a running station closed: all that the statements say of it. -/
theorem closes_close (s b : State) (r : Bool) (hs : s.phase = .running) : Closes b s (s.close b r).refresh r := by
  have h2 := driven_drive s.reform
  have h4 := composeDue_eq s.reform.drive b r
  have w := (reformed_reform s).weather
  have hc : s.close b r = s.reform.drive.composeDue b r := if_pos hs
  have hw : s.reform.weather = s.formWeather.weather := rfl
  have hb : s.reform.zones.brigade = s.resolution := by
    have h := formWeather_eq s
    show s.formWeather.resolution = s.resolution
    exact resolution_congr (by rw [h]) (by rw [h]) (by rw [h]) (by rw [h])
  have hp : s.reform.drive.phase = .running := h2.phase.trans (by rw [w]; exact hs)
  have hq : s.reform.drive.line.pendingSlot = s.line.pendingSlot := by rw [h2.line, w]
  have hf := slotFilled_composeDue s.reform.drive b r hp
  constructor
  case follows => exact follows_close s b r hs
  case weather =>
    rw [hc]
    generalize s.reform.drive = d at *
    generalize d.composeDue b r = t at h4
    rw [h4]
    exact h2.weather.trans hw
  case brigade =>
    rw [hc]
    generalize s.reform.drive = d at *
    generalize d.composeDue b r = t at h4
    rw [h4]
    exact (congrArg ZoneLogic.brigade h2.zones).trans hb
  case slot =>
    rw [hc]
    generalize s.reform.drive = d at hf hq
    obtain ⟨h5, h6⟩ := hf
    rw [hq] at h5 h6
    exact ⟨h5, h6⟩

/-- A reply is no input of the weather results. -/
theorem formWeather_reply (s : State) (r : Reply) : (s.reply r).formWeather.weather = s.formWeather.weather := by
  have hc : (s.reply r).candidateSet = s.candidateSet := rfl
  unfold State.formWeather
  rw [hc]
  dsimp only
  split
  next h =>
    split
    next => rfl
    next k => exact absurd h k
  next h =>
    split
    next k => exact absurd k h
    next => rfl

/-- A reply begun in an event that closed. -/
theorem Closes.reply {s a t : State} {q : Bool} (h : Closes s a t.refresh q) (r : Reply) :
    Closes s (a.reply r) (t.reply r).refresh q where
  follows := h.follows.reply r
  weather := h.weather.trans (formWeather_reply a r).symm
  brigade := h.brigade
  slot := ⟨h.slot.due, h.slot.kept⟩

end Sys2Proof.Machine
end

