-- ==== Sys2Proof/Laws/Frame.lean ====
section
/-! SUPPORT. What the receiver's judgement of bytes can answer: the shortest run of them at which a verdict stands. -/

namespace Sys2Proof.Machine

/-- Bytes are judged after `frame` at the first of them, if any, at which a verdict stands. -/
theorem judgeAfter_eq_some_iff (frame rest f : List RxByte) (v : Verdict) :
    judgeAfter frame rest = some (f, v) ↔ ∃ taken later, rest = taken ++ later ∧ f = frame ++ taken ∧
      verdictAt f = some v ∧ ∀ k, k < taken.length → verdictAt (frame ++ taken.take k) = none := by
  induction rest generalizing frame with
  | nil =>
    constructor
    · intro h
      obtain ⟨w, hw, he⟩ := Option.map_eq_some_iff.1 (h : (verdictAt frame).map (fun v => (frame, v)) = some (f, v))
      obtain ⟨rfl, rfl⟩ := Prod.mk.inj he
      exact ⟨[], [], rfl, (List.append_nil _).symm, hw, fun k hk => absurd hk (Nat.not_lt_zero k)⟩
    · rintro ⟨taken, later, h, rfl, hv, -⟩
      obtain ⟨rfl, rfl⟩ := List.append_eq_nil_iff.1 h.symm
      rw [List.append_nil] at hv ⊢
      simp [judgeAfter, hv]
  | cons b rest ih =>
    cases hf : verdictAt frame with
    | some w =>
      have hj : judgeAfter frame (b :: rest) = some (frame, w) := by simp [judgeAfter, hf]
      rw [hj]
      constructor
      · intro h
        obtain ⟨rfl, rfl⟩ := Prod.mk.inj (Option.some.inj h)
        exact ⟨[], b :: rest, rfl, (List.append_nil _).symm, hf, fun k hk => absurd hk (Nat.not_lt_zero k)⟩
      · rintro ⟨taken, later, -, rfl, hv, hk⟩
        cases taken with
        | nil => rw [List.append_nil, hf] at *; cases hv; rfl
        | cons a taken =>
          have h0 := hk 0 (Nat.succ_pos _)
          rw [List.take_zero, List.append_nil, hf] at h0
          cases h0
    | none =>
      have hj : judgeAfter frame (b :: rest) = judgeAfter (frame ++ [b]) rest := by simp [judgeAfter, hf]
      rw [hj, ih]
      constructor
      · rintro ⟨taken, later, rfl, rfl, hv, hk⟩
        refine ⟨b :: taken, later, rfl, by simp, hv, ?_⟩
        rintro (- | k) h
        · simpa using hf
        · simpa using hk k (Nat.lt_of_succ_lt_succ h)
      · rintro ⟨taken, later, he, rfl, hv, hk⟩
        cases taken with
        | nil => rw [List.append_nil, hf] at hv; cases hv
        | cons a taken =>
          obtain ⟨rfl, rfl⟩ := List.cons.inj he
          refine ⟨taken, later, rfl, by simp, hv, fun k h => ?_⟩
          simpa using hk (k + 1) (Nat.succ_lt_succ h)

/-- The frame that bytes open is their shortest beginning at which a verdict stands. -/
theorem judgeBytes_eq_some_iff (rx f : List RxByte) (v : Verdict) :
    judgeBytes rx = some (f, v) ↔
      ∃ later, rx = f ++ later ∧ verdictAt f = some v ∧ ∀ k, k < f.length → verdictAt (f.take k) = none := by
  unfold judgeBytes
  rw [judgeAfter_eq_some_iff]
  constructor
  · rintro ⟨taken, later, h, rfl, hv, hk⟩
    exact ⟨later, h, hv, hk⟩
  · rintro ⟨later, h, hv, hk⟩
    exact ⟨f, later, h, rfl, hv, hk⟩

end Sys2Proof.Machine
end

