-- ==== Sys2Proof/WellFormed.lean ====
section
/-! DEFINITION. Which commands are well formed: the operands lie in the ranges the specification gives the quantities they
stand for. `exec` is total on ill-formed commands too; a service command's arguments are text and are never ill formed. -/

namespace Sys2Proof

/-- The rotary switches have ten positions each (R45). -/
def StartInputs.wf (i : StartInputs) : Bool := i.tens ≤ 9 && i.units ≤ 9

/-- A frame has at most 43 bytes (R27), so no more than 43 come with its verdict; none, where the receiver holds them all. -/
def frameLengthOk (n : Nat) : Bool := n ≤ 43

/-- The well-formed commands. -/
def Instr.wf : Instr → Bool
  | .powerOnStart i => i.wf
  | .restartStart i => i.wf
  | .goodFrameReceived rest => frameLengthOk rest.length
  | .badFrame rest => frameLengthOk rest.length
  | .peerSilenceExpiry a => 1 ≤ a && a ≤ 32
  | .restart | .status | .peer _ | .zones | .leaf _ | .wind | .settings | .writeSetting _ _ | .move _ _ | .stopAll
  | .reference _ | .clearCounters | .unknownCommand | .serviceReplySent | .lineIdle | .lineBusy _ | .backoffExpiry
  | .byteReadback _ | .provingTimerExpiry | .holdoffExpiry | .heartbeatExpiry | .firstAttemptBegins
  | .settledTimeReached | .loopSample _ _ | .callPointSample _ | .debounceExpiry _ | .confirmTimerExpiry _
  | .powerOffExpiry | .settleEnd | .keySwitchChange | .serviceButtonPress _ | .zoneResetKeyPress
  | .brigadeSwitchChange | .bmSample _ | .resetFlashEnd | .anemometerWindowEnd _ | .rainReading _ | .dryOffExpiry
  | .clearHoldExpiry | .classHoldExpiry _ | .startingEnd _ | .blankingEnd _ | .travelTimeout _ | .rundownEnd _
  | .reversalPauseEnd _ | .retryHoldExpiry _ | .closedSwitchMade _ | .endCutOut _ _ | .probingSliceEnd _
  | .overcurrent _ _ | .stall _ _ | .pinch _ _ | .feedbackEdge _ _ | .watchdogApplied _ | .pulseWatchdogExpiry _ _
  | .timedEstimateUpdate _ | .probeSettleEnd _ | .probePulseEnd _ _ | .supplyReading _ _ | .mainsAbsentExpiry
  | .mainsPresentExpiry | .lowTimerExpiry | .recoveryExpiry | .switchSample _ | .anemometerPulse
  | .anemometerCircuitTest _ => true

end Sys2Proof
end

