-- ==== Sys2Proof/Tests/Slice0.lean ====
section
/-! SUPPORT. Tests: well-formedness, fixed values of the specification's tables, small steps of each family, and for every
statement with hypotheses a state and operands that meet them. -/

namespace Sys2Proof.Tests

open Sys2Proof Sys2Proof.Machine

set_option Elab.async false

/-! ### Well-formedness -/

def inputs : StartInputs := ⟨0, 5, true, 240, false, false, .dry, 0⟩

theorem test_wf_start : (Instr.powerOnStart inputs).wf = true ∧ (Instr.restartStart { inputs with tens := 9, units := 9 }).wf = true := by
  decide

theorem test_wf_refuses_switch_positions : (Instr.powerOnStart { inputs with tens := 10 }).wf = false ∧
    (Instr.powerOnStart { inputs with units := 10 }).wf = false ∧
    (Instr.restartStart { inputs with tens := 10 }).wf = false ∧
    (Instr.restartStart { inputs with units := 10 }).wf = false := by decide

theorem test_wf_refuses_frame_lengths : (Instr.goodFrameReceived (List.replicate 44 0#8)).wf = false ∧
    (Instr.goodFrameReceived []).wf = true ∧ (Instr.badFrame (List.replicate 44 ⟨0#8, false⟩)).wf = false ∧
    (Instr.badFrame []).wf = true := by decide

theorem test_wf_refuses_peer_addresses : (Instr.peerSilenceExpiry 0).wf = false ∧ (Instr.peerSilenceExpiry 33).wf = false ∧
    (Instr.peerSilenceExpiry 32).wf = true := by decide

/-! ### Fixed values -/

theorem test_check_word_of_defaults : StoredSettings.defaults.check = StoredSettings.defaultsCheckWord := by decide +kernel

theorem test_serial_comparison : serialGreater 1#8 0#8 = true ∧ serialGreater 127#8 0#8 = true ∧
    serialGreater 128#8 0#8 = false ∧ serialGreater 0#8 255#8 = true ∧ serialGreater 5#8 5#8 = false := by decide

theorem test_current_bands : bandOf 29 = .opened ∧ bandOf 30 = .normal ∧ bandOf 119 = .normal ∧ bandOf 120 = .alarm ∧
    bandOf 400 = .alarm ∧ bandOf 401 = .shorted := by decide

theorem test_bm_steps : bmStep (-3) = 0 ∧ bmStep 29 = 0 ∧ bmStep 30 = 5 ∧ bmStep 1000 = 100 ∧ bmStep 2000 = 100 := by decide

/-- A vane line at this level, its supervision current whole. -/
def vaneLine (high : Bool) : VaneLine := ⟨high, 20⟩

theorem test_vane_codes : vaneSector ⟨vaneLine false, vaneLine false, vaneLine false, vaneLine false⟩ = some 0 ∧
    vaneSector ⟨vaneLine true, vaneLine true, vaneLine false, vaneLine false⟩ = some 8 ∧
    vaneSector ⟨vaneLine true, vaneLine false, vaneLine false, vaneLine false⟩ = some 15 := by decide

/-- A vane line is OPEN below 2.0 mA, whatever its level. -/
theorem test_vane_line_open : vaneSector ⟨⟨true, 19⟩, vaneLine false, vaneLine false, vaneLine false⟩ = none ∧
    vaneSector ⟨vaneLine false, vaneLine false, vaneLine false, ⟨false, 19⟩⟩ = none := by decide

theorem test_supply_formed_at_start : (Supply.started false 209).state = .low ∧ (Supply.started false 210).state = .battery ∧
    (Supply.started true 0).state = .mains := by decide

theorem test_setting_limits_met : settingRefusal? (.pinch 2) 48 = none ∧ settingRefusal? (.pinch 2) 49 = some .badValue ∧
    settingRefusal? (.stroke 5) 5000 = some .badLeaf ∧ settingRefusal? .smokeZone 9 = some .badValue ∧
    settingRefusal? (.gangPairs 3) 1 = some .badLeaf ∧ settingRefusal? .unknown 0 = some .badValue ∧
    settingRefusal? (.fullTime 1) 10 = none ∧ settingRefusal? .answerSet (-1) = some .badValue := by decide

/-- The commissioning sequence of chapter 11: pinch at or above stall, and a pair of differing facings. -/
def commissioned : StoredSettings :=
  { StoredSettings.defaults with stall := ⟨25#8, 15#8, 25#8, 25#8⟩, gangPair12 := 1#8, facing := ⟨4#8, 12#8, 0#8, 0#8⟩ }

theorem test_commissioning_adjusts : (commissioned.intoForce 19).1.pinch.f2 = 13 ∧ (commissioned.intoForce 19).1.gang12 = false ∧
    (commissioned.intoForce 19).2 = true ∧ (StoredSettings.defaults.intoForce 19).2 = false := by decide

/-! ### A running station -/

/-- Station 5, running with the defaults: joined, the line IDLE, every leaf present at position 500. -/
def leafHalfOpen : FeedbackRecord := { FeedbackRecord.atStart with presence := .present, count := some 2400 }

def base : State := { State.powerOnValues 400000 0 [] .factory .running with
  line := { LineInterface.atStart with ownAddress := 5, join := .running, busy := false, lastByte := 399000 }
  peers := freshTable 5 (some 0)
  feedback := Four.const leafHalfOpen }

def after (c : Instr) (s : State) : State :=
  match exec c s with
  | .next t => t
  | .fault _ => s
  | .refused _ => s

def contacts : SwitchContacts := ⟨false, false, false, false, false, false, false⟩

theorem test_start_needs_power : exec .lineIdle State.reset = .next State.reset := rfl

theorem test_power_on_start : let t := after (.powerOnStart inputs) State.reset
    t.phase = .running ∧ t.line.join = .listen ∧ t.pins.faultRelay = true ∧ t.feedback.f1.probe = .settle 50 ∧
      t.feedback.f3.probe = .settle 50 ∧ t.feedback.f4.probe = .requested := by decide +kernel

theorem test_power_on_start_invalid_address : (after (.powerOnStart { inputs with units := 0 }) State.reset).line.join =
    .mute .addressInvalid := by decide +kernel

/-! ### Small steps -/

theorem test_idle_step : step base = .next { base with now := 400001 } := rfl

theorem test_step_takes_front : step { base with pending := [.zones, .status] } =
    exec .zones { base with pending := [.status] } := rfl

def atService : State := { base with detection := { base.detection with key := ⟨.service, none⟩ } }

/-- MOVE starts a run to the target; the storm guard, ACTIVE while the governing wind is unknown, caps it at 0. -/
theorem test_move_under_storm : let t := after (.move 2 800) atService
    t.tables.f2.serviceTarget = some 800 ∧ t.units.f2.pair = ⟨some 0, .storm⟩ ∧
      t.port.sending = some (.ok .none) := by decide +kernel

def calmService : State := { atService with weather := { base.weather with stormActive := false, governingRain := .dry } }

theorem test_move_starts_a_run : let t := after (.move 2 800) calmService
    t.units.f2.pair = ⟨some 800, .service⟩ ∧ (t.motion .n2) = .starting ∧ t.pins.outputs.f2 = .relaySet .opening := by
  decide +kernel

theorem test_move_refused : (after (.move 2 800) base).port.sending = some (.refused .notInService) ∧
    (after (.move 5 800) atService).port.sending = some (.refused .badLeaf) ∧
    (after (.move 2 1001) atService).port.sending = some (.refused .badValue) := by decide +kernel

theorem test_reference_owed_and_probed : let t := after (.reference 1) calmService
    t.units.f1.referenceOwed = true ∧ t.feedback.f1.presence = .unprobed ∧ t.feedback.f1.probe = .settle 400050 := by
  decide +kernel

theorem test_restart_releases_relays :
    let t := after .serviceReplySent (after .restart base)
    t.phase = .restartWait ∧ t.pins.faultRelay = false := by decide +kernel

theorem test_clear_counters : (after .clearCounters { base with line := { base.line with counters := ⟨1, 2, 3, 4, 5⟩ } }).line.counters =
    ⟨0, 0, 0, 0, 0⟩ := by decide +kernel

/-- Leaf 1 in a run; the run's direction, stage and the member's record are given. -/
def running (r : Run) (m : MemberRecord) (s : State) : State :=
  { s with units := s.units.set .n1 { s.units.f1 with status := .inFlight r }, members := s.members.set .n1 m }

def openRun : Run := ⟨.normal, false, 600, .opening, .quiet, .comfort, .running, some 450000, [.n1], 399000⟩
def closeRun : Run := { openRun with target := 0, direction := .closing }
def motorOn : MemberRecord := ⟨true, .driving, 399000, .applied 399300, none, false⟩

def opening : State := running openRun motorOn base
def closing : State := running closeRun motorOn base

theorem test_edge_counts_in_run_direction : (after (.feedbackEdge .n1 .a) opening).feedback.f1.count = some 2401 ∧
    (after (.feedbackEdge .n1 .b) closing).feedback.f1.count = some 2399 ∧
    (after (.feedbackEdge .n1 .a) base).feedback.f1.count = some 2400 := by decide +kernel

theorem test_end_cut_out_fixes_open_end : let t := after (.endCutOut .n1 0) opening
    t.feedback.f1.count = some 4800 ∧ t.feedback.f1.drift = 1 ∧ (t.motion .n1) = .rundown := by decide +kernel

theorem test_stall_and_pinch_thresholds : (after (.stall .n1 24) opening).units.f1 = opening.units.f1 ∧
    (after (.stall .n1 25) opening).motion .n1 = .rundown ∧ (after (.pinch .n1 15) closing).units.f1 = closing.units.f1 ∧
    (after (.pinch .n1 16) closing).motion .n1 = .rundown := by decide +kernel

theorem test_loop_alarm_waits_for_confirmation :
    let s := { base with detection := { base.detection with
      loops := ⟨⟨.normal, some ⟨.alarm, 398000⟩, 200, .cleared, none⟩, .atStart false⟩ } }
    let t := after (.debounceExpiry (.loop .d1)) s
    t.detection.localState = .preAlarm ∧ t.detection.loops.d1.confirm = .running 400000 ∧
      t.zones.records.z1.state = .clear ∧ t.pins.alarmLamp = .flashing 500 0 := by decide +kernel

theorem test_call_point_latches_zone :
    let s := { base with detection := { base.detection with callPoint := ⟨.normal, some ⟨.alarm, 398000⟩, 200⟩ } }
    let t := after (.debounceExpiry .callPoint) s
    t.zones.records.z1 = ⟨.latched, 0#8, .own⟩ ∧ t.pins.alarmRelay = true ∧ t.line.pendingSlot = some true := by
  decide +kernel

theorem test_supply_expiries :
    let s := { base with supply := ⟨.battery, none, none, some 398000, none, false, 209⟩ }
    (after .lowTimerExpiry s).supply.state = .low ∧ (after .lowTimerExpiry s).arbiter.slotCount = 1 ∧
      (after .lowTimerExpiry { s with now := 399999 }).supply.state = .battery := by decide +kernel

theorem test_first_attempt_composes : let t := after .firstAttemptBegins { base with line :=
      { base.line with pendingSlot := some true, busy := true } }
    t.composer.ownSequence = 0#8 ∧ t.line.pendingSlot = none ∧ t.composer.holdoffEnds = some 400100 ∧
      (t.line.series.map fun x => (x.attempt, x.window, x.frame.length)) = some (1, 4, 34) := by decide +kernel

def report : Report := ⟨7, 9#8, .running, ⟨false, false, false, false, false, false⟩, 1, true, 1#8,
  ⟨0#8, 0#8, 0#8, 0#8, 0#8, 0#8, 0#8, 0#8⟩, none, none, none, []⟩

/-- A station that has received the first byte of a frame. -/
def receiving : State :=
  { base with line := { base.line with receiver := .assembling, rxBytes := [⟨0xC3#8, false⟩], busy := true } }

/-- A frame but for its first byte. -/
def later (r : Report) : List Byte := (encodeFrame r).tail

theorem test_report_from_origin_latches : let t := after (.goodFrameReceived (later report)) receiving
    t.zones.records.z1 = ⟨.latched, 0#8, .peer 7⟩ ∧ t.line.counters.good = 1 ∧ t.pins.fireLamp = .lit := by decide +kernel

/-- Bytes that come one by one are held up to the frame's verdict, whose row then brings none. -/
theorem test_bytes_are_held : let t := (encodeFrame report).foldl (fun s b => after (.lineBusy (some ⟨b, false⟩)) s) base
    t.line.receiver = .assembling ∧ t.line.rxBytes = (encodeFrame report).map cleanByte ∧
      (after (.lineBusy (some ⟨0x11#8, true⟩)) t).line.rxBytes = t.line.rxBytes ∧
      (after (.goodFrameReceived []) t).line.counters.good = 1 ∧
      (after (.goodFrameReceived (encodeFrame report)) (after .lineBusy base)).line.counters.good = 1 := by decide +kernel

/-- A byte in error after a complete good frame makes no bad frame. -/
theorem test_later_byte_discarded :
    after (.badFrame (((later report).map cleanByte) ++ [⟨0x11#8, true⟩])) receiving = receiving.refresh ∧
      (after (.badFrame [⟨0xFF#8, false⟩]) receiving).line.counters.bad = 1 := by decide +kernel

/-- A refusal flash is lit and dark for 250 ms in turn, a PRE_ALARM flash for 500 ms. -/
theorem test_flash_rates : let s := { base with detection := { base.detection with flashSince := some 400000 } }
    s.refresh.pins.resetLamp = .flashing 250 400000 ∧ (Lamp.flashing 250 400000).litAt 400249 = true ∧
      (Lamp.flashing 250 400000).litAt 400250 = false ∧ (Lamp.flashing 500 0).litAt 400499 = true ∧
      (Lamp.flashing 500 0).litAt 400500 = false := by decide +kernel

/-- A station with an attempt in this phase. -/
def sending (p : AttemptPhase) : State :=
  { base with line := { base.line with
      busy := true, receiver := .discarding, lastByte := 399000, series := some ⟨[0xC3#8, 0x0E#8], 1, 4, p⟩ } }

theorem test_readback_sends_next_or_collides :
    let s := sending (.transmitting 0)
    (after (.byteReadback ⟨0xC3#8, false⟩) s).line.series = some ⟨[0xC3#8, 0x0E#8], 1, 4, .transmitting 1⟩ ∧
      (after (.byteReadback ⟨0xC2#8, false⟩) s).line.series = some ⟨[0xC3#8, 0x0E#8], 2, 16, .waitingIdle⟩ := by
  decide +kernel

/-- An event that changes the content fills the slot, urgently where nothing has been composed, and not where only another item
than the urgent ones differs. -/
theorem test_slot_filled :
    let change (s : State) : State := { s with detection := { s.detection with key := ⟨.auto, some (.service, 399950)⟩ } }
    let composed : State := { base with composer := { base.composer with lastComposed := some (base.composeReport 3#8) } }
    (after .keySwitchChange (change base)).line.pendingSlot = some true ∧
    (after .keySwitchChange (change composed)).line.pendingSlot = some false := by decide +kernel

/-! ### Hypotheses met: the laws -/

theorem base_zonesLawful : ZonesLawful base where
  formedNow := by decide +kernel
  alarmLatched := fun h => absurd h (by decide +kernel)
  source := by intro z; cases z <;> decide +kernel
  pendingSmoke := by intro z; cases z <;> decide +kernel
  resetting := fun h => absurd rfl h
  hidden := fun _ h => absurd h (by simp [base, State.powerOnValues, Detection.atStart])
  hiddenOnly := by intro l; cases l <;> exact fun h => absurd h (by decide +kernel)

/-- The zone laws speak of the settings, the zones and the detection alone. -/
theorem zonesLawful_of_same {s t : State} (h : ZonesLawful s) (hc : t.cfg = s.cfg) (hz : t.zones = s.zones)
    (hd : t.detection = s.detection) : ZonesLawful t := by
  obtain ⟨h1, h2, h3, h4, h5, h6, h7⟩ := h
  constructor <;> (try rw [hc]) <;> (try rw [hz]) <;> (try rw [hd]) <;> assumption

theorem lineLawful_idle (s : State) (h0 : s.phase = .running) (h1 : s.line.errorCounter = 0) (h2 : s.line.degraded = false)
    (h3 : s.line.goodRun = 0) (h4 : s.line.counters = ⟨0, 0, 0, 0, 0⟩) (h5 : s.line.join = .running)
    (h6 : s.line.proving = none)
    (h7 : ∀ x, s.line.series = some x → 1 ≤ x.attempt ∧ x.attempt ≤ 5 ∧ 0 < x.window)
    (h8 : ∀ x r since, s.line.series = some x → x.phase = .backoff r since → r < x.window)
    (h9 : s.line.rxBytes ≠ [] → s.line.receiver = .assembling) (h10 : s.line.rxBytes.length ≤ 43) : LineLawful s := by
  constructor <;> first | assumption | simp_all

theorem sending_lineLawful (p : AttemptPhase) (h : ∀ r since, p = .backoff r since → r < 4) : LineLawful (sending p) := by
  apply lineLawful_idle <;> first | rfl | skip
  · intro x hx
    obtain rfl : _ = x := Option.some.inj hx
    simp
  · intro x r since hx hp
    obtain rfl : _ = x := Option.some.inj hx
    exact h r since hp
  · exact fun h => absurd rfl h
  · exact Nat.zero_le 43

theorem base_lineLawful : LineLawful base := by
  apply lineLawful_idle <;> first | rfl | decide +kernel | (intros; contradiction)

theorem receiving_lineLawful : LineLawful receiving := by
  apply lineLawful_idle <;> first | rfl | decide +kernel | (intros; contradiction)

theorem receiving_ready : receiving.line.ready := ⟨rfl, Or.inl rfl⟩

/-- The first byte held and the rest of a frame bring the frame. -/
theorem receiving_bringsFrame (r : Report) (h : (encodeFrame r).head? = some 0xC3#8) :
    bringsFrame receiving (later r) (encodeFrame r) := by
  obtain ⟨f, hf⟩ : ∃ f, encodeFrame r = 0xC3#8 :: f := ⟨_, List.eq_cons_of_mem_head? h⟩
  exact ⟨[], by rw [later, hf]; simp [receiving, cleanByte]⟩

/-- No whole frame stands in its first byte. -/
theorem receiving_notWhole (f : List Byte) (hf : goodFrame f = true) : ¬ bringsFrame receiving [] f := by
  rintro ⟨rest, h⟩
  have hl : f.length ≤ 1 := by have := congrArg List.length h; simp [receiving] at this; omega
  match f, hl with
  | [], _ => exact absurd hf (by decide)
  | [b], _ => simp [goodFrame, frameComplete] at hf

theorem base_peersLawful : PeersLawful base where
  addresses := fun _ => by decide +kernel
  score := by
    intro p hp c h
    obtain ⟨a, -, rfl⟩ := List.mem_map.1 hp
    rcases h with h | h <;> cases h

theorem receiving_peersLawful : PeersLawful receiving := ⟨base_peersLawful.1, base_peersLawful.2⟩

/-- Each unit holds its table's result, and the outputs are formed. -/
def settled (s : State) : State :=
  ({ s with units := Four.ofFn fun u => { s.units.get u with pair := s.resultOf u } } : State).refresh

theorem settled_driveLawful (s : State) (slots : (settled s).slotsHeld ≤ 3) (key : s.key ≠ .lockout)
    (weather : WeatherFormed (settled s)) (brigade : (settled s).zones.brigade = (settled s).resolution)
    (members : ∀ u r, ((settled s).units.get u).status = .inFlight r → ∀ m ∈ r.members, (settled s).cfg.leader m = u) :
    DriveLawful (settled s) where
  slots := slots
  members := members
  formed := fun _ => State.refresh_refresh _
  weather := fun _ => weather
  brigade := fun _ => brigade
  pairs := fun _ u _ => by cases u <;> rfl
  lockedUnits := fun _ h => absurd h key
  lockedProbes := fun _ h => absurd h key
  lockedOutputs := fun _ h => absurd h key

/-- Every leaf stands closed under the storm guard, so no leaf needs a run. -/
def closed : State := settled { base with feedback := Four.const { leafHalfOpen with count := some 0 } }

theorem closed_driveLawful : DriveLawful closed :=
  settled_driveLawful _ (by decide +kernel) (by decide +kernel)
    ⟨by decide +kernel, by decide +kernel, by decide +kernel⟩ (by decide +kernel) (by intro u r h; cases u <;> cases h)

/-- Every step keeps the laws: each law holds in a state that steps. -/
theorem meets_EveryStepKeepsLaws : ZonesLawful base ∧ LineLawful base ∧ PeersLawful base ∧
    step base = .next { base with now := 400001 } ∧ DriveLawful closed ∧
    step closed = .next { closed with now := 400001 } :=
  ⟨base_zonesLawful, base_lineLawful, base_peersLawful, rfl, closed_driveLawful, rfl⟩

theorem meets_EveryLeafIsJudged : Running closed ∧ membersBelong closed ∧ closed.cfg.isUnit .n1 = true ∧
    ((closed.close closed false).units.get .n1).status = .rest :=
  ⟨rfl, closed_driveLawful.members, by decide +kernel, by decide +kernel⟩

/-! ### Hypotheses met: chapter 1 -/

/-- The call point OPERATED with the smoke zone latched, while a frame comes in. -/
def operated : State := { receiving with
  detection := { base.detection with callPoint := ⟨.alarm, none, 200⟩, localState := .alarm }
  zones := { base.zones with records := base.zones.records.set .z1 ⟨.latched, 0#8, .own⟩ } }

theorem operated_zonesLawful : ZonesLawful operated where
  formedNow := by decide +kernel
  alarmLatched := fun _ => by decide +kernel
  source := by intro z; cases z <;> decide +kernel
  pendingSmoke := by intro z; cases z <;> decide +kernel
  resetting := fun h => absurd rfl h
  hidden := fun _ h => absurd h (by simp [operated, receiving, base, State.powerOnValues, Detection.atStart])
  hiddenOnly := by intro l; cases l <;> exact fun h => absurd h (by decide +kernel)

/-- A report with a new mark for the smoke zone, with every part at the end of its range. -/
def fullReport : Report := { report with
  marks := ⟨1#8, 0#8, 0#8, 0#8, 0#8, 0#8, 0#8, 0#8⟩
  weather := some ⟨600, 15, .wet⟩
  comfort := some 100
  overridePart := some ⟨.actOpen, 1#8, 65535⟩
  leaves := [⟨.n1, some 1000, .idle, .fire, true, false, false⟩, ⟨.n2, none, .unref, .none, false, true, true⟩,
    ⟨.n3, some 0, .moving, .rain, false, false, false⟩, ⟨.n4, some 500, .out, .brigade, false, false, true⟩] }

theorem fullReport_wf : fullReport.wf where
  source := by decide
  smokeZone := by decide
  weather := by intro w h; cases h; decide
  comfort := by intro c h; cases h; decide
  epoch := by intro o h; cases h; decide
  position := by decide
  leaves := by decide

theorem meets_FrameRoundTrip : report.wf ∧ fullReport.wf ∧ (encodeFrame report).length = 18 ∧
    (encodeFrame fullReport).length = 43 := by
  refine ⟨?_, fullReport_wf, by decide +kernel, by decide +kernel⟩
  constructor <;> decide

theorem meets_GoodReportAdoptsAndLatches :
    (Running operated ∧ ZonesLawful operated ∧ operated.line.ready ∧
      bringsFrame operated (later fullReport) (encodeFrame fullReport) ∧ goodFrame (encodeFrame fullReport) = true ∧
      decodeFrame (encodeFrame fullReport) = fullReport ∧ fullReport.source ≠ operated.line.ownAddress ∧
      operated.peers.find? 7 = some ⟨7, .absent⟩ ∧ PeerStatus.absent.judge 9#8 ≠ .duplicate) ∧
    serialGreater (fullReport.marks.get operated.cfg.smokeZone) (operated.zones.records.get operated.cfg.smokeZone).mark =
      true ∧ (operated.zones.records.get operated.cfg.smokeZone).state = .latched := by
  refine ⟨⟨rfl, operated_zonesLawful, receiving_ready, receiving_bringsFrame fullReport (by decide +kernel), ?_⟩, ?_⟩ <;>
    decide +kernel

/-- The settings in force with a change. -/
def withCfg (c : Settings) (s : State) : State := { s with store := { s.store with inForce := c } }

/-- A press of the zone-reset key that has just stood, with or without the reset right, and these zone records. -/
def keyPressed (right : Bool) (z : PerZone ZoneRecord) (d : Detection) : State :=
  withCfg { Settings.defaults with resetRight := right } { base with
    detection := { d with zoneResetKey := ⟨false, some 399950⟩ }, zones := { base.zones with records := z } }

/-- The smoke zone, or zone 2, LATCHED by station 7. -/
def latchedSmoke : PerZone ZoneRecord := base.zones.records.set .z1 ⟨.latched, 255#8, .peer 7⟩
def latchedOther : PerZone ZoneRecord := base.zones.records.set .z2 ⟨.latched, 255#8, .peer 7⟩

theorem meets_ZoneResetKey :
    let cleared := base.detection
    let pressed := keyPressed true latchedSmoke cleared
    let isLatched (s : State) (z : Zone) : Prop := (s.zones.records.get z).state = .latched
    (Running base ∧ ¬ pressStands base.detection.zoneResetKey base.now) ∧
    pressStands pressed.detection.zoneResetKey pressed.now ∧
    (keyPressed false latchedSmoke cleared).cfg.resetRight = false ∧
    (∀ z, ¬ isLatched (keyPressed true base.zones.records cleared) z) ∧
    operated.detection.callPoint.state = .alarm ∧
    (pressed.cfg.resetRight = true ∧ pressed.detection.callPoint.state ≠ .alarm ∧
      isLatched pressed pressed.cfg.smokeZone ∧ pressed.detection.loopReset = .none) ∧
    (let s := keyPressed true latchedOther cleared; isLatched s .z2 ∧ ¬ isLatched s s.cfg.smokeZone) ∧
    (let s := keyPressed true latchedSmoke { cleared with loopReset := .settle 399000 };
      isLatched s s.cfg.smokeZone ∧ s.detection.loopReset ≠ .none) := by
  refine ⟨⟨rfl, ?_⟩, ⟨rfl, 399950, rfl, by decide +kernel⟩, rfl, fun z => ?_, ?_⟩
  · rintro ⟨-, since, h, -⟩; cases h
  · cases z <;> decide +kernel
  · decide +kernel

theorem meets_MarksOnlyAdvance : ∃ t, exec .lineIdle base = .next t := ⟨_, rfl⟩

theorem meets_BrigadeSwitch :
    let s := withCfg { Settings.defaults with brigadePanel := true } { base with
      detection := { base.detection with brigade := ⟨.auto, some (.openPos, 399950)⟩ } }
    Running s ∧ s.cfg.brigadePanel = true ∧ s.detection.brigade.due s.now = some .openPos := by
  refine ⟨rfl, ?_⟩; decide +kernel

theorem meets_HighestEpoch :
    State.overrideCandidates { base with zones := { base.zones with ownOverride := some ⟨.actOpen, 1#8, 3⟩ } } ≠ [] := by
  decide +kernel

/-! ### Hypotheses met: chapters 2 and 3 -/

/-- Own weather is offered, with two sectors equally frequent, of which the one sampled latest is reported. -/
theorem meets_ReportCarriesState :
    let s := withCfg { Settings.defaults with weatherReporter := true } { base with
      weather := { base.weather with speedWindow := [10, 15, 16], sectorWindow := [4, 3, 4, 3] } }
    offersWeather s ∧ reportsSector s.weather.sectorWindow 3 ∧ ¬ offersWeather base ∧
      (s.composeReport 9#8).weather = some ⟨13, 3, .unknown⟩ := by
  refine ⟨?_, ?_, ?_⟩
  · unfold offersWeather; decide +kernel
  · unfold reportsSector; decide +kernel
  · unfold offersWeather; decide +kernel

theorem meets_ReportMadeDue : Running base ∧ base.content ≠ operated.content ∧
    base.composer.lastComposed.map Report.content ≠ some base.content := by
  refine ⟨rfl, ?_⟩; decide +kernel

theorem meets_ComposerBeginsReports :
    let s := { base with line := { base.line with pendingSlot := some false } }
    let t := { s with composer := ⟨none, 255#8, some 400000, some 400000⟩ }
    (Running s ∧ s.line.pendingSlot = some false ∧ s.composer.holdoffEnds = none ∧ s.line.series = none ∧
      s.line.join = .running) ∧ Running t ∧ t.composer.holdoffEnds = some t.now ∧ t.composer.heartbeatDue = some t.now ∧
      base.line.pendingSlot = none := by
  refine ⟨⟨rfl, ?_⟩, rfl, ?_⟩ <;> decide +kernel

theorem meets_Backoff :
    let s := sending (.backoff 3 399999)
    let t := { s with line := { s.line with busy := false } }
    let w := { sending .waitingIdle with now := 399003 }
    (Running s ∧ LineLawful s ∧ s.line.series = some ⟨[0xC3#8, 0x0E#8], 1, 4, .backoff 3 399999⟩ ∧ s.line.busy = true) ∧
      (LineLawful t ∧ t.line.busy = false ∧ 399999 + 3 / 2 ≤ t.now) ∧
      LineLawful w ∧ w.line.busy = true ∧ w.line.lastByte + 3 ≤ w.now ∧ w.line.receiver ≠ .assembling := by
  have h : LineLawful (sending (.backoff 3 399999)) := sending_lineLawful _ (by rintro r since ⟨⟩; decide)
  have k : LineLawful (sending .waitingIdle) := sending_lineLawful _ (by rintro r since ⟨⟩)
  exact ⟨⟨rfl, h, rfl, rfl⟩, ⟨{ h with }, rfl, by decide⟩, { k with }, rfl, by decide, by decide⟩

/-- A start bit that opens a frame, one whose byte joins, one whose byte is discarded; an IDLE not due; no series in flight. -/
theorem meets_LineActivity :
    (Running base ∧ LineLawful base ∧ base.line.busy = false ∧ base.line.receiver = .hunting ∧
      base.line.transmitting = false ∧ base.line.series = none) ∧
    (Running receiving ∧ LineLawful receiving ∧ receiving.line.receiver = .assembling ∧
      judgeBytes receiving.line.rxBytes = none) ∧
    (sending .waitingIdle).line.receiver = .discarding ∧
    ({ base with now := 399002 } : State).now < base.line.lastByte + 3 :=
  ⟨⟨rfl, base_lineLawful, rfl, rfl, rfl, rfl⟩, ⟨rfl, receiving_lineLawful, rfl, by decide +kernel⟩, rfl, by decide +kernel⟩

theorem meets_FrameCutShort :
    let s := { receiving with now := 399003 }
    Running s ∧ LineLawful s ∧ s.line.busy = true ∧ s.line.transmitting = false ∧ s.line.lastByte + 3 ≤ s.now ∧
      s.line.receiver = .assembling ∧ ∀ f, goodFrame f = true → ¬ bringsFrame s [] f :=
  ⟨rfl, { receiving_lineLawful with }, rfl, rfl, by decide +kernel, rfl, receiving_notWhole⟩

/-- The fifth attempt, transmitting its first byte. -/
def lastAttempt : State :=
  { base with line := { base.line with busy := true, series := some ⟨[0xC3#8, 0x0E#8], 5, 64, .transmitting 0⟩ } }

theorem lastAttempt_lineLawful : LineLawful lastAttempt := by
  apply lineLawful_idle <;> first | rfl | skip
  · intro x hx
    obtain rfl : _ = x := Option.some.inj hx
    simp
  · intro x r since hx hp
    obtain rfl : _ = x := Option.some.inj hx
    cases hp
  · decide +kernel
  · decide +kernel

theorem meets_ReadbackAndCollision :
    (Running (sending (.transmitting 1)) ∧ LineLawful (sending (.transmitting 1)) ∧
      (sending (.transmitting 1)).line.series = some ⟨[0xC3#8, 0x0E#8], 1, 4, .transmitting 1⟩) ∧
    Running lastAttempt ∧ LineLawful lastAttempt ∧
      lastAttempt.line.series = some ⟨[0xC3#8, 0x0E#8], 5, 64, .transmitting 0⟩ ∧
      [0xC3#8, 0x0E#8][0]? ≠ some 0xC2#8 :=
  ⟨⟨rfl, sending_lineLawful _ (by rintro r since ⟨⟩), rfl⟩, rfl, lastAttempt_lineLawful, rfl, by decide⟩

/-- A station in LISTEN at its last proving period, while a frame comes in. -/
def listening : State := { receiving with line := { receiving.line with join := .listen, proving := some ⟨400000, 3, 3⟩ } }

theorem listening_lineLawful : LineLawful listening := by
  constructor <;> first | decide +kernel | (intros; contradiction)

theorem meets_BadFrame :
    (Running listening ∧ LineLawful listening ∧ listening.line.ready ∧ bringsBadFrame listening [⟨0xFF#8, false⟩] ∧
      joinsFailed listening.line = true) ∧
    (Running receiving ∧ LineLawful receiving ∧ bringsBadFrame receiving [⟨0xFF#8, false⟩] ∧
      joinsFailed receiving.line = false) ∧
    goodFrame (encodeFrame report) = true ∧
    receiving.line.rxBytes ++ ((later report).map cleanByte ++ [⟨0#8, true⟩]) =
      (encodeFrame report).map cleanByte ++ [⟨0#8, true⟩] := by
  have h : bringsBadFrame receiving [⟨0xFF#8, false⟩] :=
    ⟨[⟨0xC3#8, false⟩, ⟨0xFF#8, false⟩], [], rfl, by decide +kernel, by decide +kernel⟩
  exact ⟨⟨rfl, listening_lineLawful, receiving_ready, h, rfl⟩, ⟨rfl, receiving_lineLawful, h, rfl⟩, by decide +kernel,
    by decide +kernel⟩

/-- A station in MUTE, while a frame comes in. -/
def muted : State := { receiving with line := { receiving.line with join := .mute .addressInvalid } }

theorem meets_OwnAddressFrame : let own := { report with source := 5 }
    Running receiving ∧ LineLawful receiving ∧ receiving.line.ready ∧
    bringsFrame receiving (later own) (encodeFrame own) ∧ goodFrame (encodeFrame own) = true ∧
    (decodeFrame (encodeFrame own)).source = receiving.line.ownAddress ∧ receiving.line.join = .running ∧
    muted.line.join = .mute .addressInvalid ∧ LineLawful muted := by
  refine ⟨rfl, receiving_lineLawful, receiving_ready, receiving_bringsFrame _ (by decide +kernel), by decide +kernel,
    by decide +kernel, rfl, rfl, ?_⟩
  constructor <;> first | decide +kernel | (intros; contradiction)

theorem meets_ProvingTimer : Running listening ∧ listening.line.join = .listen ∧
    listening.line.proving = some ⟨400000, 3, 3⟩ ∧ 400000 ≤ listening.now ∧
    ({ listening with now := 399999 } : State).now < 400000 := ⟨rfl, rfl, rfl, by decide +kernel, by decide +kernel⟩

/-! ### Hypotheses met: chapters 4 to 6 -/

def scoreOk (p : PeerRecord) : Bool :=
  match p.status with
  | .absent => true
  | .fresh c => c.missScore ≤ 15 && c.goodRun ≤ 7 && (c.missScore < 6 || !c.reliable) && (c.missScore ≠ 0 || c.reliable)
  | .lost c => c.missScore ≤ 15 && c.goodRun ≤ 7 && (c.missScore < 6 || !c.reliable) && (c.missScore ≠ 0 || c.reliable)

theorem peersLawful_of {s : State} (ha : s.peers.records.map PeerRecord.address = recordAddresses s.line.ownAddress)
    (h : s.peers.records.all scoreOk = true) : PeersLawful s where
  addresses := fun _ => ha
  score := by
    intro p hp c hc
    have k := List.all_eq_true.1 h p hp
    rcases hc with hc | hc <;> simp [scoreOk, hc] at k <;> (obtain ⟨⟨⟨h1, h2⟩, h3⟩, h4⟩ := k) <;>
      exact ⟨h1, h2, fun h6 => h3.resolve_left (by omega), fun h0 => h4.resolve_left (by omega)⟩

/-- What a record of station 7 holds, with the sequence number, miss score, run and class given. -/
def content (sequence : Byte) (score run : Nat) (reliable : Bool) : PeerContent :=
  { PeerContent.initial report 393000 with
    lastSequence := sequence, missScore := score, goodRun := run, reliable := reliable
    weather := some ⟨100, 3, .dry, 370000⟩ }

/-- A station with this record of station 7, while a frame comes in. -/
def heard (st : PeerStatus) : State := { receiving with peers := receiving.peers.put 7 st }

theorem heard_lawful : PeersLawful (heard (.fresh (content 8#8 6 7 false))) ∧
    PeersLawful (heard (.fresh (content 9#8 0 0 true))) ∧ PeersLawful (heard (.fresh (content 10#8 15 0 false))) ∧
    PeersLawful (heard (.fresh (content 138#8 1 0 true))) ∧ PeersLawful (heard (.lost (content 9#8 5 0 true))) := by
  refine ⟨?_, ?_, ?_, ?_, ?_⟩ <;> apply peersLawful_of <;> decide +kernel

/-- The report of sequence 9 against each judgement: next in order, duplicate, 255, 127 ahead, LOST, ABSENT. -/
theorem meets_ReportJudged :
    (∀ st, Running (heard st) ∧ (heard st).line.ready ∧ (heard st).peers.find? 7 = some ⟨7, st⟩ ∧
      bringsFrame (heard st) (later report) (encodeFrame report) ∧ ZonesLawful (heard st)) ∧
    goodFrame (encodeFrame report) = true ∧ (decodeFrame (encodeFrame report)).source = 7 ∧
    (decodeFrame (encodeFrame report)).sequence = 9#8 ∧
    (PeerStatus.fresh (content 8#8 6 7 false)).judge 9#8 = .admitted 0 ∧
    (PeerStatus.fresh (content 9#8 0 0 true)).judge 9#8 = .duplicate ∧
    (PeerStatus.fresh (content 10#8 15 0 false)).judge 9#8 = .initialise ∧
    (PeerStatus.fresh (content 138#8 1 0 true)).judge 9#8 = .admitted 8 ∧
    (PeerStatus.lost (content 9#8 5 0 true)).judge 9#8 = .initialise :=
  ⟨fun _ => ⟨rfl, receiving_ready, rfl, receiving_bringsFrame report (by decide +kernel),
      zonesLawful_of_same base_zonesLawful rfl rfl rfl⟩, by decide +kernel, by decide +kernel, by decide +kernel, by decide +kernel,
    by decide +kernel, by decide +kernel, by decide +kernel, by decide +kernel⟩

/-- The weather held 30,000 ms ago is replaced by a report's own. -/
theorem meets_ReportPartsStored : goodFrame (encodeFrame fullReport) = true ∧
    decodeFrame (encodeFrame fullReport) = fullReport ∧ fullReport.weather = some ⟨600, 15, .wet⟩ ∧
    (content 8#8 6 7 false).weather = some ⟨100, 3, .dry, 370000⟩ ∧ 370000 + 30000 ≤ (heard .absent).now := by
  decide +kernel

theorem meets_Silence :
    let s := heard (.fresh (content 9#8 0 0 true))
    let t := { base with peers := { base.peers with settledFrom := some 393000 } }
    Running s ∧ PeersLawful s ∧ s.peers.find? 7 = some ⟨7, .fresh (content 9#8 0 0 true)⟩ ∧ 393000 + 7000 ≤ s.now ∧
      t.peers.settledFrom = some 393000 :=
  ⟨rfl, heard_lawful.2.1, rfl, by decide +kernel, rfl⟩

theorem meets_Samples : base.phase ≠ .off := by decide +kernel

/-- A loop with a candidate that has just stood for 2 s, and a confirm timer that has just run for 120 s. -/
def confirming : State := { base with detection := { base.detection with
  loops := ⟨⟨.normal, some ⟨.alarm, 398000⟩, 120, .cleared, none⟩, ⟨.alarm, none, 200, .running 280000, none⟩⟩
  callPoint := ⟨.normal, some ⟨.alarm, 398000⟩, 120⟩
  localState := .preAlarm } }

theorem confirming_zonesLawful : ZonesLawful confirming where
  formedNow := by decide +kernel
  alarmLatched := fun h => absurd h (by decide +kernel)
  source := by intro z; cases z <;> decide +kernel
  pendingSmoke := by intro z; cases z <;> decide +kernel
  resetting := fun h => absurd rfl h
  hidden := fun _ h => absurd h (by simp [confirming, base, State.powerOnValues, Detection.atStart])
  hiddenOnly := by intro l; cases l <;> exact fun h => absurd h (by decide +kernel)

theorem meets_DebouncedClass :
    Running confirming ∧ ZonesLawful confirming ∧
    ((confirming.detection.loops.get .d2).confirm = .running 280000 ∧
      280000 + confirming.cfg.confirmTime * 1000 ≤ confirming.now) ∧
    (398000 + confirming.cfg.debounce * 1000 ≤ confirming.now ∧ confirming.detection.loopReset = .none ∧
      (confirming.detection.loops.get .d1).state ≠ .disabled ∧ (confirming.detection.loops.get .d1).hidden = none ∧
      (confirming.detection.loops.get .d1).candidate = some ⟨.alarm, 398000⟩) ∧
    confirming.detection.callPoint.candidate = some ⟨.alarm, 398000⟩ := by
  refine ⟨rfl, confirming_zonesLawful, ?_⟩; decide +kernel

/-- The smoke zone PENDING, every other zone CLEAR. -/
def pendingZones : PerZone ZoneRecord := base.zones.records.set .z1 ⟨.pending, 1#8, .none⟩

/-- A loop reset in a phase, with the loops' hidden classes and these zone records. -/
def resetting (reset : LoopReset) (h : Option Band) (z : PerZone ZoneRecord) : State := { base with
  detection := { base.detection with
    loopReset := reset, loops := ⟨⟨.resetting, none, 0, .cleared, h⟩, ⟨.resetting, none, 0, .cleared, h⟩⟩ }
  zones := { base.zones with records := z } }

theorem resetting_zonesLawful (reset : LoopReset) (h : Option Band) (z : PerZone ZoneRecord)
    (hh : h.isSome = true ↔ ∃ since, reset = .settle since)
    (hz : ∀ y, (z.get y).state = .latched ↔ (z.get y).source ≠ .none) (hp : ∀ y, (z.get y).state = .pending → y = .z1) :
    ZonesLawful (resetting reset h z) where
  formedNow := by cases reset <;> cases h <;> rfl
  alarmLatched := fun h => nomatch (h : LocalDetection.quiet = .alarm)
  source := hz
  pendingSmoke := hp
  resetting := fun _ l => by cases l <;> exact Or.inl rfl
  hidden := fun since hs l => by cases l <;> exact Or.inl (hh.2 ⟨since, hs⟩)
  hiddenOnly := fun l hl => by cases l <;> exact hh.1 hl

theorem pendingZones_lawful : (∀ y, (pendingZones.get y).state = .latched ↔ (pendingZones.get y).source ≠ .none) ∧
    ∀ y, (pendingZones.get y).state = .pending → y = .z1 := by
  refine ⟨fun y => ?_, fun y => ?_⟩ <;> cases y <;> decide +kernel

/-- A hidden class that a candidate has stood against during SETTLE. -/
theorem meets_HiddenClassTaken :
    let s := resetting (.settle 390000) (some .normal) pendingZones
    let d := { s.detection with loops := { s.detection.loops with
      d1 := { s.detection.loops.d1 with candidate := some ⟨.alarm, 398000⟩ } } }
    Running { s with detection := d } ∧ ZonesLawful { s with detection := d } ∧ d.loopReset = .settle 390000 ∧
      (d.loops.get .d1).state ≠ .disabled ∧ (d.loops.get .d1).hidden = some .normal ∧
      (d.loops.get .d1).candidate = some ⟨.alarm, 398000⟩ ∧ 398000 + s.cfg.debounce * 1000 ≤ s.now := by
  have h := resetting_zonesLawful (.settle 390000) (some .normal) _ (by simp) pendingZones_lawful.1 pendingZones_lawful.2
  exact ⟨rfl, ⟨rfl, h.alarmLatched, h.source, h.pendingSmoke, fun _ l => by cases l <;> exact Or.inl rfl,
    fun _ _ l => by cases l <;> exact Or.inl rfl, fun l _ => ⟨390000, rfl⟩⟩, rfl, by decide +kernel⟩

/-- A settle end that brings local detection to ALARM, the smoke zone CLEAR or LATCHED by a peer. -/
theorem meets_SettleEntersAlarm :
    let s := resetting (.settle 390000) (some .alarm)
    ZonesLawful (s base.zones.records) ∧ ZonesLawful (s latchedSmoke) ∧
      (after .settleEnd (s base.zones.records)).zones.records.z1 = ⟨.latched, 0#8, .own⟩ ∧
      (after .settleEnd (s latchedSmoke)).zones.records.z1 = ⟨.latched, 255#8, .own⟩ ∧
      entersAlarm (s latchedSmoke) (after .settleEnd (s latchedSmoke)) = true :=
  ⟨resetting_zonesLawful _ _ _ (by simp) (fun y => by cases y <;> decide +kernel) (fun y => by cases y <;> decide +kernel),
    resetting_zonesLawful _ _ _ (by simp) (fun y => by cases y <;> decide +kernel) (fun y => by cases y <;> decide +kernel),
    by decide +kernel⟩

theorem meets_LoopReset :
    let p := resetting (.powerOff 395000) none pendingZones
    let t := resetting (.settle 390000) (some .alarm) pendingZones
    (Running p ∧ ZonesLawful p ∧ p.detection.loopReset = .powerOff 395000 ∧ 395000 + 5000 ≤ p.now) ∧
    Running t ∧ ZonesLawful t ∧ t.detection.loopReset = .settle 390000 ∧ 390000 + 10000 ≤ t.now ∧
      (t.zones.records.get t.cfg.smokeZone).state = .pending ∧ (t.detection.loops.get .d1).hidden = some .alarm :=
  ⟨⟨rfl, resetting_zonesLawful _ _ _ (by simp) pendingZones_lawful.1 pendingZones_lawful.2, rfl, by decide +kernel⟩,
    rfl, resetting_zonesLawful _ _ _ (by simp) pendingZones_lawful.1 pendingZones_lawful.2, rfl, by decide +kernel,
    by decide +kernel, rfl⟩

/-- The first contact reading taken, the key at SERVICE, with these holds. -/
def switches (key : Option (KeyReading × Nat)) (open_ : Option Nat) : State := { base with detection := { base.detection with
  firstReading := true, key := ⟨.service, key⟩, openButton := ⟨false, open_⟩, direction := .opening } }

theorem meets_Switches :
    let s := switches (some (.lockout, 399950)) (some 399950)
    base.detection.firstReading = false ∧ s.detection.firstReading = true ∧ s.detection.zoneResetKey.made = false ∧
    (Running s ∧ s.detection.key.hold = some (.lockout, 399950) ∧ 399950 + 50 ≤ s.now ∧
      KeyReading.lockout ≠ s.detection.key.held ∧ s.detection.key.held = .service) ∧
    (s.detection.button .openButton).pressDue s.now = true ∧ s.detection.direction = .opening := by
  refine ⟨rfl, rfl, rfl, ⟨rfl, ?_⟩, ?_⟩ <;> decide +kernel

/-- The first reading is taken; later a hold begins, keeps its moment and ends, and a release that has stood is taken. -/
theorem test_contacts_read : contactAfter true ⟨false, none⟩ true 9 = ⟨true, none⟩ ∧
    contactAfter false ⟨false, none⟩ true 9 = ⟨false, some 9⟩ ∧ contactAfter false ⟨false, some 9⟩ true 99 = ⟨false, some 9⟩ ∧
    contactAfter false ⟨false, some 9⟩ false 99 = ⟨false, none⟩ ∧
    (let s := { base with detection := { base.detection with firstReading := true, openButton := ⟨true, some 399950⟩ } };
      (after (.switchSample contacts) s).detection.openButton = ⟨false, none⟩ ∧
      (after (.switchSample contacts) { s with now := 399999 }).detection.openButton = ⟨true, some 399950⟩) := by
  decide +kernel

theorem meets_HeldStepAndFlash :
    let s := withCfg { Settings.defaults with bmEnable := true } { base with
      detection := { base.detection with flashSince := some 397000 } }
    Running s ∧ s.cfg.bmEnable = true ∧ s.detection.flashSince = some 397000 ∧ 397000 + 3000 ≤ s.now := by
  refine ⟨rfl, ?_⟩; decide +kernel

/-- A reporter at the end of a measurement second, its rain contact just dried off. -/
def reporter : State := withCfg { Settings.defaults with weatherReporter := true } { base with
  weather := { base.weather with windowStart := 399000, rainState := .wet, dryOffSince := some 100000 } }

theorem meets_MeasurementAndRain : Running reporter ∧ reporter.cfg.weatherReporter = true ∧
    reporter.weather.windowStart + 1000 ≤ reporter.now ∧ reporter.weather.dryOffSince = some 100000 ∧
    100000 + 300000 ≤ reporter.now := by
  refine ⟨rfl, ?_⟩; decide +kernel

theorem meets_LargestSpeed : [WeatherCandidate.mk 5 100 3 .dry, ⟨7, 100, 4, .wet⟩] ≠ [] ∧
    (governingOf [WeatherCandidate.mk 5 100 3 .dry, ⟨7, 100, 4, .wet⟩]) = some ⟨100, 3, 5⟩ := by decide +kernel

/-- A clear hold and a pending class of leaf 1 that have just run, the wind standing as formed. -/
def holding : State := { base with weather := { base.weather with
  clearSince := some 340000, sides := base.weather.sides.set .n1 ⟨.windward, some (.leeward, 390000)⟩ } }

theorem meets_StormGuardAndSides :
    Running holding ∧ WeatherFormed holding ∧ holding.weather.clearSince = some 340000 ∧ 340000 + 60000 ≤ holding.now ∧
    (holding.weather.sides.get (holding.cfg.leader .n1)).pendingClass = some (.leeward, 390000) ∧
    390000 + 10000 ≤ holding.now :=
  ⟨rfl, ⟨by decide +kernel, by decide +kernel, by decide +kernel⟩, rfl, by decide +kernel, by decide +kernel,
    by decide +kernel⟩

/-- A governing wind that a FRESH peer's weather changes, above and below the storm threshold. -/
theorem meets_StormGuardChanged :
    let s := heard (.fresh { content 9#8 0 0 true with weather := some ⟨140, 3, .dry, 399000⟩ })
    let t := heard (.fresh { content 9#8 0 0 true with weather := some ⟨119, 3, .dry, 399000⟩ })
    s.formWeather.weather.governing = some ⟨140, 3, 7⟩ ∧ s.weather.governing = none ∧
      s.formWeather.weather.clearSince = none ∧ t.formWeather.weather.clearSince = some 400000 := by decide +kernel

/-- A governing wind that changes has the sides judged: an UNDECIDED class is left at once, another is held first. -/
theorem test_changed_wind_judges_sides :
    let s := heard (.fresh { content 9#8 0 0 true with weather := some ⟨140, 8, .dry, 399000⟩ })
    let t := { s with weather := { s.weather with sides := s.weather.sides.set .n2 ⟨.windward, none⟩ } }
    t.formWeather.weather.sides.f1 = ⟨.leeward, none⟩ ∧
      t.formWeather.weather.sides.f2 = ⟨.windward, some (.leeward, 400000)⟩ ∧
      t.formWeather.formWeather.weather = t.formWeather.weather := by decide +kernel

theorem meets_ComputedClass : computedClass (some ⟨14, 0, 5⟩) 8 = .leeward ∧ computedClass (some ⟨15, 0, 5⟩) 3 = .windward ∧
    computedClass (some ⟨15, 0, 5⟩) 13 = .windward ∧ computedClass (some ⟨15, 0, 5⟩) 4 = .cross ∧
    computedClass (some ⟨15, 0, 5⟩) 5 = .leeward ∧ computedClass (some ⟨600, 15, 5⟩) 0 = .windward := by decide +kernel

theorem meets_SideClassTaken : (⟨.undecided, none⟩ : SideRecord).takeClass .cross 5 = ⟨.cross, none⟩ ∧
    (⟨.cross, some (.leeward, 1)⟩ : SideRecord).takeClass .leeward 5 = ⟨.cross, some (.leeward, 1)⟩ ∧
    (⟨.cross, some (.leeward, 1)⟩ : SideRecord).takeClass .windward 5 = ⟨.cross, some (.windward, 5)⟩ ∧
    (⟨.cross, some (.leeward, 1)⟩ : SideRecord).takeClass .cross 5 = ⟨.cross, none⟩ := by decide +kernel

/-! ### Hypotheses met: chapters 7 to 9 -/

theorem meets_ResolutionOfSlots :
    (SlotValues.mk none none (some 800) none (some 0) (some 0)).resolve none = ⟨some 0, .storm⟩ ∧
    (SlotValues.mk none none none (some 800) none (some 100)).resolve none = ⟨some 100, .rain⟩ ∧
    (SlotValues.mk none none none none (some 0) (some 0)).resolve (some 1) = ⟨some 0, .storm⟩ ∧
    (SlotValues.mk none none none none none (some 100)).resolve (some 100) = ⟨none, .none⟩ := by decide +kernel

theorem meets_SlotSources :
    let s := withCfg { Settings.defaults with comfortSource := 7 } (heard (.fresh { content 9#8 0 0 true with comfort := some 100 }))
    let t := withCfg { Settings.defaults with comfortSource := 5 } base
    s.cfg.comfortSource ≠ s.line.ownAddress ∧ (s.slotsOf .n1).comfort = some 1000 ∧
      t.cfg.comfortSource = t.line.ownAddress ∧ (t.slotsOf .n1).comfort = some 0 := by decide +kernel

/-- Leaf 1 with another feedback record. -/
def withFeedback (f : FeedbackRecord) (s : State) : State := { s with feedback := s.feedback.set .n1 f }

/-- Leaf 1's run in a stage. -/
def inStage (st : Stage) (r : Run) : State := running { r with stage := st } motorOn base

theorem meets_StartingAndBlanking :
    let s := inStage (.starting 400000) openRun
    let t := running openRun { motorOn with checks := .blanking 400000 } base
    s.phase ≠ .off ∧ (s.unitOf .n1).status = .inFlight { openRun with stage := .starting 400000 } ∧ 400000 ≤ s.now ∧
      t.leafAt .n1 = some .n1 ∧ (t.members.get .n1).checks = .blanking 400000 := by decide +kernel

/-- Leaf 1's record in TIMED mode, at an estimate of 500. -/
def timedHalfOpen : FeedbackRecord := { leafHalfOpen with mode := .timed, count := none, estimate := some 500 }

/-- A motor-on period begins at a switch-on in TIMED mode, and at the change to TIMED with the motor on, from the position. -/
theorem test_periods_begin :
    let lost := after (.feedbackEdge .n1 .a) (withFeedback { leafHalfOpen with lastLine := some .a } opening)
    (after (.startingEnd .n1) (withFeedback timedHalfOpen (inStage (.starting 400000) openRun))).feedback.f1.period =
      some ⟨500, 400000, .quiet⟩ ∧
    (lost.feedback.f1.estimate, lost.feedback.f1.period) = (some 500, some ⟨500, 400000, .quiet⟩) ∧
    (after (.pulseWatchdogExpiry .n1 12) (withFeedback { leafHalfOpen with watchdog := some 399200 } opening)).feedback.f1.period =
      some ⟨500, 400000, .quiet⟩ := by decide +kernel

theorem opening_driving : driving opening .n1 .n1 openRun ∧ driving closing .n1 .n1 closeRun := ⟨⟨rfl, rfl, rfl, rfl⟩, rfl, rfl, rfl, rfl⟩

/-- Each finding at its least current and its shortest time. -/
theorem meets_FaultFindings :
    let due := running { openRun with timeoutDue := some 400000 } { motorOn with slice := some ⟨2, 400000⟩ } base
    let pinching := running { closeRun with pinchFrom := 399900 } { motorOn with checks := .applied 399900 } base
    opening.phase ≠ .off ∧ (opening.feedback.get .n1).probe.pulsing = false ∧ opening.cfg.stall.get .n1 = 25 ∧
    (running openRun { motorOn with checks := .applied 399700 } base).members.f1.checks = .applied 399700 ∧
      399700 + 300 ≤ opening.now ∧
    (pinching.cfg.pinch.get .n1 = 16 ∧ 399900 + 100 ≤ pinching.now ∧ pinching.position .n1 = some 500 ∧
      (pinching.members.get .n1).slice = none) ∧
    (due.unitOf .n1).status = .inFlight { openRun with timeoutDue := some 400000 } ∧ 400000 ≤ due.now ∧
      (due.members.get .n1).slice = some ⟨2, 400000⟩ := by decide +kernel

theorem meets_FindingsOutside :
    let fire := running { closeRun with slot := .fire } { motorOn with checks := .blanking 400001 } base
    let late := running { closeRun with pinchFrom := 399901 } { motorOn with checks := .applied 399901 } base
    let probing := running { closeRun with target := 0 } { motorOn with slice := some ⟨1, 400001⟩ } base
    let closed := withFeedback { leafHalfOpen with count := some 100 } closing
    let unknown := withFeedback { leafHalfOpen with count := none } closing
    (driving fire .n1 .n1 { closeRun with slot := .fire } ∧ (fire.members.get .n1).checks = .blanking 400001 ∧
      24 < fire.cfg.stall.get .n1 ∧ 15 < fire.cfg.pinch.get .n1) ∧
    (driving late .n1 .n1 { closeRun with pinchFrom := 399901 } ∧ checkedLessThan late .n1 100 ∧ late.now < 399901 + 100) ∧
    (driving probing .n1 .n1 { closeRun with target := 0 } ∧ (probing.members.get .n1).slice ≠ none) ∧
    (driving closed .n1 .n1 closeRun ∧ closed.position .n1 = some 20) ∧
    (driving unknown .n1 .n1 closeRun ∧ unknown.position .n1 = none) ∧ ∀ l r, ¬ driving base .n1 l r := by
  refine ⟨⟨⟨rfl, rfl, rfl, rfl⟩, rfl, by decide +kernel⟩, ⟨⟨rfl, rfl, rfl, rfl⟩, ?_, by decide +kernel⟩,
    ⟨⟨rfl, rfl, rfl, rfl⟩, nofun⟩, ⟨⟨rfl, rfl, rfl, rfl⟩, rfl⟩, ⟨⟨rfl, rfl, rfl, rfl⟩, rfl⟩, ?_⟩
  · rintro since ⟨⟩; decide +kernel
  · rintro l r ⟨-, h, -⟩; cases l <;> cases h

/-- A pinch is found at position 21 and not at 20, with the least current and not below it. -/
theorem test_pinch_boundaries :
    let at_ (count current : Nat) := (after (.pinch .n1 current) (withFeedback { leafHalfOpen with count := some count }
      closing)).motion .n1
    at_ 101 16 = .rundown ∧ at_ 100 16 = .running ∧ at_ 101 15 = .running := by decide +kernel

theorem meets_EndsFixPosition :
    driving opening .n1 .n1 openRun ∧ driving closing .n1 .n1 closeRun ∧ (closing.members.get .n1).switchMade = false ∧
    (opening.members.get .n1).checks = .applied 399300 ∧ 399300 + 200 ≤ opening.now ∧ N4.n1 ∈ closeRun.members ∧
    (opening.feedback.get .n1).mode = .pulse ∧ (opening.feedback.get .n1).drift ≤ 65535 :=
  ⟨opening_driving.1, opening_driving.2, by decide +kernel⟩

theorem meets_RundownEnds (e : Ending) :
    Running (inStage (.rundown 400000 e) openRun) ∧
    ((inStage (.rundown 400000 e) openRun).unitOf .n1).status = .inFlight { openRun with stage := .rundown 400000 e } ∧
    400000 ≤ (inStage (.rundown 400000 e) openRun).now := ⟨rfl, rfl, Nat.le_refl _⟩

/-- The rest position's clauses: the run's leaf is the unit's own, and it needs no run without a target. -/
theorem meets_RestPositionHanded (e : Ending) : membersBelong (inStage (.rundown 400000 e) openRun) ∧
    ¬ unitNeeds (inStage (.rundown 400000 e) openRun) .n1 := by
  refine ⟨?_, ?_⟩
  · intro u r h m hm
    cases u with
    | n1 => cases h; obtain rfl := List.mem_singleton.1 hm; rfl
    | n2 => cases h
    | n3 => cases h
    | n4 => cases h
  · rintro ⟨-, -, h | ⟨_, h, -⟩⟩ <;> cases h

/-- Leaf 1 at the end of a RUNDOWN with an ending, with these failures and pair. -/
def rundown (e : Ending) (failures : Nat) (r : Run) (p : Pair) : State :=
  let s := inStage (.rundown 400000 e) r
  { s with units := s.units.set .n1 { s.units.f1 with failureCount := failures, pair := p } }

def underFire : Pair := ⟨some 1000, .fire⟩

/-- A run's end hands the rest position, unknown after a stall in TIMED mode; a pinch and a unit back in the queue do not. -/
theorem test_rest_position_handed :
    let handed (s : State) := (after (.rundownEnd .n1) { s with
      tables := s.tables.set .n1 { s.tables.f1 with restPosition := some 7 } }).tables.f1.restPosition
    let again := { calmService with tables := calmService.tables.set .n1 ⟨some 800, none⟩ }
    handed (rundown .clean 0 openRun noTarget) = some 500 ∧ handed (rundown .halted 0 openRun noTarget) = some 500 ∧
    handed (rundown (.fault .stall) 0 openRun noTarget) = some 500 ∧
    handed (withFeedback timedHalfOpen (rundown (.fault .stall) 0 openRun noTarget)) = none ∧
    handed (rundown .stopped 0 openRun noTarget) = some 500 ∧ handed (rundown .pinched 0 closeRun noTarget) = some 7 ∧
    handed { again with units := (rundown .stopped 0 openRun ⟨some 800, .service⟩).units } = some 7 := by decide +kernel

theorem test_failures_and_holds :
    let end_ (e : Ending) (failures : Nat) (r : Run) (p : Pair) := (after (.rundownEnd .n1) (rundown e failures r p)).units.f1
    (end_ (.fault .stall) 2 openRun noTarget).retryHold = some ⟨30000, 400000⟩ ∧
    (end_ (.fault .stall) 2 openRun noTarget).failureCount = 3 ∧
    (end_ (.fault .stall) 3 openRun noTarget).retryHold = none ∧
    (end_ (.fault .stall) 3 openRun noTarget).failureCount = 4 ∧
    (end_ (.fault .stall) 0 { openRun with slot := .fire } noTarget).retryHold = some ⟨5000, 400000⟩ ∧
    (end_ (.fault .pinch) 0 openRun underFire).retryHold = none ∧
    (end_ (.fault .pinch) 0 openRun noTarget).lastRunFailed = true ∧ (end_ .clean 3 openRun noTarget).failureCount = 0 := by
  decide +kernel

/-- The RUNDOWN of a comfort run that failed, its pair the FIRE pair that its table gives. -/
def rundownUnderFire : State :=
  let s := { rundown (.fault .stall) 0 openRun noTarget with zones := { base.zones with records := latchedSmoke } }
  { s with units := s.units.set .n1 { s.units.f1 with pair := s.resultOf .n1 } }

theorem test_stored_fire_pair_leaves_hold : let t := after (.rundownEnd .n1) rundownUnderFire
    rundownUnderFire.units.f1.pair.slot = .fire ∧ t.units.f1.pair = rundownUnderFire.units.f1.pair ∧
      t.units.f1.retryHold = some ⟨30000, 400000⟩ := by decide +kernel

theorem test_rest_after_failures : let t (n : Nat) := after (.rundownEnd .n1) (rundown (.fault .stall) n openRun noTarget)
    (t 3).motion .n1 = .outOfService ∧ (t 0).motion .n1 = .idle ∧
    (let s := rundown (.fault .stall) 0 openRun noTarget;
      let timed : FeedbackRecord := { leafHalfOpen with mode := .timed, count := none, estimate := some 500 };
      let u := after (.rundownEnd .n1) { s with feedback := s.feedback.set .n1 timed };
      u.feedback.f1.estimate = none ∧ u.motion .n1 = .unref) := by decide +kernel

/-! The arbiter: a probe first, a start, a pause, a gang passed over, a preemption. -/

/-- Leaf 1 waiting for a target of 800. -/
def waiting (x : UnitRecord) : State := { calmService with
  units := calmService.units.set .n1 { x with pair := ⟨some 800, .service⟩, status := .waiting 399000 } }

theorem meets_QueueServed :
    let s := waiting .atStart
    let probe := { s with feedback := s.feedback.set .n3 { leafHalfOpen with probe := .requested } }
    let paused := waiting { UnitRecord.atStart with reversal := some (.closing, 400001) }
    let gang := withCfg { Settings.defaults with gang12 := true } { s with supply := { s.supply with state := .low } }
    (Running s ∧ s.detection.key.held ≠ .lockout ∧ s.startQueue = [.n1] ∧
      (s.serveStep.map fun t => t.units.f1.status) = some (.inFlight (startedRun s .n1))) ∧
    (probe.leafAt .n3 = some .n3 ∧ (probe.serveStep.map fun t => t.feedback.f3.probe) = some (.settle 400050)) ∧
    paused.serveStep = none ∧ (gang.startQueue = [.n1] ∧ gang.slotsNeeded .n1 = 2 ∧ gang.serveStep = none) := by
  refine ⟨⟨rfl, ?_⟩, ?_⟩ <;> decide +kernel

/-- Leaves 1 to 3 run, or the third starts, and leaf 4 waits under FIRE. -/
def crowded (third : Stage) : State := { calmService with units :=
  ⟨{ UnitRecord.atStart with status := .inFlight openRun },
    { UnitRecord.atStart with status := .inFlight { openRun with members := [.n2] } },
    { UnitRecord.atStart with status := .inFlight { openRun with members := [.n3], stage := third } },
    { UnitRecord.atStart with status := .waiting 399000, pair := underFire }⟩ }

theorem meets_Preemption :
    mayBePreempted (crowded .running) .n3 { openRun with members := [.n3] } ∧
    ((crowded .running).serveStep.map fun t => t.motion .n3) = some .rundown ∧
    ((crowded .running).serveStep.map fun t => t.motion .n2) = some .running ∧
    ((crowded (.starting 400001)).serveStep.map fun t => t.motion .n3) = some .idle ∧
    (crowded (.rundown 400001 .stopped)).serveStep = none :=
  ⟨⟨rfl, Or.inl rfl, by decide, by decide, by decide, rfl⟩, by decide +kernel⟩

/-! New pairs: leaf 1, at position 500 with no pair held, is given the service target. -/

def demanded (target : Nat) (x : UnitRecord) : State := { calmService with
  tables := calmService.tables.set .n1 ⟨some target, none⟩, units := calmService.units.set .n1 x
  members := calmService.members.set .n1 motorOn }

def unitIn (st : UnitStatus) : UnitRecord := { UnitRecord.atStart with status := st }

theorem meets_NewPairTaken (target : Nat) (x : UnitRecord) (hp : x.pair = noTarget)
    (hr : ∀ r, x.status = .inFlight r → r.members = [.n1]) :
    membersBelong (demanded target x) ∧ (demanded target x).cfg.isUnit .n1 = true ∧
      (demanded target x).resultOf .n1 ≠ ((demanded target x).units.get .n1).pair := by
  refine ⟨?_, rfl, ?_⟩
  · intro u r h m hm
    cases u with
    | n1 =>
      rw [hr r h] at hm
      obtain rfl := List.mem_singleton.1 hm
      rfl
    | n2 => cases h
    | n3 => cases h
    | n4 => cases h
  · have h : (demanded target x).resultOf .n1 = ⟨some target, .service⟩ := by with_unfolding_all rfl
    rw [h, show ((demanded target x).units.get .n1).pair = noTarget from hp]
    nofun

theorem test_pairs_taken_at_rest_and_waiting :
    let taken (target : Nat) (st : UnitStatus) := (((demanded target (unitIn st)).handPair .n1).units.f1).status
    taken 800 .rest = .rest ∧ taken 800 (.waiting 5) = .waiting 5 ∧ taken 505 (.waiting 5) = .rest ∧
    taken 506 (.waiting 5) = .waiting 5 ∧
    (let r := { openRun with stage := .starting 400001 };
      taken 505 (.inFlight r) = .rest ∧ taken 800 (.inFlight { r with backoff := true }) = .inFlight { r with backoff := true } ∧
      taken 0 (.inFlight r) = .inFlight ⟨.normal, false, 0, .closing, .quiet, .service, .starting 400050, none, [.n1], 400000⟩) ∧
    (let r := { openRun with stage := .rundown 400001 .stopped }; taken 0 (.inFlight r) = .inFlight r) := by decide +kernel

theorem test_pairs_taken_in_flight :
    let taken (target : Nat) (x : UnitRecord) := (((demanded target x).handPair .n1).units.f1).run?.map fun r => (r.target, r.stage)
    let stopped : Stage := .rundown 400150 .stopped
    let x := unitIn (.inFlight openRun)
    taken 800 x = some (800, .running) ∧ taken 505 x = some (600, stopped) ∧
    taken 1000 (unitIn (.inFlight { openRun with target := 1000 })) = some (1000, .running) ∧
    taken 800 { x with failureCount := 4 } = some (600, stopped) ∧
    taken 1000 (unitIn (.inFlight { openRun with kind := .unref, target := 1000 })) = some (1000, .running) ∧
    taken 0 (unitIn (.inFlight { openRun with kind := .unref, target := 1000 })) = some (1000, stopped) ∧
    (let s := demanded 800 x;
      ((({ s with supply := { s.supply with state := .low } } : State).handPair .n1).units.f1.run?.map fun r => r.stage) =
        some (.rundown 400150 .halted)) ∧
    (let s := { demanded 800 { x with pair := underFire } with tables := calmService.tables };
      s.resultOf .n1 = noTarget ∧ ((s.handPair .n1).units.f1.run?.map fun r => r.stage) = some stopped) := by decide +kernel

/-- A replaced target: a TIMED leaf whose estimate, formed at the change of speed, has passed it arrives at once; one short of it goes
on in a new period; in a gang the member past it is held as arrived and the other goes on. -/
theorem test_replaced_target_reached_at_once :
    let leaf (base_ : Nat) := (withFeedback { timedHalfOpen with period := some ⟨base_, 399400, .full⟩ }
      (demanded 510 (unitIn (.inFlight { openRun with slot := .fire, speed := .full })))).handPair .n1
    let gang := withCfg { Settings.defaults with gang12 := true } { demanded 510 (unitIn (.inFlight
        { openRun with members := [.n1, .n2] })) with
      members := ⟨motorOn, motorOn, .atStart, .atStart⟩
      feedback := ⟨leafHalfOpen, { leafHalfOpen with count := some 2500 }, leafHalfOpen, leafHalfOpen⟩ }
    let t := gang.handPair .n1
    (leaf 500).motion .n1 = .rundown ∧ (leaf 499).motion .n1 = .running ∧
      (leaf 499).feedback.f1.period = some ⟨509, 400000, .quiet⟩ ∧
    (t.motion .n1, t.members.f1.hold, t.members.f2.hold) = (.running, .driving, .done) := by decide +kernel

/-- A run to an end takes its own end from another slot: the timeout is formed again beyond the deadband, and not within it. -/
theorem test_same_end_forms_timeout_again :
    let r : Run := { openRun with target := 1000, timeoutDue := some 5 }
    let at_ (count : Nat) := withFeedback { leafHalfOpen with count := some count } (demanded 1000 (unitIn (.inFlight r)))
    let due (count : Nat) := ((at_ count).handPair .n1).units.f1.run?.map fun r => (r.target, r.slot, r.timeoutDue)
    due 2400 = some (1000, .service, some (400000 + 120000 * 500 / 1000 * 5 / 4 + 2000)) ∧
      due 4776 = some (1000, .service, some 5) := by decide +kernel

theorem meets_PauseAndHold :
    let s := { base with units := base.units.set .n1 { base.units.f1 with
      reversal := some (.opening, 400000), retryHold := some ⟨30000, 370000⟩ } }
    Running s ∧ (s.units.get (s.cfg.leader .n1)).reversal = some (.opening, 400000) ∧
      (s.units.get (s.cfg.leader .n1)).retryHold = some ⟨30000, 370000⟩ ∧ 370000 + 30000 ≤ s.now := by
  refine ⟨rfl, ?_⟩; decide +kernel

theorem meets_Edges :
    let lost := withFeedback { leafHalfOpen with mode := .timed, count := none, estimate := some 500 } opening
    let near := withFeedback { leafHalfOpen with count := some 2879, lastLine := some .a } opening
    opening.leafAt .n1 = some .n1 ∧ (opening.feedback.get .n1).mode = .pulse ∧ drivenIn opening .n1 .opening ∧
    (∀ dir, ¬ drivenIn base .n1 dir) ∧ (lost.feedback.get .n1).mode = .timed ∧
    (near.feedback.get .n1).lastLine = some .a ∧ (near.feedback.get .n1).count = some 2879 ∧ near.runOf .n1 = some openRun ∧
    (600 * 4800 + 500) / 1000 ≤ 2880 := by
  refine ⟨rfl, rfl, Or.inr ⟨Or.inl rfl, openRun, rfl, rfl, Or.inl rfl⟩, ?_, rfl, rfl, rfl, rfl, by decide⟩
  rintro dir (⟨due, h, -⟩ | ⟨-, r, h, -⟩) <;> cases h

/-! Gang synchronisation: leaves 1 and 2 run together, and leaf 1's count moves from `n` to `n + 1`. -/

def gangRun (target : Nat) : Run := { openRun with target := target, members := [.n1, .n2] }

def ganged (target : Nat) (a b : MemberRecord) (n k : Nat) : State :=
  settled (withCfg { Settings.defaults with gang12 := true } { base with
    units := base.units.set .n1 (unitIn (.inFlight (gangRun target)))
    members := ⟨a, b, .atStart, .atStart⟩
    feedback := ⟨{ leafHalfOpen with count := some n }, { leafHalfOpen with count := some k }, leafHalfOpen, leafHalfOpen⟩ })

theorem ganged_driveLawful (target : Nat) (a b : MemberRecord) (n k : Nat) : DriveLawful (ganged target a b n k) :=
  settled_driveLawful _ (show (2 : Nat) ≤ 3 by decide) (fun h => nomatch (h : KeyPosition.auto = .lockout)) ⟨rfl, rfl, rfl⟩ rfl (by
    intro u r h m hm
    cases u with
    | n1 =>
      cases h
      rcases List.mem_cons.1 hm with rfl | hm
      · rfl
      · obtain rfl := List.mem_singleton.1 hm
        rfl
    | n2 => cases h
    | n3 => cases h
    | n4 => cases h)

/-- A member held for synchronisation, or done. -/
def coasting : MemberRecord := ⟨false, .syncHeld, 399000, .off, none, false⟩
def finished : MemberRecord := { coasting with hold := .done }

/-- The other member is done, its count at the target or past it. -/
theorem meets_GangArrives (k : Nat) (h : 2880 ≤ k) :
    let s := ganged 600 motorOn finished 2879 k
    DriveLawful s ∧ (s.members.get .n2).hold = .done ∧ countReaches s (gangRun 600) .n2 k ∧
      countReaches s (gangRun 600) .n1 2880 :=
  ⟨ganged_driveLawful _ _ _ _ _, rfl, by show (600 * 4800 + 500) / 1000 ≤ k; omega, by
    show (600 * 4800 + 500) / 1000 ≤ 2880; decide⟩

theorem meets_GangSynchronised (a b : MemberRecord) (ha : a.slice = none) (hb : b.slice = none) :
    let s := ganged 600 a b 2399 2252
    s.phase ≠ .off ∧ DriveLawful s ∧ s.leafAt .n1 = some .n1 ∧ s.runOf .n1 = some (gangRun 600) ∧
    s.runOf .n2 = some (gangRun 600) ∧ (s.feedback.get .n1).count = some 2399 ∧ (s.feedback.get .n2).count = some 2252 ∧
    (s.members.get .n1).slice = none ∧ (s.members.get .n2).slice = none ∧
    ¬ countReaches s (gangRun 600) .n2 2252 ∧ ¬ countReaches s (gangRun 600) .n1 2400 ∧
    leadAfterEdge s (gangRun 600) .n1 .n2 2400 2252 = 31 :=
  ⟨nofun, ganged_driveLawful _ _ _ _ _, rfl, rfl, rfl, rfl, rfl, ha, hb, by
    show ¬ (600 * 4800 + 500) / 1000 ≤ 2252; decide, by show ¬ (600 * 4800 + 500) / 1000 ≤ 2400; decide, by
    show ((2400 * 1000 / 4800 : Nat) : Int) - ((2252 * 1000 / 4800 : Nat) : Int) = 31; decide⟩

theorem test_gang_held_and_resumed :
    let t (a b : MemberRecord) (k : Nat) := after (.feedbackEdge .n1 .a) (ganged 600 a b 2399 k)
    let holds (s : State) := (s.members.f1.hold, s.members.f2.hold)
    holds (t motorOn motorOn 2252) = (.syncHeld, .driving) ∧ holds (t motorOn motorOn 2256) = (.driving, .driving) ∧
    holds (t motorOn motorOn 2549) = (.driving, .syncHeld) ∧ holds (t motorOn motorOn 2544) = (.driving, .driving) ∧
    holds (t motorOn coasting 2448) = (.driving, .driving) ∧ holds (t motorOn coasting 2453) = (.driving, .syncHeld) ∧
    holds (t coasting motorOn 2352) = (.driving, .driving) ∧ holds (t coasting motorOn 2351) = (.syncHeld, .driving) := by
  decide +kernel

/-- A member that coasts to its target while it is held arrives; at an end it is switched on and probes. -/
theorem test_gang_arrives_together :
    let t (target n : Nat) (a b : MemberRecord) := after (.feedbackEdge .n1 .a) (ganged target a b n 2800)
    let u (n : Nat) (a : MemberRecord) := after (.feedbackEdge .n1 .a) (ganged 600 a finished n 2885)
    (t 600 2879 coasting motorOn).members.f1.hold = .done ∧ (t 600 2879 coasting motorOn).motion .n2 = .running ∧
    ((u 2879 motorOn).motion .n1 = .rundown ∧ (u 2879 coasting).motion .n2 = .rundown ∧ (u 2878 motorOn).motion .n1 = .running) ∧
    (t 600 2878 coasting motorOn).members.f1.hold ≠ .done ∧
    ((t 1000 4799 coasting motorOn).members.f1.motorOn = true ∧
      (t 1000 4799 coasting motorOn).members.f1.slice = some ⟨1, 402400⟩) := by decide +kernel

theorem meets_WatchdogAndEstimate :
    let applied := running openRun { motorOn with switchedOn := 399500 } base
    let expired := withFeedback { leafHalfOpen with watchdog := some 399200 } opening
    let timed := withFeedback { leafHalfOpen with
      mode := .timed, count := none, estimate := some 500, period := some ⟨500, 399000, .quiet⟩ } opening
    (driving applied .n1 .n1 openRun ∧ (applied.feedback.get .n1).watchdog = none ∧ 399500 + 500 ≤ applied.now) ∧
    ((expired.feedback.get .n1).watchdog = some 399200 ∧ 399200 + 800 ≤ expired.now ∧ 1 < expired.cfg.stall.get .n1) ∧
    (timed.feedback.get .n1).period = some ⟨500, 399000, .quiet⟩ ∧ drivenIn timed .n1 .opening :=
  ⟨⟨⟨rfl, rfl, rfl, rfl⟩, rfl, by decide +kernel⟩, by decide +kernel, rfl,
    Or.inr ⟨Or.inl rfl, openRun, rfl, rfl, Or.inl rfl⟩⟩

/-- An edge restarts the watchdog; a TIMED leaf arrives when its estimate reaches the target, and probes at an end. -/
theorem test_watchdog_restart_and_timed_arrival :
    let timed (target base_ : Nat) := after (.timedEstimateUpdate .n1) (withFeedback { leafHalfOpen with
      mode := .timed, count := none, estimate := some 500, period := some ⟨base_, 398800, .quiet⟩ }
      (running { openRun with target := target } motorOn base))
    (after (.feedbackEdge .n1 .a) (withFeedback { leafHalfOpen with watchdog := some 399200 } opening)).feedback.f1.watchdog =
      some 400000 ∧
    (timed 600 590).motion .n1 = .rundown ∧ (timed 600 589).motion .n1 = .running ∧
    (timed 1000 990).motion .n1 = .probing := by decide +kernel

theorem meets_PresenceProbe :
    let s := withFeedback { FeedbackRecord.atStart with probe := .settle 400000 } base
    let t := withFeedback { FeedbackRecord.atStart with probe := .pulse 400000 } base
    Running s ∧ s.leafAt .n1 = some .n1 ∧ (s.feedback.get .n1).probe = .settle 400000 ∧ 400000 ≤ s.now ∧
      (t.feedback.get .n1).probe = .pulse 400000 := by
  refine ⟨rfl, ?_⟩; decide +kernel

/-! ### Hypotheses met: chapters 10 and 11 -/

theorem meets_Supply :
    let s (st : SupplyState) : State := { base with supply := ⟨st, some 399000, some 395000, some 398000, some 398000, false, 210⟩ }
    (∀ st, Running (s st) ∧ (s st).supply.state = st) ∧ 399000 + 1000 ≤ base.now ∧ 395000 + 5000 ≤ base.now ∧
      398000 + 2000 ≤ base.now := ⟨fun _ => ⟨rfl, rfl⟩, by decide +kernel⟩

/-- Entry to LOW: leaf 1 waits, leaf 2 is in STARTING and leaf 3 runs, all below FIRE. -/
def goingLow : State := { base with
  supply := ⟨.battery, none, none, some 398000, none, false, 200⟩
  weather := { base.weather with stormActive := false, governingRain := .dry }
  units := ⟨{ UnitRecord.atStart with status := .waiting 399000 },
    { UnitRecord.atStart with status := .inFlight { openRun with members := [.n2], stage := .starting 400001 } },
    { UnitRecord.atStart with status := .inFlight { openRun with members := [.n3] } }, .atStart⟩ }

theorem test_low_stops_below_fire : let t := after .lowTimerExpiry goingLow
    t.units.f1.status = .rest ∧ t.units.f2.status = .rest ∧ t.motion .n3 = .rundown ∧
      (t.tables.f1.restPosition, t.tables.f2.restPosition, t.tables.f3.restPosition) = (some 500, some 500, none) ∧
      goingLow.resultOf .n1 = noTarget := by decide +kernel

theorem test_supply_reading_boundaries :
    let s (st : SupplyState) : State := { base with supply := ⟨st, none, none, none, none, false, 215⟩ }
    (after (.supplyReading false (some 209)) (s .battery)).supply.lowSince = some 400000 ∧
    (after (.supplyReading false (some 210)) (s .battery)).supply.lowSince = none ∧
    (after (.supplyReading false (some 225)) (s .low)).supply.recoverySince = some 400000 ∧
    (after (.supplyReading false (some 224)) (s .low)).supply.recoverySince = none ∧
    (after (.supplyReading true none) (s .low)).supply.mainsPresentSince = some 400000 := by decide +kernel

theorem meets_ServiceReads : atPort base ∧ base.peers.find? 7 = some ⟨7, .absent⟩ ∧
    (∀ p ∈ base.peers.records, p.address ≠ 5) ∧ names base 4 .n4 ∧ (∀ l, ¬ names base 5 l) ∧
    (let s := base.reply (.ok .none); s.port.sending ≠ none ∧ s.phase ≠ .off ∧ fromPort .status = true) :=
  ⟨⟨rfl, rfl⟩, rfl, by decide +kernel, ⟨rfl, by decide +kernel⟩, (by rintro l ⟨h, -⟩; cases l <;> cases h), by decide +kernel⟩

theorem meets_ServiceActs :
    atPort atService ∧ atPort base ∧ base.key ≠ .service ∧ atService.key = .service ∧ names atService 1 .n1 ∧
    (∀ l, ¬ names atService 0 l) ∧ (atService.units.get .n1).status = .rest ∧ (atService.feedback.get .n1).probe = .none ∧
    settingIndexed (.gangPairs 2) = true ∧ settingIndexed (.gangPairs 3) = false ∧ settingIndexed (.stroke 4) = true ∧
    settingLimits (.stroke 4) = some (200, 20000) ∧ settingLimits .unknown = none ∧
    State.fire { atService with zones := { base.zones with records := pendingZones } } = true ∧
    ((running openRun motorOn atService).units.get .n1).status ≠ .rest :=
  ⟨⟨rfl, rfl⟩, ⟨rfl, rfl⟩, by decide +kernel, by decide +kernel, ⟨rfl, by decide +kernel⟩,
    (by rintro l ⟨h, -⟩; cases l <;> cases h), by decide +kernel⟩

/-- A reporter at the port, before its first vane sample and after two. -/
theorem meets_WindOfReporter :
    let s (sectors : List Nat) := withCfg { Settings.defaults with weatherReporter := true } { base with
      weather := { base.weather with sectorWindow := sectors } }
    (∀ w, atPort (s w) ∧ (s w).cfg.weatherReporter = true) ∧ (s []).weather.sectorWindow = [] ∧
      (windShown (s [4, 3]) ((s [4, 3]).windData.reporter)).reporter =
        some (reporterShown (s [4, 3]) (some 3) false) := by
  refine ⟨fun _ => ⟨⟨rfl, rfl⟩, rfl⟩, rfl, ?_⟩
  decide +kernel

theorem test_write_setting_at_limit : let t := after (.writeSetting (.stroke 4) 20000) base
    t.store.stored.stroke.f4 = 20000#16 ∧ t.store.settingsPending = true ∧ t.store.inForce = base.store.inForce ∧
      t.port.sending = some (.ok .none) := by decide +kernel

theorem meets_SettingsChecked :
    (StoredSettings.defaults.check = SettingsStore.factory.checkWord) ∧
    (SettingsStore.atStart 5 SettingsStore.factory).adjusted = false ∧
    ((commissioned.check ≠ 0#16) ∧ (SettingsStore.atStart 5 ⟨commissioned, 0#16, .defaults, true, false, false⟩).defaulted = true) ∧
    (SettingsStore.atStart 19 ⟨commissioned, commissioned.check, .defaults, true, false, false⟩).adjusted = true := by
  decide +kernel

/-- A restart wait whose last RUNDOWN has ended. -/
def waitEnded : State := { base with phase := .restartWait }

theorem meets_StartsAndRestarts :
    let s := { opening with port := ⟨some (.ok .none), true⟩ }
    let w := { inStage (.rundown 400100 .halted) openRun with phase := .restartWait }
    (Running s ∧ s.port.sending = some (.ok .none) ∧ s.port.restartPending = true) ∧
    ((w.units.get .n1).status = .inFlight { openRun with stage := .rundown 400100 .halted } ∧ w.phase = .restartWait) ∧
    waitEnded.phase = .restartWait ∧ (∀ u, (waitEnded.units.get u).status = .rest) ∧
      (waitEnded.feedback.get .n1).count.isSome = true ∧ waitEnded.cfg.outputOf .n1 = some .n1 :=
  ⟨⟨rfl, rfl, rfl⟩, ⟨rfl, rfl⟩, rfl, (by intro u; cases u <;> rfl), rfl, by decide +kernel⟩

theorem test_restart_keeps_leaf_record : let t := after (.restartStart inputs) waitEnded
    t.phase = .running ∧ t.feedback.f1.count = some 2400 ∧ t.feedback.f1.presence = .unprobed ∧
      t.tables.f1.restPosition = some 500 := by decide +kernel

end Sys2Proof.Tests
end

section
/-! SUPPORT. A collision on the line (R39), and what a byte read back makes of a series that transmits (R38). -/

namespace Sys2Proof.Machine

/-! ### Counters, windows and the driver -/

/-- A counter of the frame counters is held at 65535 (R52). -/
theorem fieldSucc_eq_min {n : Nat} (h : n ≤ 65535) : fieldSucc n = min 65535 (n + 1) := by
  unfold fieldSucc
  split <;> omega

/-- The window of the attempt that follows a collision on attempt `a` (R36). -/
theorem backoffWindow_succ {a : Nat} (h : 1 ≤ a) :
    backoffWindow (a + 1) false = match (generalizing := false) a with | 1 => 16 | 2 => 32 | _ => 64 := by
  match a, h with
  | 1, _ => rfl
  | 2, _ => rfl
  | _ + 3, _ => rfl

theorem readbackDiffers_iff (r : Series) (next : Nat) (rx : RxByte) :
    readbackDiffers r next rx = true ↔ rx.framingError = true ∨ r.frame[next]? ≠ some rx.data := by
  simp [readbackDiffers]

/-- The driver is enabled while the station transmits (R35). -/
theorem State.formPins_lineDriver {s : State} (h : s.phase ≠ .off) : s.formPins.lineDriver = s.line.transmitting := by
  rw [State.formPins, if_neg h]

/-- The driver at the end of an event that leaves the line interface as `x`. -/
theorem State.setLine_refresh_lineDriver {s : State} (h : s.phase ≠ .off) (x : LineInterface) :
    (s.setLine x).refresh.pins.lineDriver = x.transmitting :=
  State.formPins_lineDriver (s := s.setLine x) h

/-! ### The collision -/

section
variable {x : LineInterface} {r : Series}

/-- A collision on attempts 1 to 4. -/
theorem LineInterface.collide_of_lt (h : r.attempt < 5) :
    x.collide r = { x with
      counters := { x.counters with collisions := fieldSucc x.counters.collisions }
      series := some ⟨r.frame, r.attempt + 1, backoffWindow (r.attempt + 1) false, .waitingIdle⟩ } := if_pos h

/-- A collision on attempt 5. -/
theorem LineInterface.collide_of_le (h : 5 ≤ r.attempt) :
    x.collide r = { x with
      counters := { x.counters with
        collisions := fieldSucc x.counters.collisions
        transmitFailures := fieldSucc x.counters.transmitFailures }
      series := none } := if_neg (Nat.not_lt.2 h)

theorem LineInterface.collide_collisions :
    (x.collide r).counters.collisions = fieldSucc x.counters.collisions := by
  rcases Nat.lt_or_ge r.attempt 5 with h | h
  · rw [LineInterface.collide_of_lt h]
  · rw [LineInterface.collide_of_le h]

/-- After a collision the station transmits no more: the series waits for IDLE, or has ended. -/
theorem LineInterface.collide_not_transmitting : (x.collide r).transmitting = false := by
  rcases Nat.lt_or_ge r.attempt 5 with h | h
  · rw [LineInterface.collide_of_lt h]; rfl
  · rw [LineInterface.collide_of_le h]; rfl

end

/-- BYTE_READBACK while the station transmits: a collision, or the byte has been sent. -/
theorem exec_byteReadback_transmitting {s : State} {r : Series} {next : Nat} (rx : RxByte) (hs : s.phase ≠ .off)
    (hr : s.line.series = some r) (hp : r.phase = .transmitting next) :
    exec (.byteReadback rx) s = .next (s.setLine
      (if readbackDiffers r next rx then { s.line with lastByte := s.now }.collide r
        else { s.line with lastByte := s.now }.byteSent r next)).refresh := by
  show Host.Outcome.next (s.act _) = _
  rw [State.act_started hs]
  simp only [hr, hp]

/-- BYTE_READBACK of a byte that differs from the byte sent is a collision. -/
theorem exec_byteReadback_collides {s : State} {r : Series} {next : Nat} {rx : RxByte} (hs : s.phase ≠ .off)
    (hr : s.line.series = some r) (hp : r.phase = .transmitting next) (hd : readbackDiffers r next rx = true) :
    exec (.byteReadback rx) s = .next (s.setLine ({ s.line with lastByte := s.now }.collide r)).refresh := by
  rw [exec_byteReadback_transmitting rx hs hr hp, if_pos hd]

/-- Settles O17: the state after the readback is that of `LineInterface.collide`, whose two branches are attempts 1 to 4 and
attempt 5. -/
theorem collisionBeginsNextAttemptOrAbandons : Obligations.CollisionBeginsNextAttemptOrAbandons := by
  intro s x n rx hrun hlaw hx hp hd
  have hs : s.phase ≠ .off := by rw [show s.phase = .running from hrun]; decide
  obtain ⟨hattempt, -, -⟩ := hlaw.attempt x hx
  have hstep := exec_byteReadback_collides hs hx hp ((readbackDiffers_iff x n rx).2 hd)
  refine ⟨_, hstep, ?driver, ?collisions, rfl, ?next, ?last⟩
  case driver =>
    exact (State.setLine_refresh_lineDriver hs _).trans LineInterface.collide_not_transmitting
  case collisions =>
    calc ({ s.line with lastByte := s.now }.collide x).counters.collisions
        = fieldSucc s.line.counters.collisions := LineInterface.collide_collisions
      _ = min 65535 (s.line.counters.collisions + 1) := fieldSucc_eq_min hlaw.collisions
  case next =>
    intro hle
    rw [LineInterface.collide_of_lt (Nat.lt_succ_of_le hle)]
    exact ⟨rfl, _, rfl, rfl, rfl, rfl, backoffWindow_succ hattempt⟩
  case last =>
    intro h5
    rw [LineInterface.collide_of_le h5.ge]
    exact ⟨rfl, fieldSucc_eq_min hlaw.failures⟩

end Sys2Proof.Machine
end

section
/-! SUPPORT. A good frame received: the verdict its bytes give (R40, R41), and the line interface it leaves (R35, R37, R40,
R46, R52). -/

namespace Sys2Proof.Machine

/-! ### The verdict of a good frame's bytes -/

theorem byteAt_take {i k : Nat} (f : List Byte) (h : i < k) : byteAt (f.take k) i = byteAt f i := by
  simp [byteAt, List.getD_eq_getElem?_getD, h]

theorem map_data_map_cleanByte (f : List Byte) : (f.map cleanByte).map RxByte.data = f := by
  rw [List.map_map]
  exact List.map_id f

theorem any_framingError_map_cleanByte (f : List Byte) : (f.map cleanByte).any RxByte.framingError = false := by
  simp [cleanByte]

theorem frameComplete_iff (f : List Byte) :
    frameComplete f = true ↔ 2 ≤ f.length ∧ (byteAt f 1).toNat + 4 ≤ f.length := by
  simp [frameComplete]

/-- Bytes without a framing error give no finding: each check passes, or its bytes have not arrived (R41). -/
theorem badFinding_map_cleanByte_eq_none_iff (f : List Byte) : badFinding (f.map cleanByte) = none ↔
    (1 ≤ f.length → byteAt f 0 = delimiter) ∧
    (2 ≤ f.length → 14 ≤ (byteAt f 1).toNat ∧ (byteAt f 1).toNat ≤ 39) ∧
    (16 ≤ f.length → (byteAt f 1).toNat = consistentLength (byteAt f 15) ∧ entryCount (byteAt f 15) ≤ 4) ∧
    (frameComplete f = true → (crc16 (coveredBytes f)).toNat = receivedCheckWord f) ∧
    (frameComplete f = true → 1 ≤ (byteAt f 2).toNat ∧ (byteAt f 2).toNat ≤ 32) := by
  unfold badFinding
  simp only [map_data_map_cleanByte, any_framingError_map_cleanByte]
  grind

/-- A good frame is complete at its last byte, and no finding stands there. -/
theorem goodFrame_iff (f : List Byte) : goodFrame f = true ↔
    frameComplete f = true ∧ f.length = (byteAt f 1).toNat + 4 ∧ badFinding (f.map cleanByte) = none := by
  simp [goodFrame, and_assoc]

section
variable {f : List Byte} {k : Nat}

/-- A good frame is not complete before its last byte. -/
theorem frameComplete_take (hg : goodFrame f = true) (hk : k < f.length) : frameComplete (f.take k) = false := by
  obtain ⟨-, hlen, -⟩ := (goodFrame_iff f).1 hg
  rw [Bool.eq_false_iff, Ne, frameComplete_iff, List.length_take]
  rintro ⟨htwo, hall⟩
  rw [byteAt_take f (by omega)] at hall
  omega

/-- No finding stands on the beginning of a good frame. -/
theorem badFinding_take (hg : goodFrame f = true) (hk : k < f.length) : badFinding ((f.take k).map cleanByte) = none := by
  obtain ⟨-, -, hnone⟩ := (goodFrame_iff f).1 hg
  obtain ⟨hstart, hrange, hconsistent, -, -⟩ := (badFinding_map_cleanByte_eq_none_iff f).1 hnone
  have hlen : (f.take k).length = k := List.length_take_of_le hk.le
  rw [badFinding_map_cleanByte_eq_none_iff, frameComplete_take hg hk, hlen]
  refine ⟨fun h => ?_, fun h => ?_, fun h => ?_, nofun, nofun⟩
  · rw [byteAt_take f (by omega)]; exact hstart (by omega)
  · rw [byteAt_take f (by omega)]; exact hrange (by omega)
  · rw [byteAt_take f (by omega), byteAt_take f (by omega)]; exact hconsistent (by omega)

/-- Bytes that begin with a good frame are judged good at its last byte (R40, R42). -/
theorem judgeBytes_goodFrame (hg : goodFrame f = true) (later : List RxByte) :
    judgeBytes (f.map cleanByte ++ later) = some (f.map cleanByte, .good) := by
  rw [judgeBytes_eq_some_iff]
  refine ⟨later, rfl, ?_, fun k hk => ?_⟩
  · obtain ⟨hcomplete, -, hnone⟩ := (goodFrame_iff f).1 hg
    rw [verdictAt, hnone, map_data_map_cleanByte]
    exact if_pos hcomplete
  · rw [List.length_map] at hk
    rw [← List.map_take, verdictAt, badFinding_take hg hk, map_data_map_cleanByte]
    exact if_neg (by rw [frameComplete_take hg hk]; decide)

end

/-! ### The line interface of a good frame -/

/-- A start bit abandons a backoff (R37). -/
theorem LineInterface.startBit_series (x : LineInterface) (now : Nat) :
    (x.startBit now).series = backoffAbandoned x.series := by
  refine congrArg (fun abandon => x.series.map abandon) (funext fun r => ?_)
  obtain ⟨frame, attempt, window, phase⟩ := r
  cases phase <;> rfl

/-- An abandoned backoff does not begin to transmit. -/
theorem LineInterface.startBit_transmitting (x : LineInterface) (now : Nat) :
    (x.startBit now).transmitting = x.transmitting := by
  unfold LineInterface.transmitting
  rw [LineInterface.startBit_series]
  cases x.series with
  | none => rfl
  | some r => cases hp : r.phase <;> simp [backoffAbandoned, hp]

/-- A receiver that is ready assembles a frame when bytes come, and holds the bytes it held (R35, R40). -/
theorem LineInterface.ready.bytesArrive {s : State} (h : s.line.ready) :
    s.line.bytesArrive s.now = { frameTaken s with receiver := .assembling, rxBytes := s.line.rxBytes } := by
  obtain ⟨hquiet, hreceiver⟩ := h
  cases hbusy : s.line.busy with
  | true =>
    obtain hassembling | ⟨hidle, -⟩ := hreceiver
    · simp [LineInterface.bytesArrive, frameTaken, hbusy, ← hassembling]
    · rw [hbusy] at hidle; cases hidle
  | false =>
    have hseries := s.line.startBit_series s.now
    have hstart : s.line.bytesArrive s.now = s.line.startBit s.now := by
      simp [LineInterface.bytesArrive, hbusy, hquiet]
    rw [hstart]
    unfold LineInterface.startBit at hseries ⊢
    simp only at hseries
    rw [hseries]
    obtain hassembling | ⟨-, hhunting, hempty⟩ := hreceiver
    · simp [LineInterface.opensFrame, frameTaken, hbusy, hassembling]
    · simp [LineInterface.opensFrame, frameTaken, hbusy, hquiet, hhunting, hempty]

/-- The bytes that come to a receiver that is ready go to a frame. -/
theorem LineInterface.ready.assemblingFrame {s : State} (h : s.line.ready) :
    (s.line.bytesArrive s.now).assemblingFrame = true := by
  have htransmitting : (s.line.bytesArrive s.now).transmitting = false := by
    unfold LineInterface.bytesArrive
    split
    · exact h.1
    · rw [LineInterface.startBit_transmitting]; exact h.1
  rw [LineInterface.assemblingFrame, htransmitting, h.bytesArrive]
  rfl

/-- The line monitor and the counter after a good frame (R46, R52). -/
theorem LineInterface.countGood_monitorGood (x : LineInterface) : x.countGood.monitorGood = countedGood x := by
  by_cases hrun : x.goodRun = 63
  · by_cases hone : x.errorCounter ≤ 1
    · simp [LineInterface.monitorGood, LineInterface.countGood, countedGood, fieldSucc, hrun, hone]
    · simp [LineInterface.monitorGood, LineInterface.countGood, countedGood, fieldSucc, hrun, hone, Nat.sub_eq_zero_iff_le]
  · simp [LineInterface.monitorGood, LineInterface.countGood, countedGood, fieldSucc, hrun]

/-! ### The command -/

/-- GOOD_FRAME_RECEIVED at a receiver that is ready, with bytes that bring a good frame: the frame is taken. -/
theorem exec_goodFrameReceived {s : State} {rest f : List Byte} (hs : s.phase ≠ .off) (hready : s.line.ready)
    (hb : bringsFrame s rest f) (hg : goodFrame f = true) :
    exec (.goodFrameReceived rest) s =
      .next ((s.onLine fun x => x.bytesArrive s.now).takeGoodFrame s f).refresh := by
  obtain ⟨later, hlater⟩ := hb
  have hverdict : (s.line.bytesArrive s.now).verdictWith (rest.map cleanByte) = some (f.map cleanByte, .good) := by
    rw [LineInterface.verdictWith, if_pos hready.assemblingFrame, hready.bytesArrive]
    show judgeBytes (s.line.rxBytes ++ rest.map cleanByte) = _
    rw [hlater, judgeBytes_goodFrame hg]
  show execGoodFrameReceived rest s = _
  unfold execGoodFrameReceived
  rw [State.act_started hs]
  simp only [State.onLine, State.setLine_line, hverdict, map_data_map_cleanByte]

/-- A good frame of another station, received by a running station: it is counted and monitored, and its report taken. -/
theorem exec_goodFrameReceived_other {s : State} {rest f : List Byte} (hs : Running s) (hready : s.line.ready)
    (hb : bringsFrame s rest f) (hg : goodFrame f = true) (hother : (decodeFrame f).source ≠ s.line.ownAddress) :
    exec (.goodFrameReceived rest) s =
      .next ((s.setLine (countedGood (frameTaken s))).takeReport s (decodeFrame f)).refresh := by
  have hphase : s.phase = .running := hs
  have hline : (s.line.bytesArrive s.now).judged.countGood.monitorGood = countedGood (frameTaken s) := by
    rw [LineInterface.countGood_monitorGood, hready.bytesArrive]
    rfl
  have htaken : (s.onLine fun x => x.bytesArrive s.now).onLine (fun x => x.judged.countGood.monitorGood) =
      s.setLine (countedGood (frameTaken s)) := by
    rw [← hline]
    rfl
  rw [exec_goodFrameReceived (by rw [hphase]; decide) hready hb hg]
  unfold State.takeGoodFrame
  rw [htaken]
  exact congrArg (fun t : State => Host.Outcome.next t.refresh) ((if_neg (not_not_intro hphase)).trans (if_neg hother))

end Sys2Proof.Machine
end

section
/-! SUPPORT. What the zone logic and the loop reset leave of the line interface and the peer table (R5 to R9, R51, R77). -/

namespace Sys2Proof.Machine

/-- `t` has the phase, the peer records and the frame counters of `s`. -/
structure SamePeerRecords (s t : State) : Prop where
  phase : t.phase = s.phase
  records : t.peers.records = s.peers.records
  counters : t.line.counters = s.line.counters

theorem SamePeerRecords.refl (s : State) : SamePeerRecords s s := ⟨rfl, rfl, rfl⟩

theorem SamePeerRecords.trans {s t u : State} (h : SamePeerRecords s t) (k : SamePeerRecords t u) : SamePeerRecords s u :=
  ⟨k.phase.trans h.phase, k.records.trans h.records, k.counters.trans h.counters⟩

theorem samePeerRecords_setZones (s : State) (x : PerZone ZoneRecord) : SamePeerRecords s (s.setZones x) := ⟨rfl, rfl, rfl⟩

theorem samePeerRecords_setDetection (s : State) (x : Detection) : SamePeerRecords s (s.setDetection x) := ⟨rfl, rfl, rfl⟩

theorem samePeerRecords_endListenOnAlarm (s : State) : SamePeerRecords s s.endListenOnAlarm := by
  unfold State.endListenOnAlarm
  split
  · exact ⟨rfl, rfl, rfl⟩
  · exact SamePeerRecords.refl s

theorem samePeerRecords_formLocal (s : State) : SamePeerRecords s s.formLocal := by
  have hset := samePeerRecords_setDetection s { s.detection with localState := s.detection.formed }
  unfold State.formLocal
  dsimp only
  split
  · exact hset.trans ((samePeerRecords_setZones _ _).trans (samePeerRecords_endListenOnAlarm _))
  · exact hset

theorem samePeerRecords_requestLoopReset (s : State) : SamePeerRecords s s.requestLoopReset := by
  unfold State.requestLoopReset
  split
  · exact (samePeerRecords_setDetection s _).trans (samePeerRecords_formLocal _)
  · exact SamePeerRecords.refl s
  · exact SamePeerRecords.refl s

theorem samePeerRecords_adoptionStep (s : State) (marks : PerZone Byte) : SamePeerRecords s (s.adoptionStep marks) := by
  unfold State.adoptionStep
  dsimp only
  split
  · exact (samePeerRecords_setZones s _).trans (samePeerRecords_requestLoopReset _)
  · exact samePeerRecords_setZones s _

/-- The origin and latch-set steps set zone records alone (R8, R9). -/
theorem zoneSteps_eq_setZones (s : State) (a : Nat) (r : Report) :
    ∃ x, s.zoneSteps a r = (s.adoptionStep r.marks).setZones x := by
  unfold State.zoneSteps State.latchSetStep State.originStep
  split
  · split
    · exact ⟨_, rfl⟩
    · exact ⟨_, rfl⟩
  · exact ⟨_, rfl⟩

theorem samePeerRecords_zoneSteps (s : State) (a : Nat) (r : Report) : SamePeerRecords s (s.zoneSteps a r) := by
  obtain ⟨x, hx⟩ := zoneSteps_eq_setZones s a r
  rw [hx]
  exact (samePeerRecords_adoptionStep s r.marks).trans (samePeerRecords_setZones _ x)

/-! ### The line interface, where local detection stands as formed -/

theorem LoopRecord.beginReset_inAlarm (r : LoopRecord) : r.beginReset.inAlarm = false := by
  unfold LoopRecord.beginReset LoopRecord.inAlarm
  split
  next h => simp [h]
  next => rfl

/-- With its loops at the start of a reset, local detection is in ALARM by the call point alone (R74, R77). -/
theorem Detection.formed_mapLoops_beginReset (d : Detection) (p : LoopReset) :
    ({ d with loopReset := p, loops := PerLoop.mapLoops LoopRecord.beginReset d.loops } : Detection).formed =
      if d.callPoint.state = .alarm then .alarm else .quiet := by
  simp [Detection.formed, PerLoop.mapLoops, LoopRecord.confirmed, LoopRecord.beginReset_inAlarm]

theorem Detection.formed_of_operated {d : Detection} (h : d.callPoint.state = .alarm) : d.formed = .alarm := by
  simp [Detection.formed, h]

/-- Local detection formed without an entry to ALARM changes the detection unit alone (R76). -/
theorem formLocal_of_no_entry {s : State} (h : s.detection.formed = .alarm → s.detection.localState = .alarm) :
    s.formLocal = s.setDetection { s.detection with localState := s.detection.formed } := by
  unfold State.formLocal
  exact if_neg (by simpa using h)

/-- A loop reset enters no ALARM, so it ends no LISTEN. -/
theorem requestLoopReset_line {s : State} (h : s.detection.localState = s.detection.formed) :
    s.requestLoopReset.line = s.line := by
  unfold State.requestLoopReset
  split
  · rw [formLocal_of_no_entry]
    · rfl
    · rw [State.setDetection_detection, Detection.formed_mapLoops_beginReset]
      show _ → s.detection.localState = .alarm
      rw [h]
      intro halarm
      refine Detection.formed_of_operated (by_contra fun hcall => ?_)
      rw [if_neg hcall] at halarm
      cases halarm
  · rfl
  · rfl

theorem zoneSteps_line {s : State} (h : s.detection.localState = s.detection.formed) (a : Nat) (r : Report) :
    (s.zoneSteps a r).line = s.line := by
  obtain ⟨x, hx⟩ := zoneSteps_eq_setZones s a r
  rw [hx, State.setZones_line]
  unfold State.adoptionStep
  dsimp only
  split
  · exact requestLoopReset_line h
  · rfl

end Sys2Proof.Machine
end

section
/-! SUPPORT. A report taken by the peer table: the judgement of its sequence (R57), the gap applied (R59, R60), and the
record and the line interface at the end of the event. -/

namespace Sys2Proof.Machine

/-! ### Records -/

theorem PeerTable.address_of_find? {t : PeerTable} {a : Nat} {p : PeerRecord} (h : t.find? a = some p) : p.address = a := by
  simpa using List.find?_some h

theorem PeerTable.mem_of_find? {t : PeerTable} {a : Nat} {p : PeerRecord} (h : t.find? a = some p) : p ∈ t.records :=
  List.mem_of_find?_eq_some h

/-- The record found after a status is put at its address. -/
theorem PeerTable.find?_put {t : PeerTable} {a : Nat} {p : PeerRecord} (h : t.find? a = some p) (st : PeerStatus) :
    (t.put a st).find? a = some { p with status := st } := by
  have ha := PeerTable.address_of_find? h
  have hcomp : (fun r : PeerRecord => decide (r.address = a)) ∘
      (fun r => if r.address = a then { r with status := st } else r) = fun r => decide (r.address = a) := by
    funext r
    by_cases hr : r.address = a <;> simp [hr]
  unfold PeerTable.find? at h
  unfold PeerTable.find? PeerTable.put
  rw [List.find?_map, hcomp, h, Option.map_some, if_pos ha]

/-! ### The judgement of a sequence number (R57) -/

section
variable {last seq : Byte}

theorem judgeSequence_duplicate (h : (seq - last).toNat = 0) : judgeSequence last seq = .duplicate := if_pos h

theorem judgeSequence_admitted (h1 : 1 ≤ (seq - last).toNat) (h2 : (seq - last).toNat ≤ 127) :
    judgeSequence last seq = .admitted (min ((seq - last).toNat - 1) 8) :=
  (if_neg (Nat.ne_of_gt h1)).trans (if_pos h2)

theorem judgeSequence_initialise (h : 128 ≤ (seq - last).toNat) : judgeSequence last seq = .initialise :=
  (if_neg (by omega)).trans (if_neg (by omega))

end

section
variable {st : PeerStatus} {r : Report} {now : Nat}

theorem PeerStatus.taking_duplicate (h : st.judge r.sequence = .duplicate) : st.taking r now = none := by
  rw [PeerStatus.taking, h]

theorem PeerStatus.taking_initialise (h : st.judge r.sequence = .initialise) :
    st.taking r now = some (.fresh (PeerContent.initial r now)) := by
  rw [PeerStatus.taking, h]

theorem PeerStatus.taking_admitted {c : PeerContent} {gap : Nat}
    (h : (PeerStatus.fresh c).judge r.sequence = .admitted gap) :
    (PeerStatus.fresh c).taking r now = some (.fresh ((c.applyGap gap).accept r now)) := by
  rw [PeerStatus.taking, h]

end

/-! ### The gap applied (R59, R60) -/

section
variable {c : PeerContent} {gap : Nat}

/-- Reports were missed: the miss score rises, held at 15, and the run of good reports ends. -/
theorem PeerContent.applyGap_pos (h : 0 < gap) : c.applyGap gap = { c with
    missScore := min 15 (c.missScore + gap)
    goodRun := 0
    reliable := reliableAfter (min 15 (c.missScore + gap)) c.reliable } := if_pos h

/-- The eighth good report of a run lowers the miss score. -/
theorem PeerContent.applyGap_eighth (h : c.goodRun = 7) : c.applyGap 0 = { c with
    missScore := c.missScore - 1
    goodRun := 0
    reliable := reliableAfter (c.missScore - 1) c.reliable } := by
  rw [PeerContent.applyGap, if_neg (Nat.lt_irrefl 0), if_pos (by rw [h])]

theorem PeerContent.applyGap_next (h : c.goodRun ≠ 7) : c.applyGap 0 = { c with goodRun := c.goodRun + 1 } := by
  rw [PeerContent.applyGap, if_neg (Nat.lt_irrefl 0), if_neg (by omega)]

end

/-! ### The report taken -/

section
variable {s before : State} {r : Report} {p : PeerRecord} {st : PeerStatus}

theorem takeReport_duplicate (hp : s.peers.find? r.source = some p) (h : p.status.taking r s.now = none) :
    s.takeReport before r = s.composeDue before false := by
  simp only [State.takeReport, hp, h]

theorem takeReport_stored (hp : s.peers.find? r.source = some p) (h : p.status.taking r s.now = some st) :
    s.takeReport before r = (s.storeReport r.source r st).close before (s.zoneStepsReport r) := by
  simp only [State.takeReport, hp, h]

/-- A report stored: its record holds the new status, the frame counters stand, and the phase. -/
theorem samePeerRecords_storeReport (s : State) (a : Nat) (r : Report) (st : PeerStatus) :
    SamePeerRecords { s with peers := s.peers.put a st } (s.storeReport a r st) := by
  obtain ⟨hphase, hrecords, hcounters⟩ := samePeerRecords_zoneSteps { s with peers := s.peers.put a st } a r
  exact ⟨hphase, hrecords, hcounters⟩

theorem storeReport_line (h : s.detection.localState = s.detection.formed) (a : Nat) (r : Report) (st : PeerStatus) :
    (s.storeReport a r st).line = s.line :=
  zoneSteps_line (s := { s with peers := s.peers.put a st }) h a r

/-- What follows from a stored report at the end of its event. -/
theorem follows_takeReport_stored (hs : s.phase = .running) (hp : s.peers.find? r.source = some p)
    (h : p.status.taking r s.now = some st) :
    Follows (s.storeReport r.source r st) (s.takeReport before r).refresh := by
  rw [takeReport_stored hp h]
  exact follows_close _ before _ ((samePeerRecords_storeReport s r.source r st).phase.trans hs)

/-- The record of a stored report at the end of its event. -/
theorem takeReport_find? (hs : s.phase = .running) (hp : s.peers.find? r.source = some p)
    (h : p.status.taking r s.now = some st) :
    (s.takeReport before r).refresh.peers.find? p.address = some { p with status := st } := by
  have hfind := PeerTable.find?_put hp st
  have haddress := PeerTable.address_of_find? hp
  rw [(follows_takeReport_stored hs hp h).peers]
  rw [haddress] at hfind ⊢
  unfold PeerTable.find? at hfind ⊢
  rw [(samePeerRecords_storeReport s r.source r st).records]
  exact hfind

/-- The frame counters are no part of the slot. -/
theorem LineInterface.counters_congr {x y : LineInterface} (h : x.unslotted = y.unslotted) : x.counters = y.counters := by
  injection h

/-- A report taken, stored or discarded, leaves the frame counters. -/
theorem takeReport_counters (hs : s.phase = .running) (hp : s.peers.find? r.source = some p) :
    (s.takeReport before r).refresh.line.counters = s.line.counters := by
  cases h : p.status.taking r s.now with
  | none =>
    rw [takeReport_duplicate hp h]
    exact LineInterface.counters_congr (follows_composeDue s before false).line
  | some st =>
    calc (s.takeReport before r).refresh.line.counters
        = (s.storeReport r.source r st).line.counters :=
          LineInterface.counters_congr (follows_takeReport_stored hs hp h).line
      _ = s.line.counters := (samePeerRecords_storeReport s r.source r st).counters

/-- A report taken, stored or discarded, leaves the line interface but for the slot, where local detection stands as formed. -/
theorem takeReport_unslotted (hs : s.phase = .running) (hp : s.peers.find? r.source = some p)
    (hformed : s.detection.localState = s.detection.formed) :
    (s.takeReport before r).refresh.line.unslotted = s.line.unslotted := by
  cases h : p.status.taking r s.now with
  | none =>
    rw [takeReport_duplicate hp h]
    exact (follows_composeDue s before false).line
  | some st =>
    rw [(follows_takeReport_stored hs hp h).line, storeReport_line hformed]

/-! ### The record after the report -/

/-- The record at an address is FRESH and was heard at `now` with this sequence number, with these values of reliability (R59,
R60). -/
def State.heardRecord (t : State) (address : Nat) (sequence : Byte) (now score run : Nat) (reliable : Bool) : Prop :=
  ∃ c p', t.peers.find? address = some p' ∧ p'.status = .fresh c ∧ c.missScore = score ∧ c.goodRun = run ∧
    c.reliable = reliable ∧ c.lastSequence = sequence ∧ c.lastHeard = now ∧ c.missScore ≤ 15 ∧ c.goodRun ≤ 7

/-- A record that a report initialises (R58). -/
theorem takeReport_initialises (hs : s.phase = .running) (hp : s.peers.find? r.source = some p)
    (h : p.status.judge r.sequence = .initialise) :
    (s.takeReport before r).refresh.heardRecord p.address r.sequence s.now 0 0 true :=
  ⟨_, _, takeReport_find? hs hp (PeerStatus.taking_initialise h), rfl, rfl, rfl, rfl, rfl, rfl, Nat.zero_le 15, Nat.zero_le 7⟩

/-- A record whose report is admitted, with the values that its gap leaves (R59, R60). -/
theorem takeReport_admits {c : PeerContent} {gap score run : Nat} {reliable : Bool} (hs : s.phase = .running)
    (hp : s.peers.find? r.source = some p) (hc : p.status = .fresh c) (h : p.status.judge r.sequence = .admitted gap)
    (happlied : c.applyGap gap = { c with missScore := score, goodRun := run, reliable := reliable })
    (hscore : score ≤ 15) (hrun : run ≤ 7) :
    (s.takeReport before r).refresh.heardRecord p.address r.sequence s.now score run reliable := by
  have htaking : p.status.taking r s.now = some (.fresh ((c.applyGap gap).accept r s.now)) := by
    rw [hc] at h ⊢
    exact PeerStatus.taking_admitted h
  rw [happlied] at htaking
  exact ⟨_, _, takeReport_find? hs hp htaking, rfl, rfl, rfl, rfl, rfl, rfl, hscore, hrun⟩

end

/-- Settles O21: the status after the report is that of `PeerStatus.taking`, which stands in the record at the end of the event
unless the report is a duplicate; the three clauses on an admitted report are the three cases of `PeerContent.applyGap`. -/
theorem reportJudgedBySequence : Obligations.ReportJudgedBySequence := by
  intro s rest f p hrun hlaw hready hb hg hother hp
  let counted := s.setLine (countedGood (frameTaken s))
  have hs : counted.phase = .running := hrun
  have hp' : counted.peers.find? (decodeFrame f).source = some p := hp
  have hinitial (h : p.status.judge (decodeFrame f).sequence = .initialise) := takeReport_initialises (before := s) hs hp' h
  refine ⟨_, exec_goodFrameReceived_other hrun hready hb hg hother, fun h => hinitial (by rw [h]; rfl),
    fun c h => hinitial (by rw [h]; rfl), fun c hc => ?fresh, ?counter, fun hzones => ?line⟩
  case fresh =>
    have hjudge : p.status.judge (decodeFrame f).sequence = judgeSequence c.lastSequence (decodeFrame f).sequence := by
      rw [hc]; rfl
    refine ⟨fun h0 => ?duplicate, fun h128 => hinitial (hjudge.trans (judgeSequence_initialise h128)), fun h1 h127 => ?admitted⟩
    case duplicate =>
      rw [takeReport_duplicate hp' (PeerStatus.taking_duplicate (hjudge.trans (judgeSequence_duplicate h0)))]
      exact (reports_composeDue counted s false hs).rest
    case admitted =>
      intro gap class_
      have hadmitted : p.status.judge (decodeFrame f).sequence = .admitted gap := hjudge.trans (judgeSequence_admitted h1 h127)
      obtain ⟨hscore, hgood, -, -⟩ := hlaw.score p (PeerTable.mem_of_find? hp) c (.inl hc)
      split
      next hpos =>
        exact takeReport_admits hs hp' hc hadmitted (PeerContent.applyGap_pos hpos) (Nat.min_le_left 15 _) (Nat.zero_le 7)
      next hzero =>
        rw [Nat.eq_zero_of_not_pos hzero] at hadmitted
        split
        next h7 =>
          exact takeReport_admits hs hp' hc hadmitted (PeerContent.applyGap_eighth h7) (by omega) (Nat.zero_le 7)
        next h7 =>
          exact takeReport_admits hs hp' hc hadmitted (PeerContent.applyGap_next h7) hscore (by omega)
  case counter => exact congrArg FrameCounters.good (takeReport_counters hs hp')
  case line => exact takeReport_unslotted hs hp' hzones.formedNow

end Sys2Proof.Machine
end

section
/-! SUPPORT. The governing wind of a candidate set (R98): which of two candidates comes before the other, and that the fold over
the set finds one that comes before all; and the computed class of a facing by its sector distance (R103). -/

namespace Sys2Proof.Machine

/-! ### Governing wind (R98) -/

/-- CALM is a speed below 15 (R98). -/
@[simp] theorem GoverningWind.calm_iff (g : GoverningWind) : g.calm = true ↔ g.speed < 15 := decide_eq_true_iff

/-- `p` governs over `q` (R98): its speed is larger, or the speeds are equal and its address is no higher. -/
def WeatherCandidate.GovernsOver (p q : WeatherCandidate) : Prop :=
  q.speed < p.speed ∨ (q.speed = p.speed ∧ p.address ≤ q.address)

namespace WeatherCandidate

theorem GovernsOver.refl (p : WeatherCandidate) : p.GovernsOver p := .inr ⟨rfl, Nat.le_refl _⟩

theorem GovernsOver.trans {p q r : WeatherCandidate} (hpq : p.GovernsOver q) (hqr : q.GovernsOver r) : p.GovernsOver r := by
  unfold GovernsOver at *
  omega

theorem GovernsOver.speed_le {p q : WeatherCandidate} (h : p.GovernsOver q) : q.speed ≤ p.speed :=
  h.elim Nat.le_of_lt fun h => h.1.le

theorem GovernsOver.address_le {p q : WeatherCandidate} (h : p.GovernsOver q) (hspeed : q.speed = p.speed) :
    p.address ≤ q.address :=
  h.elim (fun hlt => absurd hspeed hlt.ne) And.right

end WeatherCandidate

/-- The better of two candidates is one of them, and governs over the other. -/
theorem betterCandidate_cases (p q : WeatherCandidate) :
    (betterCandidate p q = q ∧ q.GovernsOver p) ∨ (betterCandidate p q = p ∧ p.GovernsOver q) := by
  unfold betterCandidate WeatherCandidate.GovernsOver
  split
  next h =>
    simp only [Bool.or_eq_true, Bool.and_eq_true, decide_eq_true_eq] at h
    exact .inl ⟨rfl, h.imp_right fun ⟨hspeed, haddress⟩ => ⟨hspeed, haddress.le⟩⟩
  next h =>
    simp only [Bool.or_eq_true, Bool.and_eq_true, decide_eq_true_eq] at h
    exact .inr ⟨rfl, by omega⟩

theorem betterCandidate_governsOver_left (p q : WeatherCandidate) : (betterCandidate p q).GovernsOver p := by
  obtain ⟨heq, h⟩ | ⟨heq, -⟩ := betterCandidate_cases p q <;> rw [heq]
  · exact h
  · exact .refl p

theorem betterCandidate_governsOver_right (p q : WeatherCandidate) : (betterCandidate p q).GovernsOver q := by
  obtain ⟨heq, -⟩ | ⟨heq, h⟩ := betterCandidate_cases p q <;> rw [heq]
  · exact .refl q
  · exact h

/-- The best of a set is a member of the set. -/
theorem foldl_betterCandidate_mem (c : WeatherCandidate) (cs : List WeatherCandidate) :
    cs.foldl betterCandidate c ∈ c :: cs := by
  induction cs generalizing c with
  | nil => exact List.mem_singleton_self c
  | cons d ds ih =>
    obtain hbest | hrest := List.mem_cons.1 (ih (betterCandidate c d))
    · rw [List.foldl_cons, hbest]
      obtain ⟨heq, -⟩ | ⟨heq, -⟩ := betterCandidate_cases c d <;> simp [heq]
    · exact .tail _ (.tail _ hrest)

/-- The best of a set governs over every member: over the start of the fold, since each step keeps or betters it, and over each
later one from the step that meets it. -/
theorem foldl_betterCandidate_governsOver (c : WeatherCandidate) (cs : List WeatherCandidate) :
    ∀ q ∈ c :: cs, (cs.foldl betterCandidate c).GovernsOver q := by
  induction cs generalizing c with
  | nil => exact List.forall_mem_singleton.2 (.refl c)
  | cons d ds ih =>
    obtain ⟨hbest, hrest⟩ := List.forall_mem_cons.1 (ih (betterCandidate c d))
    exact List.forall_mem_cons.2 ⟨hbest.trans (betterCandidate_governsOver_left c d),
      List.forall_mem_cons.2 ⟨hbest.trans (betterCandidate_governsOver_right c d), hrest⟩⟩

/-- The governing wind of a non-empty set is that of a member that governs over every member. -/
theorem governingOf_of_ne_nil {cs : List WeatherCandidate} (h : cs ≠ []) :
    ∃ b ∈ cs, governingOf cs = some ⟨b.speed, b.sector, b.address⟩ ∧ ∀ q ∈ cs, b.GovernsOver q := by
  cases cs with
  | nil => exact absurd rfl h
  | cons c cs => exact ⟨_, foldl_betterCandidate_mem c cs, rfl, foldl_betterCandidate_governsOver c cs⟩

/-- Settles O34: the governing wind is that of the candidate that governs over all. -/
theorem largestSpeedLowestAddressGoverns : Obligations.LargestSpeedLowestAddressGoverns := by
  intro cs hne
  obtain ⟨b, hb, hgoverning, hover⟩ := governingOf_of_ne_nil hne
  exact ⟨_, hgoverning, ⟨b, hb, rfl, rfl, rfl⟩, fun c hc => ⟨(hover c hc).speed_le, (hover c hc).address_le⟩,
    GoverningWind.calm_iff _, fun hbound => hbound b hb⟩

/-! ### Computed class (R103) -/

theorem distance_eq_max_sub_min (a b : Nat) : distance a b = max a b - min a b := by
  unfold distance
  omega

/-- The sector distance goes the shorter way round the 16 sectors, so it is no more than half of them. -/
theorem sectorDistance_le_eight (s f : Nat) : sectorDistance s f ≤ 8 := by
  unfold sectorDistance
  omega

section
variable {g : GoverningWind} {facing : Nat}

theorem computedClass_calm (h : g.speed < 15) : computedClass (some g) facing = .leeward :=
  if_pos (g.calm_iff.2 h)

/-- In a wind that is not CALM the sector distance alone decides. -/
theorem computedClass_not_calm (h : 15 ≤ g.speed) : computedClass (some g) facing =
    if sectorDistance g.sector facing ≤ 3 then .windward
    else if sectorDistance g.sector facing = 4 then .cross
    else .leeward :=
  if_neg (mt g.calm_iff.1 (Nat.not_lt.2 h))

theorem computedClass_windward (h : 15 ≤ g.speed) (hd : sectorDistance g.sector facing ≤ 3) :
    computedClass (some g) facing = .windward := by
  rw [computedClass_not_calm h, if_pos hd]

theorem computedClass_cross (h : 15 ≤ g.speed) (hd : sectorDistance g.sector facing = 4) :
    computedClass (some g) facing = .cross := by
  rw [computedClass_not_calm h, if_neg (by omega), if_pos hd]

theorem computedClass_leeward (h : 15 ≤ g.speed) (hd : 5 ≤ sectorDistance g.sector facing) :
    computedClass (some g) facing = .leeward := by
  rw [computedClass_not_calm h, if_neg (by omega), if_neg (by omega)]

end

/-- Settles O37: the distance of the statement is `sectorDistance`, and each of its clauses is a branch of `computedClass`. -/
theorem computedClassFollowsSectorDistance : Obligations.ComputedClassFollowsSectorDistance := by
  rintro s f g - - rfl d
  have hd : d = sectorDistance g.sector f := by
    rw [sectorDistance, distance_eq_max_sub_min]
  rw [hd]
  exact ⟨sectorDistance_le_eight g.sector f, rfl, computedClass_calm, computedClass_windward, computedClass_cross,
    computedClass_leeward⟩

end Sys2Proof.Machine
end

section
/-! SUPPORT. The resolution of a table (R120 to R122): what a cap leaves of a value, the lower of the caps present, and the result
by the highest of BRIGADE, FIRE, SERVICE and COMFORT present. -/

namespace Sys2Proof.Machine

/-! ### A cap over a value (R121)

An absent cap acts as one at any value that the capped value does not exceed. -/

section
variable {b : SlotValue} {d : Nat}

theorem capBy_value (cap : Option Nat) (slot : Slot) (h : b.value ≤ d) : (capBy cap slot b).value = min b.value (cap.getD d) := by
  cases cap with
  | none => exact (Nat.min_eq_left h).symm
  | some c =>
    simp only [capBy, Option.getD_some]
    split
    next hlt => exact (Nat.min_eq_right hlt.le).symm
    next hle => exact (Nat.min_eq_left (Nat.not_lt.1 hle)).symm

/-- The cap governs only where it lowers the value. -/
theorem capBy_slot (cap : Option Nat) (slot : Slot) (h : b.value ≤ d) :
    (capBy cap slot b).slot = if b.value ≤ cap.getD d then b.slot else slot := by
  cases cap with
  | none => exact (if_pos h).symm
  | some c =>
    simp only [capBy, Option.getD_some]
    split
    next hlt => exact (if_neg (Nat.not_le.2 hlt)).symm
    next hle => exact (if_pos (Nat.not_lt.1 hle)).symm

end

theorem capBy_pair_some (c x : Nat) (slot own : Slot) :
    (capBy (some c) slot ⟨x, own⟩).pair = if c < x then ⟨some c, slot⟩ else ⟨some x, own⟩ :=
  apply_ite SlotValue.pair (c < x) ⟨c, slot⟩ ⟨x, own⟩

/-! ### STORM and RAIN over one base (R121) -/

section
variable (storm rain : Option Nat) (b : Nat)

theorem capByBoth_value : (capBy rain .rain (capBy storm .storm ⟨b, .comfort⟩)).value =
    min b (min (storm.getD b) (rain.getD b)) := by
  have hvalue : (capBy storm .storm ⟨b, .comfort⟩).value = min b (storm.getD b) := capBy_value storm .storm (Nat.le_refl b)
  rw [capBy_value rain .rain (d := b) (by omega), hvalue, Nat.min_assoc]

theorem capByBoth_slot : (capBy rain .rain (capBy storm .storm ⟨b, .comfort⟩)).slot =
    if b ≤ storm.getD b ∧ b ≤ rain.getD b then .comfort else if storm.getD b ≤ rain.getD b then .storm else .rain := by
  have hvalue : (capBy storm .storm ⟨b, .comfort⟩).value = min b (storm.getD b) := capBy_value storm .storm (Nat.le_refl b)
  rw [capBy_slot rain .rain (d := b) (by omega), capBy_slot storm .storm (Nat.le_refl b), hvalue]
  by_cases hstorm : b ≤ storm.getD b
  · -- STORM lowers nothing, so RAIN meets the base itself.
    rw [Nat.min_eq_left hstorm, if_pos hstorm]
    by_cases hrain : b ≤ rain.getD b
    · rw [if_pos hrain, if_pos ⟨hstorm, hrain⟩]
    · rw [if_neg hrain, if_neg (mt And.right hrain), if_neg (by omega)]
  · -- STORM governs the base, and RAIN meets the value of STORM.
    rw [Nat.min_eq_right (Nat.not_le.1 hstorm).le, if_neg hstorm, if_neg (mt And.left hstorm)]

end

/-! ### The result by the slots present (R120 to R122) -/

namespace SlotValues

section
variable {v : SlotValues} {rest : Option Nat}

/-- With a cap present the lower cap is one of those present and no higher than either, STORM on a tie. -/
theorem lowerCap_of_present (h : v.storm.isSome = true ∨ v.rain.isSome = true) :
    ∃ c, v.lowerCap = some c ∧ (v.storm = some c.value ∧ c.slot = .storm ∨ v.rain = some c.value ∧ c.slot = .rain) ∧
      (∀ x, v.storm = some x → c.value ≤ x ∧ (x = c.value → c.slot = .storm)) ∧ ∀ x, v.rain = some x → c.value ≤ x := by
  unfold lowerCap
  cases hstorm : v.storm with
  | none =>
    cases hrain : v.rain with
    | none => simp [hstorm, hrain] at h
    | some r => exact ⟨⟨r, .rain⟩, rfl, .inr ⟨rfl, rfl⟩, nofun, by rintro x ⟨⟩; exact Nat.le_refl r⟩
  | some s =>
    cases hrain : v.rain with
    | none => exact ⟨⟨s, .storm⟩, rfl, .inl ⟨rfl, rfl⟩, by rintro x ⟨⟩; exact ⟨Nat.le_refl s, fun _ => rfl⟩, nofun⟩
    | some r =>
      by_cases hlt : r < s
      · refine ⟨⟨r, .rain⟩, if_pos hlt, .inr ⟨rfl, rfl⟩, ?_, by rintro x ⟨⟩; exact Nat.le_refl r⟩
        rintro x ⟨⟩
        exact ⟨hlt.le, fun heq => absurd heq hlt.ne'⟩
      · refine ⟨⟨s, .storm⟩, if_neg hlt, .inl ⟨rfl, rfl⟩, ?_, by rintro x ⟨⟩; exact Nat.not_lt.1 hlt⟩
        rintro x ⟨⟩
        exact ⟨Nat.le_refl s, fun _ => rfl⟩

theorem resolve_brigade {b : Nat} (h : v.brigade = some b) : v.resolve rest = ⟨some b, .brigade⟩ := by
  simp only [resolve, h]

theorem resolve_fire {f : Nat} (hbrigade : v.brigade = none) (h : v.fire = some f) : v.resolve rest = ⟨some f, .fire⟩ := by
  simp only [resolve, hbrigade, h]

section
variable (hbrigade : v.brigade = none) (hfire : v.fire = none)
include hbrigade hfire

theorem resolve_service {b : Nat} (h : v.service = some b) :
    v.resolve rest = (capBy v.storm .storm ⟨b, .service⟩).pair := by
  simp only [resolve, hbrigade, hfire, h]

theorem resolve_comfort {b : Nat} (hservice : v.service = none) (h : v.comfort = some b) :
    v.resolve rest = (capBy v.rain .rain (capBy v.storm .storm ⟨b, .comfort⟩)).pair := by
  simp only [resolve, hbrigade, hfire, hservice, h]

theorem resolve_without_base (hservice : v.service = none) (hcomfort : v.comfort = none) :
    v.resolve rest = v.resolveCaps rest := by
  simp only [resolve, hbrigade, hfire, hservice, hcomfort]

end

theorem resolveCaps_no_cap (hstorm : v.storm = none) (hrain : v.rain = none) : v.resolveCaps rest = noTarget := by
  simp only [resolveCaps, lowerCap, hstorm, hrain]

/-- A leaf whose rest position is not known is taken to stand above every cap. -/
theorem resolveCaps_unknown_rest {c : SlotValue} (h : v.lowerCap = some c) : v.resolveCaps none = c.pair := by
  simp only [resolveCaps, h]

theorem resolveCaps_known_rest {c : SlotValue} (h : v.lowerCap = some c) (p : Nat) :
    v.resolveCaps (some p) = if c.value < p then c.pair else noTarget := by
  simp only [resolveCaps, h]

end

end SlotValues

/-- Settles O40: each clause is the equation of `resolve` for the slots present; a base is then read through `capBy`, and a table
without one through its lower cap, by whether the rest position is known. -/
theorem resolutionOfSlots : Obligations.ResolutionOfSlots := by
  intro v rest r
  refine ⟨fun b hb => SlotValues.resolve_brigade hb, fun f hbrigade hf => SlotValues.resolve_fire hbrigade hf,
    fun hbrigade hfire => ⟨fun b hb => ?service, fun b hservice hb => ?comfort, fun hservice hcomfort => ?baseless⟩⟩
  case service =>
    have hr : r = (capBy v.storm .storm ⟨b, .service⟩).pair := SlotValues.resolve_service hbrigade hfire hb
    refine ⟨fun hstorm => ?_, fun c hstorm => ?_⟩
    · rw [hr, hstorm]; rfl
    · rw [hr, hstorm, capBy_pair_some]
  case comfort =>
    have hr : r = (capBy v.rain .rain (capBy v.storm .storm ⟨b, .comfort⟩)).pair :=
      SlotValues.resolve_comfort hbrigade hfire hservice hb
    rw [hr]
    exact ⟨congrArg some (capByBoth_value v.storm v.rain b), capByBoth_slot v.storm v.rain b⟩
  case baseless =>
    have hr : r = v.resolveCaps rest := SlotValues.resolve_without_base hbrigade hfire hservice hcomfort
    rw [hr]
    refine ⟨SlotValues.resolveCaps_no_cap, fun hpresent => ?_⟩
    obtain ⟨c, hlower, hgave, hstorm, hrain⟩ := SlotValues.lowerCap_of_present hpresent
    refine ⟨c.value, c.slot, hgave, hstorm, hrain, ?_⟩
    cases rest with
    | none => exact SlotValues.resolveCaps_unknown_rest hlower
    | some p => exact SlotValues.resolveCaps_known_rest hlower p

end Sys2Proof.Machine
end

section
/-! SUPPORT. The settings check of a start (R184, R185): what a clamp leaves of a value, what each cross-field rule changes, and
when neither changes one. -/

namespace Sys2Proof

/-! ### Leaves, outputs and zones by number -/

theorem N4.ofNumber?_eq_some_iff {n : Nat} {i : N4} : N4.ofNumber? n = some i ↔ n = i.number := by
  constructor
  · unfold N4.ofNumber?
    split <;> rintro ⟨⟩ <;> rfl
  · rintro rfl
    cases i <;> rfl

theorem N4.ofNumber?_eq_none_iff : ∀ n ≤ 4, N4.ofNumber? n = none ↔ n = 0 := by decide

theorem N4.ofNumber?_inj : ∀ m ≤ 4, ∀ n ≤ 4, N4.ofNumber? m = N4.ofNumber? n ↔ m = n := by decide

theorem N4.forall_iff {P : N4 → Prop} : (∀ i, P i) ↔ P .n1 ∧ P .n2 ∧ P .n3 ∧ P .n4 :=
  ⟨fun h => ⟨h _, h _, h _, h _⟩, fun ⟨h1, h2, h3, h4⟩ i => by cases i <;> assumption⟩

theorem N4.number_injective {i j : N4} (h : i.number = j.number) : i = j :=
  Option.some.inj ((N4.ofNumber?_eq_some_iff.2 rfl).symm.trans (N4.ofNumber?_eq_some_iff.2 h))

theorem Zone.ofNumber?_number (z : Zone) : Zone.ofNumber? z.number = some z := by cases z <;> rfl

theorem Zone.number_injective {y z : Zone} (h : y.number = z.number) : y = z :=
  Option.some.inj ((ofNumber?_number y).symm.trans ((congrArg ofNumber? h).trans (ofNumber?_number z)))

theorem Zone.exists_number {n : Nat} (h1 : 1 ≤ n) (h8 : n ≤ 8) : ∃ z : Zone, z.number = n := by
  have hall : ∀ k < 8, ∃ z ∈ Zone.all, z.number = k + 1 := by decide
  obtain ⟨z, -, hz⟩ := hall (n - 1) (by omega)
  exact ⟨z, by omega⟩

theorem Zone.number_getD_ofNumber? {n : Nat} (h1 : 1 ≤ n) (h8 : n ≤ 8) (d : Zone) :
    ((Zone.ofNumber? n).getD d).number = n := by
  obtain ⟨z, rfl⟩ := exists_number h1 h8
  rw [ofNumber?_number, Option.getD_some]

theorem PerLoop.ext_get {α : Type} {v w : PerLoop α} (h : ∀ l, v.get l = w.get l) : v = w := by
  cases v
  cases w
  exact congrArg₂ PerLoop.mk (h .d1) (h .d2)

/-! ### Sets of zones -/

theorem Zone.isIn_bit (z y : Zone) : z.isIn y.bit = decide (z = y) := by cases z <;> cases y <;> rfl

theorem Zone.isIn_or_bit (z y : Zone) (a : Byte) : z.isIn (a ||| y.bit) = true ↔ z.isIn a = true ∨ z = y := by
  have hor : z.isIn (a ||| y.bit) = (z.isIn a || z.isIn y.bit) := BitVec.getLsbD_or
  rw [hor, isIn_bit, Bool.or_eq_true, decide_eq_true_iff]

/-- A byte is the set of its zones. -/
theorem Zone.eq_of_isIn_iff {a b : Byte} (h : ∀ z : Zone, z.isIn a = true ↔ z.isIn b = true) : a = b := by
  refine BitVec.eq_of_getLsbD_eq fun i hi => Bool.eq_iff_iff.2 ?_
  obtain ⟨z, hz⟩ := Zone.exists_number (n := i + 1) (by omega) hi
  have hbit := h z
  rwa [Zone.isIn, Zone.isIn, hz, Nat.add_sub_cancel] at hbit

theorem Zone.or_bit_eq_self_iff {a : Byte} {y : Zone} : a ||| y.bit = a ↔ y.isIn a = true := by
  constructor
  · intro h
    rw [← h]
    exact (isIn_or_bit y y a).2 (.inr rfl)
  · intro h
    refine eq_of_isIn_iff fun z => (isIn_or_bit z y a).trans (or_iff_left_of_imp ?_)
    rintro rfl
    exact h

namespace Machine

/-! ### Clamps (R185, first pass) -/

theorem clampNat_eq_heldTo {lo hi : Nat} (h : lo ≤ hi) (n : Nat) : clampNat lo hi n = heldTo lo hi n := by
  unfold clampNat heldTo
  split
  next => omega
  next => split <;> omega

theorem heldTo_bounds {lo hi : Nat} (h : lo ≤ hi) (n : Nat) : lo ≤ heldTo lo hi n ∧ heldTo lo hi n ≤ hi := by
  rw [← clampNat_eq_heldTo h, clampNat]
  omega

theorem heldTo_eq_self_iff {lo hi : Nat} (h : lo ≤ hi) {n : Nat} : heldTo lo hi n = n ↔ lo ≤ n ∧ n ≤ hi := by
  rw [← clampNat_eq_heldTo h, clampNat]
  omega

theorem toNat_clampByte {lo hi : Nat} (b : Byte) (h : lo ≤ hi := by decide) (hhi : hi < 2 ^ 8 := by decide) :
    (clampByte lo hi b).toNat = heldTo lo hi b.toNat := by
  have hbound := heldTo_bounds h b.toNat
  rw [clampByte, clampNat_eq_heldTo h, BitVec.toNat_ofNat, Nat.mod_eq_of_lt (by omega)]

theorem toNat_clampWord {lo hi : Nat} (w : BitVec 16) (h : lo ≤ hi := by decide) (hhi : hi < 2 ^ 16 := by decide) :
    (clampWord lo hi w).toNat = heldTo lo hi w.toNat := by
  have hbound := heldTo_bounds h w.toNat
  rw [clampWord, clampNat_eq_heldTo h, BitVec.toNat_ofNat, Nat.mod_eq_of_lt (by omega)]

/-- A set of zones has no value outside its range. -/
theorem heldTo_byte (b : Byte) : heldTo 0 255 b.toNat = b.toNat :=
  (heldTo_eq_self_iff (by decide)).2 ⟨Nat.zero_le _, Nat.le_of_lt_succ b.isLt⟩

theorem isSet_iff (b : Byte) : isSet b = true ↔ b ≠ 0#8 := decide_eq_true_iff

/-- A switch setting, clamped to 0..1, is set exactly where it is stored as anything but 0. -/
theorem isSet_clampByte (b : Byte) : isSet (clampByte 0 1 b) = true ↔ b ≠ 0#8 := by
  rw [isSet_iff, ne_eq, ne_eq, ← BitVec.toNat_inj, ← BitVec.toNat_inj, toNat_clampByte, BitVec.toNat_ofNat,
    ← clampNat_eq_heldTo (by decide), clampNat]
  omega

theorem isSet_clampByte_eq_one (b : Byte) : isSet (clampByte 0 1 b) = true ↔ clampByte 0 1 b = 1#8 := by
  have hbound := heldTo_bounds (lo := 0) (hi := 1) (by decide) b.toNat
  rw [isSet_iff, ne_eq, ← BitVec.toNat_inj, ← BitVec.toNat_inj, toNat_clampByte, BitVec.toNat_ofNat, BitVec.toNat_ofNat]
  omega

theorem get_clampByte (v : Four Byte) (l : N4) {lo hi : Nat} (h : lo ≤ hi := by decide) (hhi : hi < 2 ^ 8 := by decide) :
    ((v.map (clampByte lo hi)).map BitVec.toNat).get l = heldTo lo hi (v.get l).toNat := by
  rw [Four.get_map, Four.get_map, toNat_clampByte _ h hhi]

theorem get_clampWord (v : Four (BitVec 16)) (l : N4) {lo hi : Nat} (h : lo ≤ hi := by decide)
    (hhi : hi < 2 ^ 16 := by decide) :
    ((v.map (clampWord lo hi)).map BitVec.toNat).get l = heldTo lo hi (v.get l).toNat := by
  rw [Four.get_map, Four.get_map, toNat_clampWord _ h hhi]

/-! ### The stored values under their names

The names reach every stored field, so that no clamp changes a value exactly where each value lies in its range. -/

theorem element_map {α β : Type} (f : α → β) (v : Four α) (i : Nat) : element (v.map f) i = (element v i).map f := by
  unfold element
  split <;> rfl

theorem element_number {α : Type} (v : Four α) (n : N4) : element v n.number = some (v.get n) := by cases n <;> rfl

theorem eq_of_element {α : Type} {v w : Four α} (h : ∀ i, element v i = element w i) : v = w :=
  Four.ext_get fun n => Option.some.inj (by rw [← element_number, ← element_number, h])

theorem eq_of_element_toNat {k : Nat} {v w : Four (BitVec k)}
    (h : ∀ i, (element v i).map BitVec.toNat = (element w i).map BitVec.toNat) : v = w :=
  eq_of_element fun i => Option.map_injective (fun _ _ => BitVec.eq_of_toNat_eq) (h i)

theorem element_clampByte (v : Four Byte) (i : Nat) {lo hi : Nat} (h : lo ≤ hi := by decide) (hhi : hi < 2 ^ 8 := by decide) :
    (element (v.map (clampByte lo hi)) i).map BitVec.toNat = ((element v i).map BitVec.toNat).map (heldTo lo hi) := by
  rw [element_map, Option.map_map, Option.map_map]
  exact congrArg (Option.map · (element v i)) (funext fun b => toNat_clampByte b h hhi)

theorem element_clampWord (v : Four (BitVec 16)) (i : Nat) {lo hi : Nat} (h : lo ≤ hi := by decide)
    (hhi : hi < 2 ^ 16 := by decide) :
    (element (v.map (clampWord lo hi)) i).map BitVec.toNat = ((element v i).map BitVec.toNat).map (heldTo lo hi) := by
  rw [element_map, Option.map_map, Option.map_map]
  exact congrArg (Option.map · (element v i)) (funext fun w => toNat_clampWord w h hhi)

/-- A clamp holds the value under each name to the name's limits. -/
theorem storedValue_clamped (x : StoredSettings) {name : SettingName} {lo hi : Nat} (h : settingLimits name = some (lo, hi)) :
    storedValue x.clamped name = (storedValue x name).map (heldTo lo hi) := by
  cases name <;> cases h
  case smokeZone | anemoK | stormThreshold | comfortSource | rainGap | debounce | resetRight | brigadePanel | weatherReporter
      | bmEnable => exact congrArg some (toNat_clampByte _)
  case fireOpening | unknownWindOpening | confirmTime => exact congrArg some (toNat_clampWord _)
  case answerSet | brigadeZones => exact congrArg some (heldTo_byte _).symm
  case outputMap i | facing i | stall i | pinch i => exact element_clampByte _ i
  case stroke i | fullTime i | quietTime i => exact element_clampWord _ i
  case loopDisable i | gangPairs i =>
    simp only [storedValue, StoredSettings.clamped, toNat_clampByte (lo := 0) (hi := 1) _, apply_ite (Option.map (heldTo 0 1)),
      Option.map_some, Option.map_none]

theorem settingLimits_le {name : SettingName} {lo hi : Nat} (h : settingLimits name = some (lo, hi)) : lo ≤ hi := by
  cases name <;> cases h <;> decide

theorem settingLimits_eq_none_iff {name : SettingName} : settingLimits name = none ↔ name = .unknown := by
  cases name <;> simp [settingLimits]

/-- Every stored field has a name. -/
theorem StoredSettings.eq_of_storedValue {x y : StoredSettings} (h : ∀ name, storedValue x name = storedValue y name) :
    x = y := by
  have field {k : Nat} {a b : BitVec k} (hab : some a.toNat = some b.toNat) : a = b := BitVec.eq_of_toNat_eq (Option.some.inj hab)
  have hloops : x.loopDisable = y.loopDisable := PerLoop.ext_get fun
    | .d1 => field (h (.loopDisable 1))
    | .d2 => field (h (.loopDisable 2))
  cases x
  cases y
  rw [StoredSettings.mk.injEq]
  exact ⟨field (h .smokeZone), field (h .answerSet), field (h .resetRight), field (h .brigadePanel), field (h .brigadeZones),
    field (h .weatherReporter), field (h .anemoK), field (h .stormThreshold), field (h .comfortSource), field (h .bmEnable),
    field (h .fireOpening), field (h .unknownWindOpening), field (h .rainGap), field (h .confirmTime), field (h .debounce),
    hloops, eq_of_element_toNat fun i => h (.outputMap i), field (h (.gangPairs 1)), field (h (.gangPairs 2)),
    eq_of_element_toNat fun i => h (.facing i), eq_of_element_toNat fun i => h (.stroke i),
    eq_of_element_toNat fun i => h (.fullTime i), eq_of_element_toNat fun i => h (.quietTime i),
    eq_of_element_toNat fun i => h (.stall i), eq_of_element_toNat fun i => h (.pinch i)⟩

/-- No clamp changes a value exactly where every stored value lies in its range. -/
theorem StoredSettings.clamped_eq_self_iff (x : StoredSettings) : x.clamped = x ↔
    ∀ name v, storedValue x name = some v → ∃ lo hi, settingLimits name = some (lo, hi) ∧ lo ≤ v ∧ v ≤ hi := by
  constructor
  · intro hx name v hv
    cases hlim : settingLimits name with
    | none =>
      rw [settingLimits_eq_none_iff.1 hlim] at hv
      cases hv
    | some r =>
      have hheld := storedValue_clamped x hlim
      rw [hx, hv] at hheld
      exact ⟨r.1, r.2, rfl, (heldTo_eq_self_iff (settingLimits_le hlim)).1 (Option.some.inj hheld).symm⟩
  · refine fun h => eq_of_storedValue fun name => ?_
    cases hlim : settingLimits name with
    | none => rw [settingLimits_eq_none_iff.1 hlim]; rfl
    | some r =>
      rw [storedValue_clamped x hlim]
      cases hv : storedValue x name with
      | none => rfl
      | some v =>
        obtain ⟨lo, hi, hr, hrange⟩ := h name v hv
        rw [hlim] at hr
        cases hr
        exact congrArg some ((heldTo_eq_self_iff (settingLimits_le hlim)).2 hrange)

/-! ### The cross-field rules (R185, second pass) -/

namespace Settings

section
variable (c : Settings)

theorem mapped_iff (l : Leaf) : c.mapped l = true ↔ ∃ o, c.outputMap.get o = some l := by
  simp [mapped, outputOf, N4.mem_all]

theorem gangKept_iff (a b : Leaf) :
    c.gangKept a b = true ↔ c.mapped a = true ∧ c.mapped b = true ∧ c.facing.get a = c.facing.get b := by
  simp [gangKept, and_assoc]

theorem firstUse_eq_some_iff {earlier : List (Option Leaf)} {x : Option Leaf} {l : Leaf} :
    firstUse earlier x = some l ↔ x = some l ∧ ∀ y ∈ earlier, y ≠ some l := by
  have hmem : earlier.contains (some l) = false ↔ ∀ y ∈ earlier, y ≠ some l := by
    rw [Bool.eq_false_iff, ne_eq, List.contains_iff_mem]
    exact ⟨fun h y hy heq => h (heq ▸ hy), fun h hl => h _ hl rfl⟩
  rw [← hmem, firstUse]
  split
  next h => exact ⟨nofun, fun ⟨hx, hfree⟩ => absurd h (by rw [hx, hfree]; decide)⟩
  next h => exact ⟨fun hx => ⟨hx, hx ▸ Bool.eq_false_iff.2 h⟩, And.left⟩

/-- Rule 4 leaves an output its leaf where no lower-numbered output names it. -/
theorem outputRule_get (o : Output) (l : Leaf) : c.outputRule.outputMap.get o = some l ↔
    c.outputMap.get o = some l ∧ ∀ p : Output, p.number < o.number → c.outputMap.get p ≠ some l := by
  cases o
  case n1 => exact (and_iff_left (by simp [N4.forall_iff, N4.number])).symm
  case n2 | n3 | n4 =>
    refine firstUse_eq_some_iff.trans (and_congr_right fun _ => ?_)
    simp [N4.forall_iff, N4.number, Four.get]

theorem comfortRule_comfortSource (own : Nat) : (c.comfortRule own).comfortSource =
    if c.comfortSource = own ∧ c.bmEnable = false then 0 else c.comfortSource := by
  simp [comfortRule]

theorem pinchRule_get (l : Leaf) :
    c.pinchRule.pinch.get l = if c.stall.get l ≤ c.pinch.get l then c.stall.get l - 2 else c.pinch.get l := Four.get_ofFn _ l

theorem gangRule_gang12 : c.gangRule.gang12 = true ↔
    c.gang12 = true ∧ c.mapped .n1 = true ∧ c.mapped .n2 = true ∧ c.facing.f1 = c.facing.f2 :=
  (Bool.and_eq_true_iff).trans (and_congr_right' (c.gangKept_iff .n1 .n2))

theorem gangRule_gang34 : c.gangRule.gang34 = true ↔
    c.gang34 = true ∧ c.mapped .n3 = true ∧ c.mapped .n4 = true ∧ c.facing.f3 = c.facing.f4 :=
  (Bool.and_eq_true_iff).trans (and_congr_right' (c.gangKept_iff .n3 .n4))

/-! #### Where a rule changes nothing -/

/-- A stall threshold above 0 leaves rule 1 something to take away. -/
theorem pinchRule_eq_self_iff (h : ∀ l, 0 < c.stall.get l) : c.pinchRule = c ↔ ∀ l, c.pinch.get l < c.stall.get l := by
  constructor
  · intro heq l
    have hl := c.pinchRule_get l
    rw [heq] at hl
    have := h l
    split at hl <;> omega
  · intro hlt
    have hpinch : c.pinchRule.pinch = c.pinch := Four.ext_get fun l => by
      rw [pinchRule_get, if_neg (Nat.not_le.2 (hlt l))]
    exact congrArg (fun p => { c with pinch := p }) hpinch

theorem answerRule_eq_self_iff : c.answerRule = c ↔ c.smokeZone.isIn c.answerSet = true := by
  rw [← Zone.or_bit_eq_self_iff]
  exact ⟨fun h => congrArg Settings.answerSet h, fun h => congrArg (fun a => { c with answerSet := a }) h⟩

theorem comfortRule_eq_self_iff (own : Nat) :
    c.comfortRule own = c ↔ (c.comfortSource ≠ 0 → c.comfortSource = own → c.bmEnable = true) := by
  have hfield : c.comfortRule own = c ↔ (c.comfortRule own).comfortSource = c.comfortSource :=
    ⟨congrArg Settings.comfortSource, congrArg fun n => { c with comfortSource := n }⟩
  rw [hfield, comfortRule_comfortSource]
  split
  next h =>
    obtain ⟨hown, hoff⟩ := h
    exact ⟨fun h0 hne => absurd h0.symm hne, fun hrule => by_contra fun h0 => by simp [hrule (Ne.symm h0) hown] at hoff⟩
  next h => exact ⟨fun _ _ hown => Bool.eq_true_of_not_eq_false fun hoff => h ⟨hown, hoff⟩, fun _ => rfl⟩

theorem outputRule_eq_self_iff : c.outputRule = c ↔
    ∀ o p, o ≠ p → c.outputMap.get o = c.outputMap.get p → c.outputMap.get o = none := by
  have hfield : c.outputRule = c ↔ ∀ o, c.outputRule.outputMap.get o = c.outputMap.get o :=
    ⟨fun h o => congrArg (fun d : Settings => d.outputMap.get o) h,
      fun h => congrArg (fun m => { c with outputMap := m }) (Four.ext_get h)⟩
  rw [hfield]
  constructor
  · intro h o p hne heq
    have hlower {o p : Output} (hlt : p.number < o.number) (heq : c.outputMap.get o = c.outputMap.get p) :
        c.outputMap.get o = none := Option.eq_none_iff_forall_ne_some.2 fun l hl =>
      ((outputRule_get c o l).1 ((h o).trans hl)).2 p hlt (heq ▸ hl)
    rcases Nat.lt_or_gt_of_ne (mt N4.number_injective hne) with hlt | hlt
    · exact heq.trans (hlower hlt heq.symm)
    · exact hlower hlt heq
  · refine fun h o => Option.ext fun l => (outputRule_get c o l).trans (and_iff_left_of_imp fun hl p hlt hp => ?_)
    have hne : o ≠ p := by
      rintro rfl
      exact absurd hlt (Nat.lt_irrefl _)
    exact absurd (hl.symm.trans (h o p hne (hl.trans hp.symm))) (by simp)

theorem gangRule_eq_self_iff : c.gangRule = c ↔
    (c.gang12 = true → c.gangKept .n1 .n2 = true) ∧ (c.gang34 = true → c.gangKept .n3 .n4 = true) := by
  have hfield : c.gangRule = c ↔
      (c.gang12 && c.gangKept .n1 .n2) = c.gang12 ∧ (c.gang34 && c.gangKept .n3 .n4) = c.gang34 :=
    ⟨fun h => ⟨congrArg Settings.gang12 h, congrArg Settings.gang34 h⟩, fun ⟨h12, h34⟩ =>
      congrArg₂ (fun x y => { c with gang12 := x, gang34 := y }) h12 h34⟩
  rw [hfield, Bool.and_eq_left_iff_imp, Bool.and_eq_left_iff_imp]

/-- The rules change nothing together only where each changes nothing alone, since no two write the same field. -/
theorem crossRules_eq_self_iff (own : Nat) : c.crossRules own = c ↔
    c.pinchRule = c ∧ c.answerRule = c ∧ c.comfortRule own = c ∧ c.outputRule = c ∧ c.gangRule = c := by
  constructor
  · intro h
    have hpinch : c.pinchRule = c := congrArg (fun d : Settings => { c with pinch := d.pinch }) h
    have hanswer : c.answerRule = c := congrArg (fun d : Settings => { c with answerSet := d.answerSet }) h
    have hcomfort : c.comfortRule own = c := congrArg (fun d : Settings => { c with comfortSource := d.comfortSource }) h
    have houtput : c.outputRule = c := congrArg (fun d : Settings => { c with outputMap := d.outputMap }) h
    refine ⟨hpinch, hanswer, hcomfort, houtput, ?_⟩
    rwa [crossRules, hpinch, hanswer, hcomfort, houtput] at h
  · rintro ⟨hpinch, hanswer, hcomfort, houtput, hgang⟩
    rw [crossRules, hpinch, hanswer, hcomfort, houtput, hgang]

end

end Settings

/-! ### The rules over clamped values -/

/-- What the stored values must meet for the cross-field rules to change nothing (R185). -/
def crossFieldsSound (own : Nat) (x : StoredSettings) : Prop :=
  (∀ l, (x.pinch.get l).toNat < (x.stall.get l).toNat) ∧
  (∀ z : Zone, z.number = x.smokeZone.toNat → z.isIn x.answerSet = true) ∧
  (x.comfortSource.toNat ≠ 0 → x.comfortSource.toNat = own → x.bmEnable = 1#8) ∧
  (∀ o p, o ≠ p → x.outputMap.get o = x.outputMap.get p → x.outputMap.get o = 0#8) ∧
  (x.gangPair12 = 1#8 → (∃ o, x.outputMap.get o = 1#8) ∧ (∃ o, x.outputMap.get o = 2#8) ∧ x.facing.f1 = x.facing.f2) ∧
  (x.gangPair34 = 1#8 → (∃ o, x.outputMap.get o = 3#8) ∧ (∃ o, x.outputMap.get o = 4#8) ∧ x.facing.f3 = x.facing.f4)

theorem settingsSound_iff (own : Nat) (x : StoredSettings) : settingsSound own x ↔ x.clamped = x ∧ crossFieldsSound own x :=
  and_congr_left' x.clamped_eq_self_iff.symm

namespace StoredSettings

section
variable (x : StoredSettings)

theorem values_outputMap_get (o : Output) (l : Leaf) :
    x.values.outputMap.get o = some l ↔ (x.outputMap.get o).toNat = l.number := by
  rw [values, Four.get_map, N4.ofNumber?_eq_some_iff]

theorem clamped_outputMap_toNat (o : Output) : (x.clamped.outputMap.get o).toNat = heldTo 0 4 (x.outputMap.get o).toNat := by
  rw [clamped, Four.get_map, toNat_clampByte]

theorem values_smokeZone_number : x.clamped.values.smokeZone.number = heldTo 1 8 x.smokeZone.toNat := by
  have hbound := heldTo_bounds (lo := 1) (hi := 8) (by decide) x.smokeZone.toNat
  have hnumber : x.clamped.smokeZone.toNat = heldTo 1 8 x.smokeZone.toNat := toNat_clampByte _
  rw [values, hnumber, Zone.number_getD_ofNumber? hbound.1 hbound.2]

theorem values_mapped_iff (l : Leaf) : x.values.mapped l = true ↔ ∃ o, (x.outputMap.get o).toNat = l.number := by
  simp only [Settings.mapped_iff, values_outputMap_get]

theorem pinchRule_unchanged_iff : x.clamped.values.pinchRule = x.clamped.values ↔
    ∀ l, (x.clamped.pinch.get l).toNat < (x.clamped.stall.get l).toNat := by
  have hstall (l : Leaf) : 5 ≤ x.clamped.values.stall.get l := by
    have hheld : x.clamped.values.stall.get l = heldTo 5 50 (x.stall.get l).toNat := get_clampByte _ l
    rw [hheld]
    exact (heldTo_bounds (by decide) _).1
  rw [Settings.pinchRule_eq_self_iff _ fun l => Nat.lt_of_lt_of_le (by decide) (hstall l)]
  simp only [values, Four.get_map]

theorem answerRule_unchanged_iff : x.clamped.values.answerRule = x.clamped.values ↔
    ∀ z : Zone, z.number = x.clamped.smokeZone.toNat → z.isIn x.clamped.answerSet = true := by
  have hnumber : x.clamped.values.smokeZone.number = x.clamped.smokeZone.toNat :=
    (values_smokeZone_number x).trans (toNat_clampByte _).symm
  rw [Settings.answerRule_eq_self_iff, ← hnumber]
  exact ⟨fun h z hz => Zone.number_injective hz ▸ h, fun h => h _ rfl⟩

theorem comfortRule_unchanged_iff (own : Nat) : x.clamped.values.comfortRule own = x.clamped.values ↔
    (x.clamped.comfortSource.toNat ≠ 0 → x.clamped.comfortSource.toNat = own → x.clamped.bmEnable = 1#8) := by
  have hbm : x.clamped.values.bmEnable = true ↔ x.clamped.bmEnable = 1#8 := isSet_clampByte_eq_one _
  rw [Settings.comfortRule_eq_self_iff, hbm]
  rfl

/-- An output is without a leaf exactly where its clamped value is 0, so two outputs name one leaf where their values agree. -/
theorem outputRule_unchanged_iff : x.clamped.values.outputRule = x.clamped.values ↔
    ∀ o p, o ≠ p → x.clamped.outputMap.get o = x.clamped.outputMap.get p → x.clamped.outputMap.get o = 0#8 := by
  have hle (o : Output) : (x.clamped.outputMap.get o).toNat ≤ 4 := by
    rw [clamped_outputMap_toNat]
    exact (heldTo_bounds (by decide) _).2
  have hget (o : Output) : x.clamped.values.outputMap.get o = N4.ofNumber? (x.clamped.outputMap.get o).toNat := by
    rw [values, Four.get_map]
  have hsame (o p : Output) : x.clamped.values.outputMap.get o = x.clamped.values.outputMap.get p ↔
      x.clamped.outputMap.get o = x.clamped.outputMap.get p := by
    rw [hget, hget, N4.ofNumber?_inj _ (hle o) _ (hle p), BitVec.toNat_inj]
  have hnone (o : Output) : x.clamped.values.outputMap.get o = none ↔ x.clamped.outputMap.get o = 0#8 := by
    rw [hget, N4.ofNumber?_eq_none_iff _ (hle o), ← BitVec.toNat_inj]
    rfl
  simp only [Settings.outputRule_eq_self_iff, hsame, hnone]

theorem gangRule_unchanged_iff : x.clamped.values.gangRule = x.clamped.values ↔
    (x.clamped.gangPair12 = 1#8 → (∃ o, x.clamped.outputMap.get o = 1#8) ∧ (∃ o, x.clamped.outputMap.get o = 2#8) ∧
      x.clamped.facing.f1 = x.clamped.facing.f2) ∧
    (x.clamped.gangPair34 = 1#8 → (∃ o, x.clamped.outputMap.get o = 3#8) ∧ (∃ o, x.clamped.outputMap.get o = 4#8) ∧
      x.clamped.facing.f3 = x.clamped.facing.f4) := by
  have h12 : x.clamped.values.gang12 = true ↔ x.clamped.gangPair12 = 1#8 := isSet_clampByte_eq_one _
  have h34 : x.clamped.values.gang34 = true ↔ x.clamped.gangPair34 = 1#8 := isSet_clampByte_eq_one _
  simp only [Settings.gangRule_eq_self_iff, Settings.gangKept_iff, values_mapped_iff, h12, h34, ← BitVec.toNat_inj]
  rfl

theorem crossRules_unchanged_iff (own : Nat) :
    x.clamped.values.crossRules own = x.clamped.values ↔ crossFieldsSound own x.clamped := by
  rw [Settings.crossRules_eq_self_iff, pinchRule_unchanged_iff, answerRule_unchanged_iff, comfortRule_unchanged_iff,
    outputRule_unchanged_iff, gangRule_unchanged_iff, crossFieldsSound]

theorem intoForce_unchanged_iff (own : Nat) : (x.intoForce own).2 = false ↔ settingsSound own x := by
  have hflag : (x.intoForce own).2 = false ↔ x.clamped = x ∧ x.clamped.values.crossRules own = x.clamped.values := by
    simp [intoForce]
  rw [hflag, settingsSound_iff, crossRules_unchanged_iff]
  exact and_congr_right fun h => by rw [h]

end

end StoredSettings

/-! ### The check word (R184) -/

theorem SettingsStore.atStart_passed {x : SettingsStore} (own : Nat) (h : x.stored.check = x.checkWord) : x.atStart own =
    ⟨x.stored, x.checkWord, (x.stored.intoForce own).1, false, (x.stored.intoForce own).2, false⟩ := if_pos h

theorem SettingsStore.atStart_defaulted {x : SettingsStore} (own : Nat) (h : x.stored.check ≠ x.checkWord) : x.atStart own =
    ⟨.defaults, StoredSettings.defaults.check, .defaults, false, false, true⟩ := if_neg h

theorem SettingsStore.atStart_settingsPending (x : SettingsStore) (own : Nat) : (x.atStart own).settingsPending = false := by
  unfold atStart
  split <;> rfl

/-- Settles O58. On a check word that passes, the settings in force are the clamped values under the cross-field rules: a field that
no rule writes holds its clamped value, and each other one is given by its rule's lemma. -/
theorem settingsCheckedAtStart : Obligations.SettingsCheckedAtStart := by
  intro own x y v c
  refine ⟨x.atStart_settingsPending own, SettingsStore.atStart_defaulted own, fun hcheck => ?_⟩
  have hy : y = ⟨v, x.checkWord, (v.intoForce own).1, false, (v.intoForce own).2, false⟩ :=
    SettingsStore.atStart_passed own hcheck
  have hc : c = v.clamped.values.crossRules own := congrArg SettingsStore.inForce hy
  clear_value c
  clear_value y
  subst hy hc
  refine ⟨rfl, rfl, rfl, v.intoForce_unchanged_iff own, v.values_smokeZone_number, fun z => Zone.isIn_or_bit z _ _,
    isSet_clampByte _, isSet_clampByte _, rfl, isSet_clampByte _, toNat_clampByte _, toNat_clampByte _, isSet_clampByte _,
    ?comfort, toNat_clampWord _, toNat_clampWord _, toNat_clampByte _, toNat_clampWord _, toNat_clampByte _, ?loops, ?outputs,
    ?gang12, ?gang34, fun l => ⟨get_clampByte _ l, get_clampWord _ l, get_clampWord _ l, get_clampWord _ l, get_clampByte _ l,
      ?pinch⟩⟩
  case comfort =>
    have hsource : v.clamped.values.comfortSource = heldTo 0 32 v.comfortSource.toNat := toNat_clampByte _
    rw [← hsource]
    exact Settings.comfortRule_comfortSource _ own
  case loops =>
    rintro (_ | _) <;> exact isSet_clampByte _
  case outputs =>
    intro o l
    have hrule := v.clamped.values.outputRule_get o l
    simp only [ne_eq, StoredSettings.values_outputMap_get, StoredSettings.clamped_outputMap_toNat] at hrule
    exact hrule
  case gang12 => exact (Settings.gangRule_gang12 _).trans (and_congr_left' (isSet_clampByte _))
  case gang34 => exact (Settings.gangRule_gang34 _).trans (and_congr_left' (isSet_clampByte _))
  case pinch =>
    have hpinch : v.clamped.values.pinch.get l = heldTo 3 48 (v.pinch.get l).toNat := get_clampByte _ l
    rw [← hpinch]
    exact Settings.pinchRule_get _ l

end Machine
end Sys2Proof
end

section
/-! SUPPORT. What a command can do to a started station: its own effect, and whether its event then closes. One inversion of
`exec`, from which the laws that every step keeps are derived. -/

namespace Sys2Proof.Machine

/-! ### Runs in flight -/

theorem UnitRecord.run?_eq_some_iff {x : UnitRecord} {r : Run} : x.run? = some r ↔ x.status = .inFlight r := by
  unfold UnitRecord.run?
  split
  next h => simp [h]
  next h => simp [h]
  next h => simp [h]

theorem runOf_eq_some_iff {s : State} {l : Leaf} {r : Run} :
    s.runOf l = some r ↔ (s.unitOf l).status = .inFlight r ∧ l ∈ r.members := by
  unfold State.runOf
  rw [Option.bind_eq_some_iff]
  constructor
  · rintro ⟨q, hq, hif⟩
    split at hif
    next hmem =>
      cases hif
      exact ⟨UnitRecord.run?_eq_some_iff.1 hq, by simpa using hmem⟩
    next => cases hif
  · rintro ⟨hr, hmem⟩
    exact ⟨r, UnitRecord.run?_eq_some_iff.2 hr, if_pos (by simpa using hmem)⟩

theorem Stage.isRunning_iff {x : Stage} : x.isRunning = true ↔ x = .running := by cases x <;> simp [Stage.isRunning]

theorem runningAt_eq_some_iff {s : State} {o : Output} {l : Leaf} {r : Run} :
    s.runningAt o = some (l, r) ↔ driving s o l r := by
  unfold State.runningAt driving
  split
  next k hk =>
    rw [Option.bind_eq_some_iff, hk]
    constructor
    · rintro ⟨q, hq, hif⟩
      split at hif
      next hdrives =>
        cases hif
        rw [Bool.and_eq_true, Stage.isRunning_iff] at hdrives
        exact ⟨rfl, hq, hdrives⟩
      next => cases hif
    · rintro ⟨hl, hr, hstage, hmotor⟩
      cases hl
      exact ⟨r, hr, if_pos (by rw [hstage, hmotor]; rfl)⟩
  next hk => simp [hk]

/-! ### The effects -/

/-- The line when a good frame has come: judged, counted and monitored (R40, R42, R46, R52). -/
def State.goodCounted (s : State) : State :=
  (s.onLine fun x => x.bytesArrive s.now).onLine fun x => x.judged.countGood.monitorGood

/-- The line when a bad frame has come, and whether the station joins by it (R41, R46, R49, R52). -/
def State.badCounted (s : State) : State × Bool :=
  ((s.onLine fun x => x.bytesArrive s.now).onLine LineInterface.judged).takeBadFrame

/-- The line when a frame is cut short at a gap, and whether the station joins by it (R40, R41, R49). -/
def State.cutShort (s : State) : State × Bool := (s.onLine LineInterface.idle).takeBadFrame

/-- What the line's commands do, a counter cleared and the restart wait among them. -/
inductive LineEvent (s : State) : State → Prop
  | countersCleared : LineEvent s (s.clearCounters.replyOk .none)
  | restartWait (hrun : s.phase = .running) : LineEvent s s.beginRestartWait
  | lineIdle : LineEvent s ((s.onLine LineInterface.idle).drawBackoff.composeDue s false)
  | lineIdleEarly : LineEvent s (s.cutShort.1.drawBackoff.composeDue s s.cutShort.2)
  | lineBusy (rx : Option RxByte) : LineEvent s (s.onLine fun x => (x.startBit s.now).takeByte rx)
  | sends (r : Series) (n since : Nat) (hr : s.line.series = some r) (hp : r.phase = .backoff n since) :
      LineEvent s (s.setLine { s.line with
        series := some { r with phase := .transmitting 0 }, busy := true, lastByte := s.now
        receiver := .discarding, rxBytes := [] })
  | collides (r : Series) (n : Nat) (hr : s.line.series = some r) (hp : r.phase = .transmitting n) :
      LineEvent s (s.setLine ({ s.line with lastByte := s.now }.collide r))
  | readsBack (r : Series) (n : Nat) (hr : s.line.series = some r) (hp : r.phase = .transmitting n) :
      LineEvent s (s.setLine ({ s.line with lastByte := s.now }.byteSent r n))
  | goodFrameInWait : LineEvent s s.goodCounted
  | goodFrameUnheard : LineEvent s (s.goodCounted.composeDue s false)
  | ownAddress : LineEvent s (s.goodCounted.addressConflict.composeDue s false)
  | badFrame : LineEvent s (s.badCounted.1.composeDue s s.badCounted.2)
  | proved (hj : s.line.join = .listen) : LineEvent s (s.enterRunningJoin.composeDue s true)
  | firstAttempt (urgent : Bool) (h : s.mayBegin = true) : LineEvent s (s.beginReport urgent)

/-- What a sample of the loops or of the call point does, and the end of a loop reset's power-off. -/
inductive SampleEvent (s : State) : State → Prop
  | loops (d1 d2 : Nat) :
      SampleEvent s (s.setDetection { s.detection with loops := ⟨s.sampleLoop .d1 d1, s.sampleLoop .d2 d2⟩ })
  | callPoint (current : Nat) :
      SampleEvent s (s.setDetection { s.detection with callPoint := s.detection.callPoint.sample current s.now })
  | powerRestored (since : Nat) (h : s.detection.loopReset = .powerOff since) :
      SampleEvent s (s.setDetection { s.detection with
        loopReset := .settle s.now
        loops := PerLoop.mapLoops LoopRecord.beginSettle s.detection.loops })

/-- What the drive controller's and the feedback unit's commands do whose event does not close. -/
inductive MotionEvent (s : State) : State → Prop
  | entersRunning (l : Leaf) (r : Run) (due : Nat) (hr : (s.unitOf l).status = .inFlight r) (hst : r.stage = .starting due) :
      MotionEvent s (s.enterRunning (s.cfg.leader l) r)
  | member (l : Leaf) (m : MemberRecord) : MotionEvent s (s.setMember l m)
  | stops (l : Leaf) (r : Run) (e : Ending) (hr : (s.unitOf l).status = .inFlight r) (hst : r.stage.isRunning = true) :
      MotionEvent s (s.toRundown (s.cfg.leader l) r e)
  | switchInRundown (l : Leaf) (m : MemberRecord) : MotionEvent s ((s.meetClosed l).setMember l m)
  | closedEnd (l : Leaf) (r : Run) (m : MemberRecord) (hr : s.runOf l = some r) (hst : r.stage.isRunning = true) :
      MotionEvent s ((((s.meetClosed l).setMember l m).finishMember (s.cfg.leader l) r l).syncGang l)
  | cutOut (l : Leaf) (r : Run) (hr : s.runOf l = some r) (hst : r.stage.isRunning = true) : MotionEvent s (s.takeCutOut l r)
  | edge (l : Leaf) (line : FeedbackLine) : MotionEvent s ((s.takeEdge l line).composeDue s false)
  | watchdog (l : Leaf) (since : Option Nat) : MotionEvent s (s.setFeedback l { s.feedback.get l with watchdog := since })
  | feedbackLost (l : Leaf) : MotionEvent s ((s.toTimed l).composeDue s false)
  | estimated (l : Leaf) : MotionEvent s ((s.formEstimate l).moved l)
  | probePulse (l : Leaf) (due : Nat) (h : (s.feedback.get l).probe = .settle due) : MotionEvent s (s.beginPulse l)

/-- The effects of the commands whose event does not close: `a` is `s` after one of them. -/
inductive OpenEvent (s : State) : State → Prop
  | line {a : State} (h : LineEvent s a) : OpenEvent s a
  | sample {a : State} (h : SampleEvent s a) : OpenEvent s a
  | motion {a : State} (h : MotionEvent s a) : OpenEvent s a
  | nothing : OpenEvent s s
  | port (p : ServicePort) : OpenEvent s { s with port := p }
  | written (name : SettingName) (v : Int) : OpenEvent s ({ s with store := s.store.write name v }.replyOk .none)
  | timer (c : Composer) : OpenEvent s { s with composer := c }
  | heartbeat (c : Composer) : OpenEvent s ({ s with composer := c }.makeDue false)
  | settledTime : OpenEvent s (s.formIsolated.composeDue s false)
  | switches (c : SwitchContacts) : OpenEvent s (s.setDetection (s.detection.readSwitches c s.now))
  | button (b : ServiceButton) : OpenEvent s (s.setDetection (s.detection.setButton b .pressed))
  | resetKey (flash : Option Nat) :
      OpenEvent s (s.setDetection { s.detection with zoneResetKey := .pressed, flashSince := flash })
  | brigade (r : BrigadeReading) : OpenEvent s (s.setDetection { s.detection with brigade := .taken r })
  | flashEnd : OpenEvent s (s.setDetection { s.detection with flashSince := none })
  | pulse (n : Nat) : OpenEvent s (s.setWeather { s.weather with windowCount := n })
  | circuit : OpenEvent s (s.setWeather { s.weather with windowOpen := true })
  | supplyRead (mains : Bool) (battery : Option Nat) : OpenEvent s (s.setSupply (s.supply.read mains battery s.now))

/-- The effects that move local detection, the zone records or the peer table; their events close. -/
inductive StationEvent (s : State) : State → Prop
  | band (x : DebouncedInput) (b : Band) (h : s.dueCandidate x = some b) : StationEvent s (s.takeBand x b).formLocal
  | confirm (l : Loop) : StationEvent s (s.setDetection { s.detection with
      loops := s.detection.loops.set l { s.detection.loops.get l with confirm := .expired } }).formLocal
  | settleEnd (since : Nat) (h : s.detection.loopReset = .settle since) : StationEvent s s.settleEnd
  | zoneReset (h : s.resetTaking = .accepted) :
      StationEvent s (s.setDetection { s.detection with zoneResetKey := .pressed }).acceptReset
  | report (r : Report) (p : PeerRecord) (st : PeerStatus) (hp : s.peers.find? r.source = some p)
      (hst : p.status.taking r s.now = some st) : StationEvent s (s.goodCounted.storeReport r.source r st)
  | silence (a : Nat) (p : PeerRecord) (c : PeerContent) (hp : s.peers.find? a = some p) (hc : p.status = .fresh c) :
      StationEvent s { s with peers := s.peers.put a (.lost c) }.formIsolated

/-- The effects of the commands whose event closes: `a` is `s` after one of them. -/
inductive ClosingEvent (s : State) : State → Prop
  | station {a : State} (h : StationEvent s a) : ClosingEvent s a
  | key (r : KeyReading) : ClosingEvent s ((s.setDetection { s.detection with key := .taken r }).keyChanged s.key)
  | press (b : ServiceButton) : ClosingEvent s ((s.setDetection (s.detection.setButton b .pressed)).takePress b)
  | brigade (r : BrigadeReading) : ClosingEvent s
      ((s.setDetection { s.detection with brigade := .taken r }).deliverBrigade s.detection.brigade.held r).1
  | comfortStep (n : Option Nat) : ClosingEvent s (s.setDetection { s.detection with heldStep := n })
  | weather (w : Weather) : ClosingEvent s (s.setWeather w)
  | moveTarget (l : Leaf) (n : Nat) :
      ClosingEvent s ((s.moveTarget l n).setDetection { s.detection with direction := .none })
  | stopTargets : ClosingEvent s (s.stopTargets.setDetection { s.detection with direction := .none })
  | runEnds (l : Leaf) (r : Run) (due : Nat) (e : Ending) (hr : (s.unitOf l).status = .inFlight r) (hst : r.stage = .rundown due e) :
      ClosingEvent s (s.endRun (s.cfg.leader l) r e)
  | pauseOver (u : Leaf) : ClosingEvent s (s.setUnit u { s.units.get u with reversal := none })
  | holdOver (u : Leaf) : ClosingEvent s (s.setUnit u { s.units.get u with retryHold := none })
  | probeEnds (l : Leaf) (p : Presence) (due : Nat) (h : (s.feedback.get l).probe = .pulse due) :
      ClosingEvent s (s.finishProbe l p)
  | reference (l : Leaf) (hkey : s.key = .service) : ClosingEvent s (s.referenceUnit (s.cfg.leader l))
  | supply (st : SupplyState) : ClosingEvent s (s.setSupply (s.supply.changeTo st))
  | supplyLow : ClosingEvent s (s.setSupply (s.supply.changeTo .low)).haltBelowFire

/-- The state that a command comes to before the outputs are formed. -/
inductive Taken (s : State) : State → Prop
  | opened {a : State} (h : OpenEvent s a) : Taken s a
  | closed {a : State} (h : ClosingEvent s a) (request : Bool) : Taken s (a.close s request)
  | replied {a : State} (h : ClosingEvent s a) (request : Bool) (r : Reply) : Taken s ((a.close s request).reply r)

/-- A command of a started station: `f` is what it does before the outputs are formed. -/
theorem taken_act {s : State} {f : State → State} (hs : s.phase ≠ .off) (h : Taken s (f s)) :
    ∃ u, Taken s u ∧ Host.Outcome.next (φ := Fault) (ρ := Refusal) (s.act f) = .next u.refresh :=
  ⟨f s, h, congrArg _ (State.act_started hs f)⟩

/-- A command at the service port: taken where the port is idle, else without effect. -/
theorem taken_service {s : State} {f : State → State} (hs : s.phase ≠ .off) (h : Taken s (f s)) :
    ∃ u, Taken s u ∧ Host.Outcome.next (φ := Fault) (ρ := Refusal) (s.service f) = .next u.refresh := by
  refine taken_act hs ?_
  split
  · exact h
  · exact .opened .nothing

theorem taken_nothing (s : State) : Taken s s := .opened .nothing

theorem taken_replyOk (s : State) (d : ReplyData) : Taken s (s.replyOk d) := .opened (.port _)

theorem taken_replyRefused (s : State) (r : RefusalReason) : Taken s (s.replyRefused r) := .opened (.port _)

end Sys2Proof.Machine
end

section
/-! SUPPORT. The inversion of `exec`, arm by arm. -/

namespace Sys2Proof.Machine

section
variable {s : State} (hs : s.phase ≠ .off)
include hs

theorem taken_goodFrameReceived (rest : List Byte) :
    ∃ u, Taken s u ∧ exec (.goodFrameReceived rest) s = .next u.refresh := by
  refine taken_act hs ?_
  dsimp only
  split
  next f _ =>
    unfold State.takeGoodFrame
    dsimp only
    split_ifs
    · exact .opened (.line .goodFrameInWait)
    · exact .opened (.line .ownAddress)
    · show Taken s (s.goodCounted.takeReport s _)
      cases hp : s.peers.find? (decodeFrame (f.map RxByte.data)).source with
      | none =>
        have hnone : s.goodCounted.peers.find? (decodeFrame (f.map RxByte.data)).source = none := hp
        simp only [State.takeReport, hnone]
        exact .opened (.line .goodFrameUnheard)
      | some p =>
        have hp' : s.goodCounted.peers.find? (decodeFrame (f.map RxByte.data)).source = some p := hp
        cases hst : p.status.taking (decodeFrame (f.map RxByte.data)) s.now with
        | none =>
          rw [takeReport_duplicate hp' hst]
          exact .opened (.line .goodFrameUnheard)
        | some st =>
          rw [takeReport_stored hp' hst]
          exact .closed (.station (.report _ p st hp hst)) _
  · exact taken_nothing s
  · exact taken_nothing s

theorem taken_debounceExpiry (x : DebouncedInput) : ∃ u, Taken s u ∧ exec (.debounceExpiry x) s = .next u.refresh := by
  refine taken_act hs ?_
  split
  next b h => exact .closed (.station (.band x b h)) false
  · exact taken_nothing s

theorem taken_keySwitchChange : ∃ u, Taken s u ∧ exec .keySwitchChange s = .next u.refresh := by
  refine taken_act hs ?_
  split
  next r _ => exact .closed (.key r) false
  · exact taken_nothing s

theorem taken_serviceButtonPress (b : ServiceButton) :
    ∃ u, Taken s u ∧ exec (.serviceButtonPress b) s = .next u.refresh := by
  refine taken_act hs ?_
  dsimp only
  split_ifs
  · exact .closed (.press b) false
  · exact .opened (.button b)
  · exact taken_nothing s

theorem taken_zoneResetKeyPress : ∃ u, Taken s u ∧ exec .zoneResetKeyPress s = .next u.refresh := by
  refine taken_act hs ?_
  dsimp only
  split_ifs
  · unfold State.resetRequest
    split
    · exact .opened (.resetKey _)
    · exact .opened (.resetKey s.detection.flashSince)
    next h => exact .closed (ClosingEvent.station (.zoneReset (s := s) h)) true
  · exact .opened (.resetKey s.detection.flashSince)
  · exact taken_nothing s

theorem taken_brigadeSwitchChange : ∃ u, Taken s u ∧ exec .brigadeSwitchChange s = .next u.refresh := by
  refine taken_act hs ?_
  dsimp only
  split
  next r _ =>
    split_ifs
    · exact .closed (.brigade r) _
    · exact .opened (.brigade r)
  · exact taken_nothing s

theorem taken_overcurrent (o : Output) (n : Nat) : ∃ u, Taken s u ∧ exec (.overcurrent o n) s = .next u.refresh := by
  refine taken_act hs ?_
  split
  · split
    next l hl =>
      split
      next hpulse =>
        cases hprobe : (s.feedback.get l).probe with
        | pulse due => exact .closed (.probeEnds l _ due hprobe) false
        | none | requested | settle _ => simp [hprobe, Probe.pulsing] at hpulse
      · split
        next k r hrun =>
          obtain ⟨hk, hr, hstage, -⟩ := runningAt_eq_some_iff.1 hrun
          obtain rfl : l = k := Option.some.inj (hl.symm.trans hk)
          exact .opened (.motion (.stops l r _ (runOf_eq_some_iff.1 hr).1 (by rw [hstage]; rfl)))
        · exact taken_nothing s
    · exact taken_nothing s
  · exact taken_nothing s

theorem taken_endCutOut (o : Output) (n : Nat) : ∃ u, Taken s u ∧ exec (.endCutOut o n) s = .next u.refresh := by
  refine taken_act hs ?_
  split
  next l r hrun =>
    obtain ⟨-, hr, hstage, -⟩ := runningAt_eq_some_iff.1 hrun
    split_ifs
    · exact .opened (.motion (.cutOut l r hr (by rw [hstage]; rfl)))
    · exact taken_nothing s
  · exact taken_nothing s

theorem taken_probingSliceEnd (o : Output) : ∃ u, Taken s u ∧ exec (.probingSliceEnd o) s = .next u.refresh := by
  refine taken_act hs ?_
  split
  next l r hrun =>
    obtain ⟨-, hr, hstage, -⟩ := runningAt_eq_some_iff.1 hrun
    split
    · split_ifs
      · exact .opened (.motion (.member _ _))
      · exact .opened (.motion (.stops l r _ (runOf_eq_some_iff.1 hr).1 (by rw [hstage]; rfl)))
      · exact taken_nothing s
    · exact taken_nothing s
  · exact taken_nothing s

theorem taken_stall (o : Output) (n : Nat) : ∃ u, Taken s u ∧ exec (.stall o n) s = .next u.refresh := by
  refine taken_act hs ?_
  split
  next l r hrun =>
    obtain ⟨-, hr, hstage, -⟩ := runningAt_eq_some_iff.1 hrun
    split_ifs
    · exact .opened (.motion (.stops l r _ (runOf_eq_some_iff.1 hr).1 (by rw [hstage]; rfl)))
    · exact taken_nothing s
  · exact taken_nothing s

theorem taken_pinch (o : Output) (n : Nat) : ∃ u, Taken s u ∧ exec (.pinch o n) s = .next u.refresh := by
  refine taken_act hs ?_
  split
  next l r hrun =>
    obtain ⟨-, hr, hstage, -⟩ := runningAt_eq_some_iff.1 hrun
    split_ifs
    · exact .opened (.motion (.stops l r _ (runOf_eq_some_iff.1 hr).1 (by rw [hstage]; rfl)))
    · exact taken_nothing s
  · exact taken_nothing s

theorem taken_closedSwitchMade (o : Output) : ∃ u, Taken s u ∧ exec (.closedSwitchMade o) s = .next u.refresh := by
  refine taken_act hs ?_
  split
  next l _ =>
    split
    next r hr =>
      unfold State.switchTaken at hr
      obtain ⟨q, hq, hif⟩ := Option.bind_eq_some_iff.1 hr
      split at hif
      next =>
        cases hif
        dsimp only
        split
        next hstage => exact .opened (.motion (.closedEnd l r _ hq hstage))
        next => exact .opened (.motion (.switchInRundown l _))
      next => cases hif
    · exact taken_nothing s
  · exact taken_nothing s

theorem taken_lineIdle : ∃ u, Taken s u ∧ exec .lineIdle s = .next u.refresh := by
  refine taken_act hs ?_
  split
  · dsimp only
    split_ifs
    · exact .opened (.line .lineIdleEarly)
    · exact .opened (.line .lineIdle)
  · exact taken_nothing s

theorem taken_byteReadback (rx : RxByte) : ∃ u, Taken s u ∧ exec (.byteReadback rx) s = .next u.refresh := by
  refine taken_act hs ?_
  split
  next r hr =>
    split
    next n hp =>
      dsimp only
      split_ifs
      · exact .opened (.line (.collides r n hr hp))
      · exact .opened (.line (.readsBack r n hr hp))
    · exact taken_nothing s
    · exact taken_nothing s
  · exact taken_nothing s

theorem taken_reference (n : Nat) : ∃ u, Taken s u ∧ exec (.reference n) s = .next u.refresh := by
  refine taken_service hs ?_
  split
  next l href _ =>
    refine .replied (.reference l ?_) false _
    by_contra hkey
    rw [State.referenceRefusal?, if_pos hkey] at href
    cases href
  · exact taken_replyRefused s _
  · exact taken_replyRefused s _

end

/-- Every command of a started station but the two starts: the state it comes to is taken, and the outputs are formed from it. -/
theorem taken_exec {s : State} (hs : s.phase ≠ .off) (c : Instr) (hp : ∀ i, c ≠ .powerOnStart i)
    (hr : ∀ i, c ≠ .restartStart i) : ∃ u, Taken s u ∧ exec c s = .next u.refresh := by
  cases c
  case powerOnStart i => exact absurd rfl (hp i)
  case restartStart i => exact absurd rfl (hr i)
  case goodFrameReceived rest => exact taken_goodFrameReceived hs rest
  case debounceExpiry x => exact taken_debounceExpiry hs x
  case keySwitchChange => exact taken_keySwitchChange hs
  case serviceButtonPress b => exact taken_serviceButtonPress hs b
  case zoneResetKeyPress => exact taken_zoneResetKeyPress hs
  case brigadeSwitchChange => exact taken_brigadeSwitchChange hs
  case overcurrent o n => exact taken_overcurrent hs o n
  case endCutOut o n => exact taken_endCutOut hs o n
  case probingSliceEnd o => exact taken_probingSliceEnd hs o
  case stall o n => exact taken_stall hs o n
  case pinch o n => exact taken_pinch hs o n
  case closedSwitchMade o => exact taken_closedSwitchMade hs o
  case lineIdle => exact taken_lineIdle hs
  case byteReadback rx => exact taken_byteReadback hs rx
  case reference n => exact taken_reference hs n
  case status | zones | wind | settings | restart => exact taken_service hs (.opened (.port _))
  case unknownCommand => exact taken_service hs (taken_replyRefused s _)
  case clearCounters => exact taken_service hs (.opened (.line .countersCleared))
  case peer n | leaf n =>
    refine taken_service hs ?_
    split
    · exact taken_replyOk s _
    · exact taken_replyRefused s _
  case writeSetting name v =>
    refine taken_service hs ?_
    split
    · exact taken_replyRefused s _
    · exact .opened (.written name v)
  case move n target =>
    refine taken_service hs ?_
    split
    next l _ _ => exact .replied (.moveTarget l _) false _
    · exact taken_replyRefused s _
    · exact taken_replyRefused s _
  case stopAll =>
    refine taken_service hs ?_
    split
    · exact taken_replyRefused s _
    · exact .replied .stopTargets false _
  case serviceReplySent =>
    refine taken_act hs ?_
    split_ifs
    next h _ =>
      rw [Bool.and_eq_true, decide_eq_true_iff] at h
      exact .opened (.line (.restartWait h.1))
    · exact .opened (.port _)
    · exact taken_nothing s
  case lineBusy rx => exact taken_act hs (.opened (.line (.lineBusy rx)))
  case backoffExpiry =>
    refine taken_act hs ?_
    split
    next r hr =>
      split
      next n since hp =>
        split_ifs
        · exact .opened (.line (.sends r n since hr hp))
        · exact taken_nothing s
      · exact taken_nothing s
      · exact taken_nothing s
    · exact taken_nothing s
  case badFrame rest =>
    refine taken_act hs ?_
    dsimp only
    split
    · exact .opened (.line .badFrame)
    · exact taken_nothing s
    · exact taken_nothing s
  case provingTimerExpiry =>
    refine taken_act hs ?_
    split
    next hj _ =>
      split_ifs
      · exact .opened (.line (.proved hj))
      · exact taken_nothing s
    · exact taken_nothing s
  case holdoffExpiry =>
    refine taken_act hs ?_
    split
    · split_ifs
      · exact .opened (.timer _)
      · exact taken_nothing s
    · exact taken_nothing s
  case heartbeatExpiry =>
    refine taken_act hs ?_
    split
    · split_ifs
      · exact .opened (.heartbeat _)
      · exact taken_nothing s
    · exact taken_nothing s
  case firstAttemptBegins =>
    refine taken_act hs ?_
    split
    next h => exact .opened (.line (.firstAttempt _ h))
    · exact taken_nothing s
  case peerSilenceExpiry a =>
    refine taken_act hs ?_
    split
    next p hp =>
      split
      next c hc =>
        split_ifs
        · exact .closed (.station (.silence a p c hp hc)) false
        · exact taken_nothing s
      · exact taken_nothing s
      · exact taken_nothing s
    · exact taken_nothing s
  case settledTimeReached =>
    refine taken_act hs ?_
    split_ifs
    · exact .opened .settledTime
    · exact taken_nothing s
  case loopSample d1 d2 => exact taken_act hs (.opened (.sample (.loops d1 d2)))
  case callPointSample n => exact taken_act hs (.opened (.sample (.callPoint n)))
  case confirmTimerExpiry l =>
    refine taken_act hs ?_
    split_ifs
    · exact .closed (.station (.confirm l)) false
    · exact taken_nothing s
  case powerOffExpiry =>
    refine taken_act hs ?_
    split
    next since h =>
      split_ifs
      · exact .opened (.sample (.powerRestored since h))
      · exact taken_nothing s
    · exact taken_nothing s
    · exact taken_nothing s
  case settleEnd =>
    refine taken_act hs ?_
    split
    next since h =>
      split_ifs
      · exact .closed (.station (.settleEnd since h)) false
      · exact taken_nothing s
    · exact taken_nothing s
    · exact taken_nothing s
  case bmSample v =>
    refine taken_act hs ?_
    split_ifs
    · exact .closed (.comfortStep _) false
    · exact taken_nothing s
  case resetFlashEnd =>
    refine taken_act hs ?_
    split
    · split_ifs
      · exact .opened .flashEnd
      · exact taken_nothing s
    · exact taken_nothing s
  case anemometerWindowEnd | rainReading =>
    refine taken_act hs ?_
    split_ifs
    · exact .closed (.weather _) false
    · exact taken_nothing s
  case dryOffExpiry | clearHoldExpiry | classHoldExpiry =>
    refine taken_act hs ?_
    dsimp -failIfUnchanged only
    split
    · split_ifs
      · exact .closed (.weather _) false
      · exact taken_nothing s
    · exact taken_nothing s
  case startingEnd l =>
    refine taken_act hs ?_
    split
    next r hr =>
      split
      next due hst =>
        split_ifs
        · exact .opened (.motion (.entersRunning l r due (UnitRecord.run?_eq_some_iff.1 hr) hst))
        · exact taken_nothing s
      · exact taken_nothing s
      · exact taken_nothing s
    · exact taken_nothing s
  case blankingEnd o =>
    refine taken_act hs ?_
    split
    · split
      · split_ifs
        · exact .opened (.motion (.member _ _))
        · exact taken_nothing s
      · exact taken_nothing s
      · exact taken_nothing s
    · exact taken_nothing s
  case travelTimeout l =>
    refine taken_act hs ?_
    split
    next r hr =>
      split
      · split
        next h =>
          rw [Bool.and_eq_true] at h
          exact .opened (.motion (.stops l r _ (UnitRecord.run?_eq_some_iff.1 hr) h.1))
        · exact taken_nothing s
      · exact taken_nothing s
    · exact taken_nothing s
  case rundownEnd l =>
    refine taken_act hs ?_
    split
    next r hr =>
      split
      next due e hst =>
        split_ifs
        · exact .closed (.runEnds l r due e (UnitRecord.run?_eq_some_iff.1 hr) hst) false
        · exact taken_nothing s
      · exact taken_nothing s
      · exact taken_nothing s
    · exact taken_nothing s
  case reversalPauseEnd l =>
    refine taken_act hs ?_
    dsimp only
    split
    · split_ifs
      · exact .closed (.pauseOver _) false
      · exact taken_nothing s
    · exact taken_nothing s
  case retryHoldExpiry l =>
    refine taken_act hs ?_
    dsimp only
    split
    · split_ifs
      · exact .closed (.holdOver _) false
      · exact taken_nothing s
    · exact taken_nothing s
  case feedbackEdge o line =>
    refine taken_act hs ?_
    split
    next l _ => exact .opened (.motion (.edge l line))
    · exact taken_nothing s
  case watchdogApplied o =>
    refine taken_act hs ?_
    split
    · split_ifs
      · exact .opened (.motion (.watchdog _ _))
      · exact taken_nothing s
    · exact taken_nothing s
  case pulseWatchdogExpiry o n =>
    refine taken_act hs ?_
    split
    next l _ =>
      split
      · split_ifs
        · exact .opened (.motion (.feedbackLost l))
        · exact .opened (.motion (.watchdog l _))
        · exact taken_nothing s
      · exact taken_nothing s
    · exact taken_nothing s
  case timedEstimateUpdate o =>
    refine taken_act hs ?_
    split
    next l _ =>
      split_ifs
      · exact .opened (.motion (.estimated l))
      · exact taken_nothing s
    · exact taken_nothing s
  case probeSettleEnd o =>
    refine taken_act hs ?_
    split
    next l _ =>
      split
      next due h =>
        split_ifs
        · exact .opened (.motion (.probePulse l due h))
        · exact taken_nothing s
      · exact taken_nothing s
      · exact taken_nothing s
      · exact taken_nothing s
    · exact taken_nothing s
  case probePulseEnd o n =>
    refine taken_act hs ?_
    split
    next l _ =>
      split
      next due h =>
        split
        · exact .closed (.probeEnds l _ due h) false
        · exact taken_nothing s
      · exact taken_nothing s
      · exact taken_nothing s
      · exact taken_nothing s
    · exact taken_nothing s
  case supplyReading mains battery => exact taken_act hs (.opened (.supplyRead mains battery))
  case mainsAbsentExpiry | mainsPresentExpiry | recoveryExpiry =>
    refine taken_act hs ?_
    split_ifs
    · exact .closed (.supply _) false
    · exact taken_nothing s
  case lowTimerExpiry =>
    refine taken_act hs ?_
    split_ifs
    · exact .closed .supplyLow false
    · exact taken_nothing s
  case switchSample c => exact taken_act hs (.opened (.switches c))
  case anemometerPulse =>
    refine taken_act hs ?_
    split_ifs
    · exact .opened (.pulse _)
    · exact taken_nothing s
  case anemometerCircuitTest n =>
    refine taken_act hs ?_
    split_ifs
    · exact .opened .circuit
    · exact taken_nothing s

end Sys2Proof.Machine
end

section
/-! SUPPORT. What most commands leave: phase, settings, line interface, peer records, local detection and zone records; and the
induction by which a law is kept by every step. -/

namespace Sys2Proof.Machine

/-- `t` has the phase, the settings in force, the line interface but for the slot, the peer records, the loops with local detection
and the zone records of `s`. -/
structure SameStation (s t : State) : Prop where
  phase : t.phase = s.phase
  cfg : t.cfg = s.cfg
  line : t.line.unslotted = s.line.unslotted
  peers : t.peers.records = s.peers.records
  loops : t.detection.loops = s.detection.loops
  callPoint : t.detection.callPoint = s.detection.callPoint
  localState : t.detection.localState = s.detection.localState
  loopReset : t.detection.loopReset = s.detection.loopReset
  zones : t.zones.records = s.zones.records

theorem SameStation.refl (s : State) : SameStation s s := ⟨rfl, rfl, rfl, rfl, rfl, rfl, rfl, rfl, rfl⟩

theorem SameStation.trans {s t u : State} (h : SameStation s t) (k : SameStation t u) : SameStation s u where
  phase := k.phase.trans h.phase
  cfg := k.cfg.trans h.cfg
  line := k.line.trans h.line
  peers := k.peers.trans h.peers
  loops := k.loops.trans h.loops
  callPoint := k.callPoint.trans h.callPoint
  localState := k.localState.trans h.localState
  loopReset := k.loopReset.trans h.loopReset
  zones := k.zones.trans h.zones

theorem Driven.sameStation {s t : State} (h : Driven s t) : SameStation s t where
  phase := h.phase
  cfg := congrArg SettingsStore.inForce h.store
  line := congrArg LineInterface.unslotted h.line
  peers := congrArg PeerTable.records h.peers
  loops := congrArg Detection.loops h.detection
  callPoint := congrArg Detection.callPoint h.detection
  localState := congrArg Detection.localState h.detection
  loopReset := congrArg Detection.loopReset h.detection
  zones := congrArg ZoneLogic.records h.zones

theorem Follows.sameStation {s t : State} (h : Follows s t) : SameStation s t where
  phase := h.phase
  cfg := congrArg SettingsStore.inForce h.store
  line := h.line
  peers := congrArg PeerTable.records h.peers
  loops := congrArg Detection.loops h.detection
  callPoint := congrArg Detection.callPoint h.detection
  localState := congrArg Detection.localState h.detection
  loopReset := congrArg Detection.loopReset h.detection
  zones := h.zoneRecords

theorem sameStation_refresh (s : State) : SameStation s s.refresh := (follows_refresh s).sameStation

theorem sameStation_of_refresh {s t : State} (h : SameStation s t.refresh) : SameStation s t :=
  ⟨h.phase, h.cfg, h.line, h.peers, h.loops, h.callPoint, h.localState, h.loopReset, h.zones⟩

theorem sameStation_composeDue (s b : State) (r : Bool) : SameStation s (s.composeDue b r) :=
  sameStation_of_refresh (follows_composeDue s b r).sameStation

theorem sameStation_close (s b : State) (r : Bool) : SameStation s (s.close b r) := by
  by_cases hs : s.phase = .running
  · exact sameStation_of_refresh (follows_close s b r hs).sameStation
  · rw [State.close, if_neg hs]
    exact SameStation.refl s

theorem sameStation_reply (s : State) (r : Reply) : SameStation s (s.reply r) :=
  ⟨rfl, rfl, rfl, rfl, rfl, rfl, rfl, rfl, rfl⟩

/-! ### Feedback records and periods -/

theorem sameStation_setFeedback (s : State) (l : Leaf) (x : FeedbackRecord) : SameStation s (s.setFeedback l x) :=
  ⟨rfl, rfl, rfl, rfl, rfl, rfl, rfl, rfl, rfl⟩

theorem sameStation_finishProbe (s : State) (l : Leaf) (p : Presence) : SameStation s (s.finishProbe l p) := by
  have hend : SameStation s (s.endPulse l p) := (driven_endPeriod s l).sameStation.trans (sameStation_setFeedback _ l _)
  unfold State.finishProbe
  dsimp only
  split
  · exact hend.trans (driven_handRest _ _).sameStation
  · exact hend

/-! ### The effects -/

section
variable {R : State → State → Prop} (trans : ∀ {s t u}, R s t → R t u → R s u) (driven : ∀ {s t}, Driven s t → R s t)
  (feedback : ∀ s l x, R s (s.setFeedback l x))
include trans driven feedback

theorem toTimed_related (s : State) (l : Leaf) : R s (s.toTimed l) := by
  unfold State.toTimed
  dsimp only
  split
  · exact trans (feedback s l _) (driven (driven_beginPeriod _ l _))
  · exact feedback s l _

theorem takeEdge_related (s : State) (l : Leaf) (line : FeedbackLine) : R s (s.takeEdge l line) := by
  unfold State.takeEdge
  split
  · exact driven (Driven.refl s)
  · exact toTimed_related (R := R) trans driven feedback s l
  · dsimp only
    split
    · exact trans (feedback s l _) (driven (driven_moved _ l))
    · exact feedback s l _

theorem takeCutOut_related (s : State) (l : Leaf) (r : Run) : R s (s.takeCutOut l r) := by
  unfold State.takeCutOut
  split
  · exact trans (feedback s l _) (driven ((driven_finishMember _ _ r l).trans (driven_syncGang _ l)))
  · exact trans (feedback s l _) (driven (driven_toRundown _ _ r _))

/-- A relation kept by the drive controller, by feedback records and by a report made due is kept by every motion. -/
theorem MotionEvent.related (due : ∀ s b r, R s (s.composeDue b r)) {s a : State} (h : MotionEvent s a) : R s a := by
  cases h with
  | entersRunning l r => exact driven (driven_enterRunning s _ r)
  | member l m => exact driven (driven_setMember s l m)
  | stops l r e => exact driven (driven_toRundown s _ r e)
  | switchInRundown l m => exact trans (feedback s l _) (driven (driven_setMember _ l m))
  | closedEnd l r m =>
    exact trans (feedback s l _) (driven (((driven_setMember _ l m).trans (driven_finishMember _ _ r l)).trans (driven_syncGang _ l)))
  | cutOut l r => exact takeCutOut_related (R := R) trans driven feedback s l r
  | edge l line => exact trans (takeEdge_related (R := R) trans driven feedback s l line) (due _ s false)
  | watchdog l => exact feedback s l _
  | feedbackLost l => exact trans (toTimed_related (R := R) trans driven feedback s l) (due _ s false)
  | estimated l => exact driven ((driven_formEstimate s l).trans (driven_moved _ l))
  | probePulse l => exact trans (feedback s l _) (driven (driven_beginPeriod _ l _))

end

theorem MotionEvent.sameStation {s a : State} (h : MotionEvent s a) : SameStation s a :=
  h.related (R := SameStation) SameStation.trans Driven.sameStation sameStation_setFeedback sameStation_composeDue

theorem sameStation_setDetection {s : State} {d : Detection} (hloops : d.loops = s.detection.loops)
    (hcall : d.callPoint = s.detection.callPoint) (hlocal : d.localState = s.detection.localState)
    (hreset : d.loopReset = s.detection.loopReset) : SameStation s (s.setDetection d) :=
  ⟨rfl, rfl, rfl, rfl, hloops, hcall, hlocal, hreset, rfl⟩

theorem sameStation_setButton (s : State) (b : ServiceButton) (r : ContactRecord) :
    SameStation s (s.setDetection (s.detection.setButton b r)) := by
  cases b <;> exact sameStation_setDetection rfl rfl rfl rfl

theorem sameStation_keyChanged (s : State) (old : KeyPosition) : SameStation s (s.keyChanged old) := by
  have hleave : SameStation s (if old = .service && s.key ≠ .service then s.leaveService else s) := by
    split
    · exact ⟨rfl, rfl, rfl, rfl, rfl, rfl, rfl, rfl, rfl⟩
    · exact SameStation.refl s
  unfold State.keyChanged
  dsimp only
  split
  · exact hleave.trans ((driven_stopProbes _).trans (driven_haltAll _)).sameStation
  · exact hleave

theorem sameStation_setServiceTargets (s : State) (f : Leaf → Option Nat) : SameStation s (s.setServiceTargets f) :=
  ⟨rfl, rfl, rfl, rfl, rfl, rfl, rfl, rfl, rfl⟩

theorem sameStation_takePress (s : State) (b : ServiceButton) : SameStation s (s.takePress b) := by
  unfold State.takePress
  split
  · exact (sameStation_setServiceTargets s _).trans (sameStation_setDetection rfl rfl rfl rfl)
  · exact (sameStation_setServiceTargets s _).trans (sameStation_setDetection rfl rfl rfl rfl)

theorem sameStation_deliverBrigade (s : State) (old new : BrigadeReading) : SameStation s (s.deliverBrigade old new).1 := by
  unfold State.deliverBrigade
  split
  · exact SameStation.refl s
  · split <;> exact ⟨rfl, rfl, rfl, rfl, rfl, rfl, rfl, rfl, rfl⟩

theorem SameStation.foldl {α : Type} {f : State → α → State} (hf : ∀ s a, SameStation s (f s a)) (l : List α) (s : State) :
    SameStation s (l.foldl f s) := by
  induction l generalizing s with
  | nil => exact SameStation.refl s
  | cons a l ih => exact (hf s a).trans (ih (f s a))

theorem sameStation_referenceUnit (s : State) (u : Leaf) : SameStation s (s.referenceUnit u) := by
  unfold State.referenceUnit
  exact ((driven_setUnit s u _).sameStation.trans (SameStation.foldl (fun t l => sameStation_setFeedback t l _) _ _)).trans
    ⟨rfl, rfl, rfl, rfl, rfl, rfl, rfl, rfl, rfl⟩

/-- An effect that is neither the line's nor a sample leaves the station's other blocks. -/
theorem OpenEvent.sameStation {s a : State} (h : OpenEvent s a) : LineEvent s a ∨ SampleEvent s a ∨ SameStation s a := by
  cases h with
  | line h => exact .inl h
  | sample h => exact .inr (.inl h)
  | motion h => exact .inr (.inr h.sameStation)
  | nothing => exact .inr (.inr (SameStation.refl s))
  | port | written | timer | heartbeat | pulse | circuit | supplyRead =>
    exact .inr (.inr ⟨rfl, rfl, rfl, rfl, rfl, rfl, rfl, rfl, rfl⟩)
  | settledTime =>
    have hformed : SameStation s s.formIsolated := ⟨rfl, rfl, rfl, rfl, rfl, rfl, rfl, rfl, rfl⟩
    exact .inr (.inr (hformed.trans (sameStation_composeDue _ s false)))
  | button b => exact .inr (.inr (sameStation_setButton s b _))
  | switches | resetKey | brigade | flashEnd => exact .inr (.inr (sameStation_setDetection rfl rfl rfl rfl))

/-- An effect that closes moves local detection, the zones or the peer table, or leaves all of them. -/
theorem ClosingEvent.sameStation {s a : State} (h : ClosingEvent s a) : StationEvent s a ∨ SameStation s a := by
  cases h with
  | station h => exact .inl h
  | key r =>
    have hset : SameStation s (s.setDetection { s.detection with key := .taken r }) := sameStation_setDetection rfl rfl rfl rfl
    exact .inr (hset.trans (sameStation_keyChanged _ _))
  | press b => exact .inr ((sameStation_setButton s b _).trans (sameStation_takePress _ b))
  | brigade r =>
    have hset : SameStation s (s.setDetection { s.detection with brigade := .taken r }) :=
      sameStation_setDetection rfl rfl rfl rfl
    exact .inr (hset.trans (sameStation_deliverBrigade _ _ r))
  | comfortStep => exact .inr (sameStation_setDetection rfl rfl rfl rfl)
  | weather | moveTarget | stopTargets | pauseOver | holdOver | supply =>
    exact .inr ⟨rfl, rfl, rfl, rfl, rfl, rfl, rfl, rfl, rfl⟩
  | runEnds l r due e => exact .inr (driven_endRun s _ r e).sameStation
  | probeEnds l p => exact .inr (sameStation_finishProbe s l p)
  | reference l => exact .inr (sameStation_referenceUnit s _)
  | supplyLow =>
    have hset : SameStation s (s.setSupply (s.supply.changeTo .low)) := ⟨rfl, rfl, rfl, rfl, rfl, rfl, rfl, rfl, rfl⟩
    exact .inr (hset.trans (driven_haltBelowFire _).sameStation)

/-- What a command comes to before the outputs are formed has the station of its own effect. -/
theorem Taken.exists_effect {s u : State} (h : Taken s u) :
    ∃ a, (LineEvent s a ∨ SampleEvent s a ∨ StationEvent s a ∨ SameStation s a) ∧ SameStation a u := by
  cases h with
  | opened h =>
    refine ⟨u, ?_, SameStation.refl u⟩
    obtain h | h | h := h.sameStation
    · exact .inl h
    · exact .inr (.inl h)
    · exact .inr (.inr (.inr h))
  | @closed a h request =>
    refine ⟨a, ?_, sameStation_close a s request⟩
    obtain h | h := h.sameStation
    · exact .inr (.inr (.inl h))
    · exact .inr (.inr (.inr h))
  | @replied a h request r =>
    refine ⟨a, ?_, (sameStation_close a s request).trans (sameStation_reply _ r)⟩
    obtain h | h := h.sameStation
    · exact .inr (.inr (.inl h))
    · exact .inr (.inr (.inr h))

/-! ### Starts -/

/-- What a start leaves to the drive controller and the arbiter has the blocks at their start values (R191). -/
theorem sameStation_started (s : State) (i : StartInputs) (kept : Settings → Leaf → Option KeptLeaf) :
    SameStation (s.blocksStarted i (s.store.atStart (startAddress i)) (kept (s.store.atStart (startAddress i)).inForce))
      (s.started i kept) := by
  have hkept (t : State) : SameStation t t.handKept := by
    refine SameStation.foldl (fun t u => ?_) _ t
    split
    · exact (driven_handRest t u).sameStation
    · exact SameStation.refl t
  have hreform (t : State) : SameStation t t.reform := by
    rw [(reformed_reform t).weather]
    exact ⟨rfl, rfl, rfl, rfl, rfl, rfl, rfl, rfl, rfl⟩
  exact ((hkept _).trans (hreform _)).trans (driven_drive _).sameStation

/-! ### A law kept by every step -/

/-- What a command comes to: a start, nothing before the first start, or a state taken. -/
theorem exec_cases {c : Instr} {s t : State} (h : exec c s = .next t) :
    (∃ i kept, (c = .powerOnStart i ∨ c = .restartStart i) ∧ t = (s.started i kept).refresh) ∨ t = s ∨
      (s.phase ≠ .off ∧ ∃ u, Taken s u ∧ t = u.refresh) := by
  by_cases hpower : ∃ i, c = .powerOnStart i
  · obtain ⟨i, rfl⟩ := hpower
    exact .inl ⟨i, _, .inl rfl, (Host.Outcome.next.inj h).symm⟩
  by_cases hs : s.phase = .off
  · right; left
    have hact (f : State → State) : s.act f = s := State.act_off hs f
    cases c
    case powerOnStart i => exact absurd ⟨i, rfl⟩ hpower
    all_goals exact ((Host.Outcome.next.inj h).symm.trans (hact _))
  by_cases hrestart : ∃ i, c = .restartStart i
  · obtain ⟨i, rfl⟩ := hrestart
    have ht : s.act (fun t => if t.waitOver then t.started i t.keptLeaf else t) = t := Host.Outcome.next.inj h
    rw [State.act_started hs] at ht
    split at ht
    · exact .inl ⟨i, _, .inr rfl, ht.symm⟩
    · exact .inr (.inr ⟨hs, s, taken_nothing s, ht.symm⟩)
  · obtain ⟨u, hu, he⟩ := taken_exec hs c (fun i hi => hpower ⟨i, hi⟩) (fun i hi => hrestart ⟨i, hi⟩)
    exact .inr (.inr ⟨hs, u, hu, Host.Outcome.next.inj (h.symm.trans he)⟩)

/-- A law of the station's blocks is kept by every step where every start sets it up, and the line's commands, the samples and
what moves local detection, zones and peers keep it. -/
theorem step_keeps {P : State → Prop} (same : ∀ s t, SameStation s t → P s → P t)
    (started : ∀ (s : State) i store kept, P (s.blocksStarted i store kept))
    (line : ∀ s a, s.phase ≠ .off → P s → LineEvent s a → P a)
    (sample : ∀ s a, s.phase ≠ .off → P s → SampleEvent s a → P a)
    (station : ∀ s a, s.phase ≠ .off → P s → StationEvent s a → P a)
    (s t : State) (hP : P s) (h : step s = .next t) : P t := by
  unfold step at h
  split at h
  next =>
    rw [← Host.Outcome.next.inj h]
    exact same s _ ⟨rfl, rfl, rfl, rfl, rfl, rfl, rfl, rfl, rfl⟩ hP
  next c rest _ =>
    have hQ : P { s with pending := rest } := same s _ ⟨rfl, rfl, rfl, rfl, rfl, rfl, rfl, rfl, rfl⟩ hP
    generalize ({ s with pending := rest } : State) = q at h hQ
    obtain ⟨i, kept, -, rfl⟩ | rfl | ⟨hq, u, hu, rfl⟩ := exec_cases h
    · exact same _ _ ((sameStation_started q i kept).trans (sameStation_refresh _)) (started q i _ _)
    · exact hQ
    · obtain ⟨a, ha, hau⟩ := hu.exists_effect
      refine same _ _ (hau.trans (sameStation_refresh u)) ?_
      obtain ha | ha | ha | ha := ha
      · exact line q a hq hQ ha
      · exact sample q a hq hQ ha
      · exact station q a hq hQ ha
      · exact same q a ha hQ

end Sys2Proof.Machine
end

section
/-! SUPPORT. The laws of the zone records and of local detection (R2, R4, R78), kept by every step; and the marks, which only
advance between two starts (R12). -/

namespace Sys2Proof.Machine

theorem ZonesLawful.of_same {s t : State} (h : SameStation s t) (k : ZonesLawful s) : ZonesLawful t := by
  have hformed : t.detection.formed = s.detection.formed := by
    unfold Detection.formed
    rw [h.loops, h.callPoint]
  constructor
  · rw [h.localState, hformed]; exact k.formedNow
  · rw [h.localState, h.zones, h.cfg]; exact k.alarmLatched
  · rw [h.zones]; exact k.source
  · rw [h.zones, h.cfg]; exact k.pendingSmoke
  · rw [h.loopReset, h.loops]; exact k.resetting
  · rw [h.loopReset, h.loops]; exact k.hidden
  · rw [h.loopReset, h.loops]; exact k.hiddenOnly

/-- The laws of the zone records alone: a zone has a latch source exactly while it is LATCHED, and no zone but the smoke zone is
PENDING (R2). -/
structure RecordsLawful (s : State) : Prop where
  source : ∀ z, (s.zones.records.get z).state = .latched ↔ (s.zones.records.get z).source ≠ .none
  pendingSmoke : ∀ z, (s.zones.records.get z).state = .pending → z = s.cfg.smokeZone

/-- The laws of the loops in a loop reset (R77, R78). -/
structure LoopsLawful (d : Detection) : Prop where
  resetting : d.loopReset ≠ .none → ∀ l, (d.loops.get l).state = .resetting ∨ (d.loops.get l).state = .disabled
  hidden : ∀ since, d.loopReset = .settle since → ∀ l, (d.loops.get l).hidden.isSome ∨ (d.loops.get l).state = .disabled
  hiddenOnly : ∀ l, (d.loops.get l).hidden.isSome → ∃ since, d.loopReset = .settle since

theorem zonesLawful_iff {s : State} : ZonesLawful s ↔
    s.detection.localState = s.detection.formed ∧
    (s.detection.localState = .alarm → (s.zones.records.get s.cfg.smokeZone).state = .latched) ∧
    RecordsLawful s ∧ LoopsLawful s.detection :=
  ⟨fun ⟨h1, h2, h3, h4, h5, h6, h7⟩ => ⟨h1, h2, ⟨h3, h4⟩, h5, h6, h7⟩,
    fun ⟨h1, h2, ⟨h3, h4⟩, h5, h6, h7⟩ => ⟨h1, h2, h3, h4, h5, h6, h7⟩⟩

/-! ### Local detection formed -/

theorem Detection.formed_setLocalState (d : Detection) (x : LocalDetection) :
    ({ d with localState := x } : Detection).formed = d.formed := rfl

/-- Local detection formed: the detection unit holds it. -/
theorem formLocal_detection (s : State) :
    s.formLocal.detection = { s.detection with localState := s.detection.formed } := by
  unfold State.formLocal State.enterAlarm State.endListenOnAlarm
  dsimp only
  split
  · split <;> rfl
  · rfl

theorem formLocal_cfg (s : State) : s.formLocal.cfg = s.cfg := by
  unfold State.formLocal State.enterAlarm State.endListenOnAlarm
  dsimp only
  split
  · split <;> rfl
  · rfl

theorem formLocal_phase (s : State) : s.formLocal.phase = s.phase := (samePeerRecords_formLocal s).phase

/-- An entry to ALARM latches the smoke zone as own (R4, R76). -/
theorem formLocal_zones (s : State) : s.formLocal.zones.records =
    if s.detection.formed = .alarm ∧ s.detection.localState ≠ .alarm
    then s.zones.records.set s.cfg.smokeZone (s.zones.records.get s.cfg.smokeZone).latchOwn else s.zones.records := by
  unfold State.formLocal State.enterAlarm State.endListenOnAlarm
  dsimp only
  by_cases h : s.detection.formed = .alarm ∧ s.detection.localState ≠ .alarm
  · rw [if_pos h, if_pos (by simpa using h)]
    split <;> rfl
  · rw [if_neg h, if_neg (by simpa using h)]
    rfl

theorem formLocal_get (s : State) (z : Zone) : s.formLocal.zones.records.get z =
    if (s.detection.formed = .alarm ∧ s.detection.localState ≠ .alarm) ∧ z = s.cfg.smokeZone
    then (s.zones.records.get z).latchOwn else s.zones.records.get z := by
  rw [formLocal_zones]
  by_cases h : s.detection.formed = .alarm ∧ s.detection.localState ≠ .alarm
  · rw [if_pos h, PerZone.get_set]
    by_cases hz : z = s.cfg.smokeZone
    · rw [if_pos hz, if_pos ⟨h, hz⟩, hz]
    · rw [if_neg hz, if_neg fun hand => hz hand.2]
  · rw [if_neg h, if_neg fun hand => h hand.1]

/-- The records stay lawful where local detection is formed. -/
theorem RecordsLawful.formLocal {s : State} (h : RecordsLawful s) : RecordsLawful s.formLocal := by
  constructor
  · intro z
    rw [formLocal_get]
    split
    · exact ⟨fun _ => by simp [ZoneRecord.latchOwn], fun _ => rfl⟩
    · exact h.source z
  · intro z
    rw [formLocal_get, formLocal_cfg]
    split
    next hz => exact fun _ => hz.2
    · exact h.pendingSmoke z

/-- Local detection formed sets up the laws from those of the records and the loops, where an ALARM that stood was latched. -/
theorem zonesLawful_formLocal {s : State} (hrecords : RecordsLawful s) (hloops : LoopsLawful s.detection)
    (halarm : s.detection.formed = .alarm → s.detection.localState = .alarm →
      (s.zones.records.get s.cfg.smokeZone).state = .latched) :
    ZonesLawful s.formLocal := by
  rw [zonesLawful_iff, formLocal_detection, formLocal_cfg]
  refine ⟨rfl, fun hformed => ?_, hrecords.formLocal, hloops.resetting, hloops.hidden, hloops.hiddenOnly⟩
  rw [formLocal_get]
  split
  next => rfl
  next hno => exact halarm hformed (by_contra fun hne => hno ⟨⟨hformed, hne⟩, rfl⟩)

/-! ### Samples -/

theorem Detection.formed_congr {d e : Detection} (hcall : e.callPoint.state = d.callPoint.state)
    (hstate : ∀ l, (e.loops.get l).state = (d.loops.get l).state)
    (hconfirm : ∀ l, (e.loops.get l).confirm = (d.loops.get l).confirm) : e.formed = d.formed := by
  have h1 : e.loops.d1.state = d.loops.d1.state := hstate .d1
  have h2 : e.loops.d2.state = d.loops.d2.state := hstate .d2
  have h3 : e.loops.d1.confirm = d.loops.d1.confirm := hconfirm .d1
  have h4 : e.loops.d2.confirm = d.loops.d2.confirm := hconfirm .d2
  simp only [Detection.formed, LoopRecord.inAlarm, LoopRecord.unableToConfirm, LoopRecord.confirmed, hcall, h1, h2, h3, h4]
  rfl

/-- A change of the detection unit that keeps the class and the confirm timer of each loop, and the call point's class, keeps the
laws where those of the loops stand. -/
theorem ZonesLawful.setDetection {s : State} (h : ZonesLawful s) {d : Detection}
    (hlocal : d.localState = s.detection.localState) (hcall : d.callPoint.state = s.detection.callPoint.state)
    (hstate : ∀ l, (d.loops.get l).state = (s.detection.loops.get l).state)
    (hconfirm : ∀ l, (d.loops.get l).confirm = (s.detection.loops.get l).confirm) (hloops : LoopsLawful d) :
    ZonesLawful (s.setDetection d) := by
  obtain ⟨hformed, halarm, hrecords, -⟩ := zonesLawful_iff.1 h
  refine zonesLawful_iff.2 ⟨?_, ?_, ⟨hrecords.source, hrecords.pendingSmoke⟩, hloops⟩
  · show d.localState = d.formed
    rw [hlocal, Detection.formed_congr hcall hstate hconfirm, hformed]
  · show d.localState = .alarm → _
    rw [hlocal]
    exact halarm

theorem sampleLoop_eq (s : State) (l : Loop) (current : Nat) :
    (s.sampleLoop l current).state = (s.detection.loops.get l).state ∧
      (s.sampleLoop l current).confirm = (s.detection.loops.get l).confirm ∧
      (s.sampleLoop l current).hidden = (s.detection.loops.get l).hidden := by
  unfold State.sampleLoop
  dsimp only
  split <;> exact ⟨rfl, rfl, rfl⟩

theorem LoopRecord.beginSettle_eq (r : LoopRecord) : r.beginSettle.state = r.state ∧ r.beginSettle.confirm = r.confirm ∧
    (r.beginSettle.hidden.isSome ∨ r.state = .disabled) := by
  unfold LoopRecord.beginSettle
  split
  next h => exact ⟨rfl, rfl, .inr h⟩
  next => exact ⟨rfl, rfl, .inl rfl⟩

theorem PerLoop.get_mapLoops (f : LoopRecord → LoopRecord) (v : PerLoop LoopRecord) (l : Loop) :
    (PerLoop.mapLoops f v).get l = f (v.get l) := by cases l <;> rfl

theorem SampleEvent.zonesLawful {s a : State} (h : SampleEvent s a) (hz : ZonesLawful s) : ZonesLawful a := by
  obtain ⟨-, -, -, hloops⟩ := zonesLawful_iff.1 hz
  cases h with
  | loops d1 d2 =>
    have hget (l : Loop) : ∃ n, (⟨s.sampleLoop .d1 d1, s.sampleLoop .d2 d2⟩ : PerLoop LoopRecord).get l = s.sampleLoop l n := by
      cases l
      · exact ⟨d1, rfl⟩
      · exact ⟨d2, rfl⟩
    have heq (l : Loop) : ((⟨s.sampleLoop .d1 d1, s.sampleLoop .d2 d2⟩ : PerLoop LoopRecord).get l).state =
        (s.detection.loops.get l).state ∧
        ((⟨s.sampleLoop .d1 d1, s.sampleLoop .d2 d2⟩ : PerLoop LoopRecord).get l).confirm =
        (s.detection.loops.get l).confirm ∧
        ((⟨s.sampleLoop .d1 d1, s.sampleLoop .d2 d2⟩ : PerLoop LoopRecord).get l).hidden =
        (s.detection.loops.get l).hidden := by
      obtain ⟨n, hn⟩ := hget l
      rw [hn]
      exact sampleLoop_eq s l n
    refine hz.setDetection rfl rfl (fun l => (heq l).1) (fun l => (heq l).2.1) ⟨?_, ?_, ?_⟩
    · intro hreset l
      rw [(heq l).1]
      exact hloops.resetting hreset l
    · intro since hsettle l
      rw [(heq l).1, (heq l).2.2]
      exact hloops.hidden since hsettle l
    · intro l
      rw [(heq l).2.2]
      exact hloops.hiddenOnly l
  | callPoint n =>
    exact hz.setDetection rfl rfl (fun _ => rfl) (fun _ => rfl) ⟨hloops.resetting, hloops.hidden, hloops.hiddenOnly⟩
  | powerRestored since hreset =>
    have hne : s.detection.loopReset ≠ .none := by rw [hreset]; exact nofun
    refine hz.setDetection rfl rfl (fun l => ?_) (fun l => ?_) ⟨fun _ l => ?_, fun _ _ l => ?_, fun _ _ => ⟨_, rfl⟩⟩
    all_goals rw [PerLoop.get_mapLoops]
    · exact (LoopRecord.beginSettle_eq _).1
    · exact (LoopRecord.beginSettle_eq _).2.1
    · rw [(LoopRecord.beginSettle_eq _).1]
      exact hloops.resetting hne l
    · rw [(LoopRecord.beginSettle_eq _).1]
      exact (LoopRecord.beginSettle_eq _).2.2

/-! ### A debounced class, a confirm timer, the settle end -/

/-- A change of the loops or of the call point, with local detection formed after it. -/
theorem ZonesLawful.setDetection_formLocal {s : State} (h : ZonesLawful s) {d : Detection}
    (hlocal : d.localState = s.detection.localState) (hloops : LoopsLawful d) : ZonesLawful (s.setDetection d).formLocal := by
  obtain ⟨-, halarm, hrecords, -⟩ := zonesLawful_iff.1 h
  refine zonesLawful_formLocal ⟨hrecords.source, hrecords.pendingSmoke⟩ hloops ?_
  show _ → d.localState = .alarm → _
  rw [hlocal]
  exact fun _ => halarm

theorem loopPowered_of_dueCandidate {s : State} {l : Loop} {b : Band} (h : s.dueCandidate (.loop l) = some b) :
    s.loopPowered l = true := by
  by_contra hno
  rw [State.dueCandidate, if_neg hno] at h
  cases h

theorem loopPowered_iff {s : State} {l : Loop} : s.loopPowered l = true ↔
    (s.detection.loops.get l).state ≠ .disabled ∧ s.detection.loopReset.powered = true := by
  simp [State.loopPowered]

/-- A debounced class goes to the hidden class in SETTLE, and to the loop's state where no loop reset runs (R71, R78). -/
theorem LoopsLawful.debounced {d : Detection} (h : LoopsLawful d) {l : Loop} (b : Band) (now : Nat)
    (hstate : (d.loops.get l).state ≠ .disabled) (hpower : d.loopReset.powered = true) :
    LoopsLawful { d with loops := d.loops.set l ((d.loops.get l).debounced b now) } := by
  cases hreset : d.loopReset with
  | powerOff => rw [hreset] at hpower; cases hpower
  | none =>
    have hhidden (k : Loop) : (d.loops.get k).hidden = none := by
      by_contra hne
      obtain ⟨since, hsettle⟩ := h.hiddenOnly k (Option.isSome_iff_ne_none.2 hne)
      rw [hreset] at hsettle
      cases hsettle
    have hkeeps (k : Loop) : ((d.loops.set l ((d.loops.get l).debounced b now)).get k).hidden = none := by
      rw [PerLoop.get_set]
      split
      · simp [LoopRecord.debounced, hhidden, LoopRecord.take]
      · exact hhidden k
    refine ⟨fun hne => absurd rfl hne, nofun, fun k hk => ?_⟩
    · rw [hkeeps k] at hk
      cases hk
  | settle since =>
    obtain ⟨band, hband⟩ : ∃ band, (d.loops.get l).hidden = some band :=
      Option.isSome_iff_exists.1 ((h.hidden since hreset l).resolve_right hstate)
    have hdebounced : (d.loops.get l).debounced b now = { d.loops.get l with hidden := some b, candidate := none } := by
      simp [LoopRecord.debounced, hband]
    rw [hdebounced]
    have hne : d.loopReset ≠ .none := by rw [hreset]; exact nofun
    refine ⟨fun _ k => ?_, fun _ _ k => ?_, fun _ _ => ⟨since, rfl⟩⟩
    · rw [PerLoop.get_set]
      split
      · exact h.resetting hne l
      · exact h.resetting hne k
    · rw [PerLoop.get_set]
      split
      · exact .inl rfl
      · exact h.hidden since hreset k

theorem LoopsLawful.setConfirm {d : Detection} (h : LoopsLawful d) (l : Loop) (c : ConfirmTimer) :
    LoopsLawful { d with loops := d.loops.set l { d.loops.get l with confirm := c } } := by
  have hget (k : Loop) : ((d.loops.set l { d.loops.get l with confirm := c }).get k).state = (d.loops.get k).state ∧
      ((d.loops.set l { d.loops.get l with confirm := c }).get k).hidden = (d.loops.get k).hidden := by
    rw [PerLoop.get_set]
    split
    next e => rw [e]; exact ⟨rfl, rfl⟩
    next => exact ⟨rfl, rfl⟩
  refine ⟨fun hne k => ?_, fun since hsettle k => ?_, fun k => ?_⟩
  · rw [(hget k).1]; exact h.resetting hne k
  · rw [(hget k).1, (hget k).2]; exact h.hidden since hsettle k
  · rw [(hget k).2]; exact h.hiddenOnly k

theorem LoopRecord.endSettle_hidden (r : LoopRecord) (now : Nat) : (r.endSettle now).hidden = none := by
  unfold LoopRecord.endSettle
  split
  · rfl
  next h => exact h

/-- The verdict of a loop reset's end takes the smoke zone from PENDING (R10). -/
theorem ZonesLawful.deliverVerdict {s : State} (h : ZonesLawful s) : ZonesLawful s.deliverVerdict := by
  obtain ⟨hformed, halarm, hrecords, hloops⟩ := zonesLawful_iff.1 h
  have hget (z : Zone) : s.deliverVerdict.zones.records.get z = if z = s.cfg.smokeZone
      then (s.zones.records.get z).settleEnd (s.detection.localState = .alarm) else s.zones.records.get z := by
    unfold State.deliverVerdict
    dsimp only
    rw [State.setZones_records, PerZone.get_set]
    split
    next e => rw [e]
    next => rfl
  refine zonesLawful_iff.2 ⟨hformed, fun hin => ?_, ⟨fun z => ?_, fun z => ?_⟩, hloops⟩
  · show (s.deliverVerdict.zones.records.get s.cfg.smokeZone).state = .latched
    rw [hget, if_pos rfl, ZoneRecord.settleEnd, halarm hin]
    exact halarm hin
  · rw [hget]
    split
    · cases hstate : (s.zones.records.get z).state with
      | pending =>
        by_cases hin : s.detection.localState = .alarm <;> simp [ZoneRecord.settleEnd, hstate, hin]
      | latched => simpa [ZoneRecord.settleEnd, hstate] using (hrecords.source z).1 hstate
      | clear =>
        have hsource := hrecords.source z
        simpa [ZoneRecord.settleEnd, hstate] using hsource
    · exact hrecords.source z
  · intro hpending
    rw [hget] at hpending
    split at hpending
    next hz => exact hz
    next => exact hrecords.pendingSmoke z hpending

theorem ZonesLawful.settleEnd {s : State} (h : ZonesLawful s) : ZonesLawful s.settleEnd := by
  refine ZonesLawful.deliverVerdict (h.setDetection_formLocal rfl ⟨fun hne => absurd rfl hne, nofun, fun l hl => ?_⟩)
  rw [PerLoop.get_mapLoops, LoopRecord.endSettle_hidden] at hl
  cases hl

/-! ### Zone records adopted, latched and reset -/

theorem ZoneRecord.standDownSmoke_mark (z : ZoneRecord) (m : Byte) (b : Bool) : (z.standDownSmoke m b).mark = m := by
  unfold ZoneRecord.standDownSmoke
  split
  · split <;> rfl
  · rfl
  · rfl

theorem adoptZone_mark (s : State) (z : Zone) (m : Byte) : (s.adoptZone z m).mark = m := by
  unfold State.adoptZone
  split
  · exact ZoneRecord.standDownSmoke_mark _ _ _
  · rfl

/-- A zone whose mark is adopted keeps the laws of the records (R2, R7). -/
theorem RecordsLawful.adoptZone {s : State} (h : RecordsLawful s) (z : Zone) (m : Byte) :
    ((s.adoptZone z m).state = .latched ↔ (s.adoptZone z m).source ≠ .none) ∧
      ((s.adoptZone z m).state = .pending → z = s.cfg.smokeZone) := by
  have hsource := h.source z
  unfold State.adoptZone
  split
  next hz =>
    refine ⟨?_, fun _ => hz⟩
    cases hstate : (s.zones.records.get z).state with
    | latched =>
      cases hcall : s.callPointOperated
      · simp [ZoneRecord.standDownSmoke, hstate]
      · simpa [ZoneRecord.standDownSmoke, hstate] using hsource.1 hstate
    | clear | pending => simpa [ZoneRecord.standDownSmoke, hstate] using hsource
  next => simp [ZoneRecord.standDown]

/-- The zone records after some marks are adopted. -/
theorem RecordsLawful.setAdopted {s : State} (h : RecordsLawful s) (p : Zone → Bool) (m : Zone → Byte) :
    RecordsLawful (s.setZones (PerZone.ofFn fun z => if p z then s.adoptZone z (m z) else s.zones.records.get z)) := by
  refine ⟨fun z => ?_, fun z => ?_⟩
  all_goals rw [State.setZones_records, PerZone.get_ofFn]
  · split
    · exact (h.adoptZone z (m z)).1
    · exact h.source z
  · split
    · exact (h.adoptZone z (m z)).2
    · exact h.pendingSmoke z

/-- The loops at the start of a loop reset. -/
theorem LoopsLawful.beginReset {d : Detection} (h : LoopsLawful d) (hnone : d.loopReset = .none) (since : Nat) :
    LoopsLawful { d with loopReset := .powerOff since, loops := PerLoop.mapLoops LoopRecord.beginReset d.loops } := by
  have hhidden (l : Loop) : (d.loops.get l).hidden = none := by
    by_contra hne
    obtain ⟨since, hsettle⟩ := h.hiddenOnly l (Option.isSome_iff_ne_none.2 hne)
    rw [hnone] at hsettle
    cases hsettle
  have hbegun (l : Loop) : ((d.loops.get l).beginReset.state = .resetting ∨ (d.loops.get l).beginReset.state = .disabled) ∧
      (d.loops.get l).beginReset.hidden = none := by
    unfold LoopRecord.beginReset
    split
    next hdisabled => exact ⟨.inr hdisabled, hhidden l⟩
    next => exact ⟨.inl rfl, rfl⟩
  refine ⟨fun _ l => ?_, nofun, fun l hl => ?_⟩
  · rw [PerLoop.get_mapLoops]
    exact (hbegun l).1
  · rw [PerLoop.get_mapLoops, (hbegun l).2] at hl
    cases hl

/-- In a loop reset local detection is in ALARM by the call point alone (R74, R77). -/
theorem LoopsLawful.operated_of_formed {d : Detection} (h : LoopsLawful d) (hne : d.loopReset ≠ .none)
    (halarm : d.formed = .alarm) : d.callPoint.state = .alarm := by
  have hquiet (l : Loop) : (d.loops.get l).inAlarm = false := by
    obtain hstate | hstate := h.resetting hne l <;> simp [LoopRecord.inAlarm, hstate]
  have h1 : d.loops.d1.inAlarm = false := hquiet .d1
  have h2 : d.loops.d2.inAlarm = false := hquiet .d2
  by_contra hcall
  simp [Detection.formed, LoopRecord.confirmed, h1, h2, hcall] at halarm

/-- A loop reset requested where an operated call point has the smoke zone LATCHED sets up the laws. -/
theorem zonesLawful_requestLoopReset {s : State} (hrecords : RecordsLawful s) (hloops : LoopsLawful s.detection)
    (hformed : s.detection.localState = s.detection.formed)
    (hoperated : s.detection.callPoint.state = .alarm → (s.zones.records.get s.cfg.smokeZone).state = .latched) :
    ZonesLawful s.requestLoopReset := by
  have hstands (hne : s.detection.loopReset ≠ .none) : ZonesLawful s :=
    zonesLawful_iff.2 ⟨hformed, fun hin => hoperated (hloops.operated_of_formed hne (hformed.symm.trans hin)), hrecords, hloops⟩
  unfold State.requestLoopReset
  split
  next hnone =>
    refine zonesLawful_formLocal ⟨hrecords.source, hrecords.pendingSmoke⟩ (hloops.beginReset hnone s.now) fun hin _ => ?_
    rw [State.setDetection_detection, Detection.formed_mapLoops_beginReset] at hin
    exact hoperated (by_contra fun hcall => by rw [if_neg hcall] at hin; cases hin)
  next h => exact hstands (by rw [h]; exact nofun)
  next h => exact hstands (by rw [h]; exact nofun)

/-- Marks adopted, with a loop reset requested where the smoke zone's is among them (R7, R11). -/
theorem ZonesLawful.setAdopted {s : State} (h : ZonesLawful s) (p : Zone → Bool) (m : Zone → Byte) :
    ZonesLawful (if p s.cfg.smokeZone
      then (s.setZones (PerZone.ofFn fun z => if p z then s.adoptZone z (m z) else s.zones.records.get z)).requestLoopReset
      else s.setZones (PerZone.ofFn fun z => if p z then s.adoptZone z (m z) else s.zones.records.get z)) := by
  obtain ⟨hformed, halarm, hrecords, hloops⟩ := zonesLawful_iff.1 h
  have hadopted := hrecords.setAdopted p m
  split
  next hp =>
    refine zonesLawful_requestLoopReset hadopted hloops hformed fun hcall => ?_
    have hlatched := halarm (hformed.trans (Detection.formed_of_operated hcall))
    have hoperated : s.callPointOperated = true := decide_eq_true hcall
    show (PerZone.get (α := ZoneRecord) (PerZone.ofFn _) s.cfg.smokeZone).state = _
    rw [PerZone.get_ofFn, if_pos hp, State.adoptZone, if_pos rfl, ZoneRecord.standDownSmoke, hlatched, hoperated]
    rfl
  next hp =>
    refine zonesLawful_iff.2 ⟨hformed, fun hin => ?_, hadopted, hloops⟩
    show (PerZone.get (α := ZoneRecord) (PerZone.ofFn _) s.cfg.smokeZone).state = _
    rw [PerZone.get_ofFn, if_neg hp]
    exact halarm hin

/-- The laws of the zones rest on the detection unit, the zone records and the settings alone. -/
theorem ZonesLawful.congr {s t : State} (h : ZonesLawful s) (hcfg : t.cfg = s.cfg) (hdetection : t.detection = s.detection)
    (hzones : t.zones.records = s.zones.records) : ZonesLawful t := by
  constructor
  · rw [hdetection]; exact h.formedNow
  · rw [hdetection, hzones, hcfg]; exact h.alarmLatched
  · rw [hzones]; exact h.source
  · rw [hzones, hcfg]; exact h.pendingSmoke
  · rw [hdetection]; exact h.resetting
  · rw [hdetection]; exact h.hidden
  · rw [hdetection]; exact h.hiddenOnly

theorem ZoneRecord.latchPeer_state (z : ZoneRecord) (a : Nat) : (z.latchPeer a).state = .latched := by
  unfold ZoneRecord.latchPeer
  split
  next h => exact h
  next => rfl

theorem ZoneRecord.latchPeer_source {z : ZoneRecord} (a : Nat) (h : z.state = .latched → z.source ≠ .none) :
    (z.latchPeer a).source ≠ .none := by
  unfold ZoneRecord.latchPeer
  split
  next hl => exact h hl
  next => exact nofun

theorem ZoneRecord.latchPeer_mark (z : ZoneRecord) (a : Nat) : (z.latchPeer a).mark = z.mark := by
  unfold ZoneRecord.latchPeer
  split <;> rfl

/-- Zones latched from a peer keep the laws (R8, R9). -/
theorem ZonesLawful.latchPeers {s : State} (h : ZonesLawful s) (a : Nat) (v : PerZone ZoneRecord)
    (hv : ∀ z, v.get z = s.zones.records.get z ∨ v.get z = (s.zones.records.get z).latchPeer a) :
    ZonesLawful (s.setZones v) := by
  obtain ⟨hformed, halarm, hrecords, hloops⟩ := zonesLawful_iff.1 h
  refine zonesLawful_iff.2 ⟨hformed, fun hin => ?_, ⟨fun z => ?_, fun z hpending => ?_⟩, hloops⟩
  · show (v.get s.cfg.smokeZone).state = .latched
    obtain hz | hz := hv s.cfg.smokeZone <;> rw [hz]
    · exact halarm hin
    · exact ZoneRecord.latchPeer_state _ a
  · show (v.get z).state = .latched ↔ (v.get z).source ≠ .none
    obtain hz | hz := hv z <;> rw [hz]
    · exact hrecords.source z
    · exact ⟨fun _ => ZoneRecord.latchPeer_source a (hrecords.source z).1, fun _ => ZoneRecord.latchPeer_state _ a⟩
  · replace hpending : (v.get z).state = .pending := hpending
    obtain hz | hz := hv z <;> rw [hz] at hpending
    · exact hrecords.pendingSmoke z hpending
    · rw [ZoneRecord.latchPeer_state] at hpending
      cases hpending

theorem originStep_eq (s : State) (a : Nat) (origin : Bool) (n : Nat) : ∃ v, s.originStep a origin n = s.setZones v ∧
    ∀ z, v.get z = s.zones.records.get z ∨ v.get z = (s.zones.records.get z).latchPeer a := by
  have hsame : ∃ v, s = s.setZones v ∧ ∀ z, v.get z = s.zones.records.get z ∨ v.get z = (s.zones.records.get z).latchPeer a :=
    ⟨s.zones.records, rfl, fun _ => .inl rfl⟩
  unfold State.originStep
  split
  next y _ =>
    split
    · refine ⟨_, rfl, fun z => ?_⟩
      rw [PerZone.get_set]
      split
      next hz => exact .inr (by rw [hz])
      next => exact .inl rfl
    · exact hsame
  · exact hsame

theorem latchSetStep_eq (s : State) (a : Nat) (latchSet : Byte) (marks : PerZone Byte) :
    ∃ v, s.latchSetStep a latchSet marks = s.setZones v ∧
      ∀ z, v.get z = s.zones.records.get z ∨ v.get z = (s.zones.records.get z).latchPeer a := by
  refine ⟨_, rfl, fun z => ?_⟩
  rw [PerZone.get_ofFn]
  split
  · exact .inr rfl
  · exact .inl rfl

theorem ZonesLawful.zoneSteps {s : State} (h : ZonesLawful s) (a : Nat) (r : Report) : ZonesLawful (s.zoneSteps a r) := by
  have hadopted : ZonesLawful (s.adoptionStep r.marks) := h.setAdopted (s.adopts r.marks) r.marks.get
  unfold State.zoneSteps
  obtain ⟨v, hv, hlatch⟩ := originStep_eq (s.adoptionStep r.marks) a r.origin r.smokeZone
  have horigin : ZonesLawful ((s.adoptionStep r.marks).originStep a r.origin r.smokeZone) := by
    rw [hv]
    exact hadopted.latchPeers a v hlatch
  obtain ⟨w, hw, hlatched⟩ := latchSetStep_eq ((s.adoptionStep r.marks).originStep a r.origin r.smokeZone) a r.latchSet r.marks
  rw [hw]
  exact horigin.latchPeers a w hlatched

theorem StationEvent.zonesLawful {s a : State} (h : StationEvent s a) (hz : ZonesLawful s) : ZonesLawful a := by
  obtain ⟨-, -, -, hloops⟩ := zonesLawful_iff.1 hz
  cases h with
  | band x b hdue =>
    cases x with
    | loop l =>
      obtain ⟨hstate, hpower⟩ := loopPowered_iff.1 (loopPowered_of_dueCandidate hdue)
      exact hz.setDetection_formLocal rfl (hloops.debounced b s.now hstate hpower)
    | callPoint => exact hz.setDetection_formLocal rfl ⟨hloops.resetting, hloops.hidden, hloops.hiddenOnly⟩
  | confirm l => exact hz.setDetection_formLocal rfl (hloops.setConfirm l .expired)
  | settleEnd => exact hz.settleEnd
  | zoneReset =>
    have hpressed : ZonesLawful (s.setDetection { s.detection with zoneResetKey := .pressed }) :=
      hz.of_same (sameStation_setDetection rfl rfl rfl rfl)
    exact hpressed.setAdopted (fun z => (s.zones.records.get z).state = .latched) _
  | report r p st =>
    have hput : ZonesLawful { s.goodCounted with peers := s.goodCounted.peers.put r.source st } := hz.congr rfl rfl rfl
    exact (hput.zoneSteps r.source r).congr rfl rfl rfl
  | silence a p c => exact hz.congr rfl rfl rfl

/-! ### The line's commands -/

/-- What the line's commands leave: the settings, the detection unit, the zone logic, the weather unit, the peer records and the own
address. -/
structure SameZones (s t : State) : Prop where
  cfg : t.cfg = s.cfg
  detection : t.detection = s.detection
  zones : t.zones = s.zones
  weather : t.weather = s.weather
  peers : t.peers.records = s.peers.records
  ownAddress : t.line.ownAddress = s.line.ownAddress

theorem SameZones.refl (s : State) : SameZones s s := ⟨rfl, rfl, rfl, rfl, rfl, rfl⟩

theorem SameZones.trans {s t u : State} (h : SameZones s t) (k : SameZones t u) : SameZones s u :=
  ⟨k.cfg.trans h.cfg, k.detection.trans h.detection, k.zones.trans h.zones, k.weather.trans h.weather, k.peers.trans h.peers,
    k.ownAddress.trans h.ownAddress⟩

theorem Driven.sameZones {s t : State} (h : Driven s t) : SameZones s t where
  cfg := congrArg SettingsStore.inForce h.store
  detection := h.detection
  zones := h.zones
  weather := h.weather
  peers := congrArg PeerTable.records h.peers
  ownAddress := congrArg LineInterface.ownAddress h.line

theorem sameZones_composeDue (s b : State) (r : Bool) : SameZones s (s.composeDue b r) := by
  rw [composeDue_eq]
  exact ⟨rfl, rfl, rfl, rfl, rfl, rfl⟩

theorem sameZones_onLine {s : State} {f : LineInterface → LineInterface} (h : (f s.line).ownAddress = s.line.ownAddress) :
    SameZones s (s.onLine f) := ⟨rfl, rfl, rfl, rfl, rfl, h⟩

theorem sameZones_drawBackoff (s : State) : SameZones s s.drawBackoff := by
  unfold State.drawBackoff
  split
  · split
    · exact ⟨rfl, rfl, rfl, rfl, rfl, rfl⟩
    · exact SameZones.refl s
  · exact SameZones.refl s

theorem LineInterface.bytesArrive_ownAddress (x : LineInterface) (now : Nat) : (x.bytesArrive now).ownAddress = x.ownAddress := by
  unfold LineInterface.bytesArrive
  split <;> rfl

theorem LineInterface.monitorGood_ownAddress (x : LineInterface) : x.monitorGood.ownAddress = x.ownAddress := by
  unfold LineInterface.monitorGood
  split <;> rfl

theorem LineInterface.takeByte_ownAddress (x : LineInterface) (rx : Option RxByte) : (x.takeByte rx).ownAddress = x.ownAddress := by
  unfold LineInterface.takeByte
  split <;> rfl

theorem LineInterface.collide_ownAddress (x : LineInterface) (r : Series) : (x.collide r).ownAddress = x.ownAddress := by
  unfold LineInterface.collide
  dsimp only
  split <;> rfl

theorem LineInterface.byteSent_ownAddress (x : LineInterface) (r : Series) (n : Nat) :
    (x.byteSent r n).ownAddress = x.ownAddress := by
  unfold LineInterface.byteSent
  split <;> rfl

theorem sameZones_goodCounted (s : State) : SameZones s s.goodCounted :=
  (sameZones_onLine (s.line.bytesArrive_ownAddress s.now)).trans
    (sameZones_onLine (LineInterface.monitorGood_ownAddress _))

theorem sameZones_provingBad (s : State) : SameZones s s.provingBad.1 := by
  unfold State.provingBad State.enterRunningJoin
  split
  · split_ifs <;> exact ⟨rfl, rfl, rfl, rfl, rfl, rfl⟩
  · exact SameZones.refl s

theorem sameZones_takeBadFrame (s : State) : SameZones s s.takeBadFrame.1 :=
  (sameZones_onLine rfl).trans (sameZones_provingBad _)

theorem sameZones_addressConflict (s : State) : SameZones s s.addressConflict := by
  unfold State.addressConflict
  split
  · exact SameZones.refl s
  · exact ⟨rfl, rfl, rfl, rfl, rfl, rfl⟩
  · exact ⟨rfl, rfl, rfl, rfl, rfl, rfl⟩

theorem sameZones_beginReport (s : State) (urgent : Bool) : SameZones s (s.beginReport urgent) := by
  unfold State.beginReport
  dsimp only
  refine SameZones.trans ?_ (sameZones_drawBackoff _)
  exact ⟨rfl, rfl, rfl, rfl, rfl, rfl⟩

theorem sameZones_beginRestartWait (s : State) : SameZones s s.beginRestartWait :=
  ((driven_stopProbes s).trans (driven_haltAll _)).sameZones.trans ⟨rfl, rfl, rfl, rfl, rfl, rfl⟩

theorem LineEvent.sameZones {s a : State} (h : LineEvent s a) : SameZones s a := by
  cases h with
  | countersCleared => exact ⟨rfl, rfl, rfl, rfl, rfl, rfl⟩
  | restartWait => exact sameZones_beginRestartWait s
  | lineIdle =>
    have hidle : SameZones s (s.onLine LineInterface.idle) := sameZones_onLine rfl
    exact (hidle.trans (sameZones_drawBackoff _)).trans (sameZones_composeDue _ s false)
  | lineIdleEarly =>
    have hidle : SameZones s (s.onLine LineInterface.idle) := sameZones_onLine rfl
    exact ((hidle.trans (sameZones_takeBadFrame _)).trans (sameZones_drawBackoff _)).trans (sameZones_composeDue _ s _)
  | lineBusy rx => exact sameZones_onLine (LineInterface.takeByte_ownAddress _ rx)
  | sends => exact ⟨rfl, rfl, rfl, rfl, rfl, rfl⟩
  | collides r => exact ⟨rfl, rfl, rfl, rfl, rfl, LineInterface.collide_ownAddress _ r⟩
  | readsBack r n => exact ⟨rfl, rfl, rfl, rfl, rfl, LineInterface.byteSent_ownAddress _ r n⟩
  | goodFrameInWait => exact sameZones_goodCounted s
  | goodFrameUnheard => exact (sameZones_goodCounted s).trans (sameZones_composeDue _ s false)
  | ownAddress =>
    exact ((sameZones_goodCounted s).trans (sameZones_addressConflict _)).trans (sameZones_composeDue _ s false)
  | badFrame =>
    have hjudged : SameZones s ((s.onLine fun x => x.bytesArrive s.now).onLine LineInterface.judged) :=
      (sameZones_onLine (s.line.bytesArrive_ownAddress s.now)).trans (sameZones_onLine rfl)
    exact (hjudged.trans (sameZones_takeBadFrame _)).trans (sameZones_composeDue _ s _)
  | proved =>
    have hjoin : SameZones s s.enterRunningJoin := ⟨rfl, rfl, rfl, rfl, rfl, rfl⟩
    exact hjoin.trans (sameZones_composeDue _ s true)
  | firstAttempt urgent => exact sameZones_beginReport s urgent

theorem SameZones.zonesLawful {s t : State} (h : SameZones s t) (k : ZonesLawful s) : ZonesLawful t :=
  k.congr h.cfg h.detection (congrArg ZoneLogic.records h.zones)

/-! ### Starts -/

/-- A station at its start has every zone CLEAR and local detection QUIET, each loop NORMAL or DISABLED (R191). -/
theorem zonesLawful_blocksStarted (s : State) (i : StartInputs) (store : SettingsStore) (kept : Leaf → Option KeptLeaf) :
    ZonesLawful (s.blocksStarted i store kept) := by
  have hrecord (z : Zone) : (s.blocksStarted i store kept).zones.records.get z = .atStart := PerZone.get_ofFn _ z
  have hloop (l : Loop) : ((s.blocksStarted i store kept).detection.loops.get l).hidden = none := by cases l <;> rfl
  refine ⟨?_, nofun, fun z => ?_, fun z => ?_, fun hne => absurd rfl hne, nofun, fun l => ?_⟩
  · show LocalDetection.quiet = Detection.formed _
    cases h1 : store.inForce.loopDisable.d1 <;> cases h2 : store.inForce.loopDisable.d2 <;>
      simp [State.blocksStarted, Detection.started, Detection.formed, Detection.atStart, LoopRecord.atStart, LoopRecord.inAlarm,
        LoopRecord.confirmed, h1, h2]
  · rw [hrecord]
    exact ⟨nofun, fun hne => absurd rfl hne⟩
  · rw [hrecord]
    exact nofun
  · rw [hloop]
    exact nofun

/-- Settles O8, by the induction over the kinds of effects: samples, the line's commands, what moves local detection or the
zones, and starts. -/
theorem everyStepKeepsZoneLaws : Obligations.EveryStepKeepsZoneLaws :=
  fun s t hs hstep => step_keeps (P := ZonesLawful) (fun _ _ h k => k.of_same h) zonesLawful_blocksStarted
    (fun _ _ _ k h => h.sameZones.zonesLawful k) (fun _ _ _ k h => h.zonesLawful k) (fun _ _ _ k h => h.zonesLawful k)
    s t hs hstep

/-! ### Marks -/

/-- Every mark is as it was or has advanced to a serially greater value (R12). -/
def MarksAdvance (s t : State) : Prop := ∀ z, (t.zones.records.get z).mark = (s.zones.records.get z).mark ∨
  serialGreater (t.zones.records.get z).mark (s.zones.records.get z).mark = true

theorem marksAdvance_of_same {s t : State} (h : ∀ z, (t.zones.records.get z).mark = (s.zones.records.get z).mark) :
    MarksAdvance s t := fun z => .inl (h z)

theorem MarksAdvance.trans_same {s t u : State} (h : MarksAdvance s t)
    (k : ∀ z, (u.zones.records.get z).mark = (t.zones.records.get z).mark) : MarksAdvance s u := fun z => by
  rw [k z]
  exact h z

/-- Settles O4: the candidate one beyond the running comparison is taken where it is greater, and one beyond the own mark is
greater than it. -/
theorem newMarkFollowsRunningComparison : Obligations.NewMarkFollowsRunningComparison := by
  intro own marks run
  have hnext : serialGreater (own + 1#8) own = true := by
    rw [serialGreater, show own + 1#8 - own = 1#8 by bv_omega]
    rfl
  refine ⟨rfl, ?_⟩
  unfold newMark
  split
  next h => exact h
  next => exact hnext

theorem formLocal_mark (s : State) (z : Zone) : (s.formLocal.zones.records.get z).mark = (s.zones.records.get z).mark := by
  rw [formLocal_get]
  split <;> rfl

theorem requestLoopReset_mark (s : State) (z : Zone) :
    (s.requestLoopReset.zones.records.get z).mark = (s.zones.records.get z).mark := by
  unfold State.requestLoopReset
  split
  · exact formLocal_mark _ z
  · rfl
  · rfl

/-- Marks adopted advance, where each mark adopted is greater than the zone's (R7, R11). -/
theorem marksAdvance_setAdopted (s : State) (p : Zone → Bool) (m : Zone → Byte)
    (hm : ∀ z, p z = true → serialGreater (m z) (s.zones.records.get z).mark = true) :
    MarksAdvance s (if p s.cfg.smokeZone
      then (s.setZones (PerZone.ofFn fun z => if p z then s.adoptZone z (m z) else s.zones.records.get z)).requestLoopReset
      else s.setZones (PerZone.ofFn fun z => if p z then s.adoptZone z (m z) else s.zones.records.get z)) := by
  have hset : MarksAdvance s
      (s.setZones (PerZone.ofFn fun z => if p z then s.adoptZone z (m z) else s.zones.records.get z)) := by
    intro z
    rw [State.setZones_records, PerZone.get_ofFn]
    split
    next hp => exact .inr (by rw [adoptZone_mark]; exact hm z hp)
    next => exact .inl rfl
  split
  · exact hset.trans_same (requestLoopReset_mark _)
  · exact hset

theorem latchPeers_mark {s : State} {a : Nat} {v : PerZone ZoneRecord}
    (hv : ∀ z, v.get z = s.zones.records.get z ∨ v.get z = (s.zones.records.get z).latchPeer a) (z : Zone) :
    ((s.setZones v).zones.records.get z).mark = (s.zones.records.get z).mark := by
  rw [State.setZones_records]
  obtain hz | hz := hv z <;> rw [hz]
  exact ZoneRecord.latchPeer_mark _ a

theorem marksAdvance_zoneSteps (s : State) (a : Nat) (r : Report) : MarksAdvance s (s.zoneSteps a r) := by
  have hadopted : MarksAdvance s (s.adoptionStep r.marks) :=
    marksAdvance_setAdopted s (s.adopts r.marks) r.marks.get fun _ h => h
  unfold State.zoneSteps
  obtain ⟨v, hv, hlatch⟩ := originStep_eq (s.adoptionStep r.marks) a r.origin r.smokeZone
  obtain ⟨w, hw, hlatched⟩ := latchSetStep_eq ((s.adoptionStep r.marks).originStep a r.origin r.smokeZone) a r.latchSet r.marks
  refine (hadopted.trans_same (u := (s.adoptionStep r.marks).originStep a r.origin r.smokeZone) fun z => ?_).trans_same
    fun z => ?_
  · rw [hv]
    exact latchPeers_mark hlatch z
  · rw [hw]
    exact latchPeers_mark hlatched z

theorem ZoneRecord.settleEnd_mark (z : ZoneRecord) (alarm : Bool) : (z.settleEnd alarm).mark = z.mark := by
  unfold ZoneRecord.settleEnd
  split
  · split <;> rfl
  · rfl
  · rfl

theorem StationEvent.marksAdvance {s a : State} (h : StationEvent s a) : MarksAdvance s a := by
  cases h with
  | band x b => cases x <;> exact marksAdvance_of_same (formLocal_mark _)
  | confirm l => exact marksAdvance_of_same (formLocal_mark _)
  | settleEnd =>
    refine marksAdvance_of_same fun z => ?_
    unfold State.settleEnd State.deliverVerdict
    dsimp only
    rw [State.setZones_records, PerZone.get_set]
    split
    next hz => rw [ZoneRecord.settleEnd_mark, ← hz]; exact formLocal_mark _ z
    next => exact formLocal_mark _ z
  | zoneReset =>
    exact marksAdvance_setAdopted (s.setDetection { s.detection with zoneResetKey := .pressed })
      (fun z => (s.zones.records.get z).state = .latched) _ fun z _ => (newMarkFollowsRunningComparison _ _).2
  | report r p st => exact marksAdvance_zoneSteps { s.goodCounted with peers := s.goodCounted.peers.put r.source st } r.source r
  | silence => exact marksAdvance_of_same fun _ => rfl

/-- Settles O5: of the effects of a command that is no start, only a stored report and an accepted zone reset write marks. -/
theorem marksOnlyAdvanceBetweenStarts : Obligations.MarksOnlyAdvanceBetweenStarts := by
  intro c s t hpower hrestart h
  obtain ⟨i, kept, rfl | rfl, -⟩ | rfl | ⟨-, u, hu, rfl⟩ := exec_cases h
  · exact absurd rfl (hpower i)
  · exact absurd rfl (hrestart i)
  · exact fun z => .inl rfl
  · obtain ⟨a, ha, hau⟩ := hu.exists_effect
    refine MarksAdvance.trans_same (t := a) ?_ fun z => by rw [State.refresh_zones, hau.zones]
    obtain ha | ha | ha | ha := ha
    · exact marksAdvance_of_same fun z => by rw [ha.sameZones.zones]
    · cases ha <;> exact marksAdvance_of_same fun _ => rfl
    · exact ha.marksAdvance
    · exact marksAdvance_of_same fun z => by rw [ha.zones]

end Sys2Proof.Machine
end

section
/-! SUPPORT. The laws of the line interface (R36, R39, R40, R44, R46, R48, R49, R52) and of the peer table (R53, R54, R59, R60), kept
by every step. -/

namespace Sys2Proof.Machine

/-! ### The laws of a line interface -/

/-- The laws of a line interface, that of the proving timer in a started station alone (R36, R39, R40, R44, R46, R49, R52). -/
structure LineInterface.Lawful (x : LineInterface) : Prop where
  counter : x.errorCounter ≤ 16
  run : x.goodRun ≤ 63
  full : x.errorCounter = 16 → x.degraded = true
  empty : x.errorCounter = 0 → x.degraded = false
  counts : x.counters.good ≤ 65535 ∧ x.counters.bad ≤ 65535 ∧ x.counters.sent ≤ 65535 ∧ x.counters.collisions ≤ 65535 ∧
    x.counters.transmitFailures ≤ 65535
  period : ∀ p, x.proving = some p → p.badFrames ≤ 3 ∧ p.failedPeriods ≤ 3
  sends : x.series.isSome = true → x.join = .running
  attempt : ∀ r, x.series = some r → 1 ≤ r.attempt ∧ r.attempt ≤ 5 ∧ 0 < r.window
  backoff : ∀ r n since, x.series = some r → r.phase = .backoff n since → n < r.window
  held : x.rxBytes ≠ [] → x.receiver = .assembling
  heldBytes : x.rxBytes.length ≤ 43

theorem lineLawful_iff {s : State} : LineLawful s ↔
    s.line.Lawful ∧ (s.phase ≠ .off → (s.line.join = .listen ↔ s.line.proving.isSome = true)) := by
  constructor
  · rintro ⟨h1, h2, h3, h4, h5, h6, h7, h8, h9, h10, h11, h12, h13, h14, h15, h16⟩
    exact ⟨⟨h1, h2, h3, h4, ⟨h5, h6, h7, h8, h9⟩, h11, h12, h13, h14, h15, h16⟩, h10⟩
  · rintro ⟨⟨h1, h2, h3, h4, ⟨h5, h6, h7, h8, h9⟩, h11, h12, h13, h14, h15, h16⟩, h10⟩
    exact ⟨h1, h2, h3, h4, h5, h6, h7, h8, h9, h10, h11, h12, h13, h14, h15, h16⟩

/-- The laws do not speak of the slot. -/
theorem LineInterface.lawful_unslotted {x : LineInterface} : x.unslotted.Lawful ↔ x.Lawful :=
  ⟨fun ⟨h1, h2, h3, h4, h5, h6, h7, h8, h9, h10, h11⟩ => ⟨h1, h2, h3, h4, h5, h6, h7, h8, h9, h10, h11⟩,
    fun ⟨h1, h2, h3, h4, h5, h6, h7, h8, h9, h10, h11⟩ => ⟨h1, h2, h3, h4, h5, h6, h7, h8, h9, h10, h11⟩⟩

theorem LineInterface.Lawful.setSlot {x : LineInterface} (h : x.Lawful) (slot : Option Bool) :
    ({ x with pendingSlot := slot } : LineInterface).Lawful :=
  LineInterface.lawful_unslotted.1 (LineInterface.lawful_unslotted (x := x).2 h)

/-- The join state and the proving timer are no part of the slot. -/
theorem LineInterface.join_of_unslotted {x y : LineInterface} (h : x.unslotted = y.unslotted) :
    x.join = y.join ∧ x.proving = y.proving := by
  injection h with _ hjoin hproving
  exact ⟨hjoin, hproving⟩

/-- The proving timer runs in LISTEN alone (R48). -/
def LineInterface.Proves (x : LineInterface) : Prop := x.join = .listen ↔ x.proving.isSome = true

theorem LineLawful.of_same {s t : State} (h : SameStation s t) (k : LineLawful s) : LineLawful t := by
  obtain ⟨hlaw, hproving⟩ := lineLawful_iff.1 k
  obtain ⟨hjoin, hprove⟩ := LineInterface.join_of_unslotted h.line
  refine lineLawful_iff.2 ⟨?_, ?_⟩
  · rw [← LineInterface.lawful_unslotted, h.line, LineInterface.lawful_unslotted]
    exact hlaw
  · rw [h.phase, hjoin, hprove]
    exact hproving

/-! ### Operations of the line interface -/

section
variable {x : LineInterface}

theorem fieldSucc_le {n : Nat} (h : n ≤ 65535) : fieldSucc n ≤ 65535 := by
  unfold fieldSucc
  split <;> omega

theorem zeroCounts_le : 0 ≤ 65535 ∧ 0 ≤ 65535 ∧ 0 ≤ 65535 ∧ 0 ≤ 65535 ∧ 0 ≤ 65535 := by decide

theorem LineInterface.Lawful.countGood (h : x.Lawful) : x.countGood.Lawful := by
  obtain ⟨hgood, hrest⟩ := h.counts
  exact ⟨h.counter, h.run, h.full, h.empty, ⟨fieldSucc_le hgood, hrest⟩, h.period, h.sends, h.attempt, h.backoff, h.held,
    h.heldBytes⟩

theorem LineInterface.Lawful.countBad (h : x.Lawful) : x.countBad.Lawful := by
  obtain ⟨hgood, hbad, hrest⟩ := h.counts
  exact ⟨h.counter, h.run, h.full, h.empty, ⟨hgood, fieldSucc_le hbad, hrest⟩, h.period, h.sends, h.attempt, h.backoff, h.held,
    h.heldBytes⟩

theorem LineInterface.Lawful.monitorGood (h : x.Lawful) : x.monitorGood.Lawful := by
  have hcounter := h.counter
  have hrun := h.run
  unfold LineInterface.monitorGood
  split
  · refine ⟨?_, Nat.zero_le _, ?_, ?_, h.counts, h.period, h.sends, h.attempt, h.backoff, h.held, h.heldBytes⟩
    · show x.errorCounter - 1 ≤ 16
      omega
    · intro hfull
      replace hfull : x.errorCounter - 1 = 16 := hfull
      omega
    · intro hempty
      exact if_pos hempty
  next hnot =>
    refine ⟨h.counter, ?_, h.full, h.empty, h.counts, h.period, h.sends, h.attempt, h.backoff, h.held, h.heldBytes⟩
    show x.goodRun + 1 ≤ 63
    omega

theorem LineInterface.Lawful.monitorBad (h : x.Lawful) : x.monitorBad.Lawful := by
  unfold LineInterface.monitorBad
  refine ⟨Nat.min_le_left 16 _, Nat.zero_le _, fun hfull => if_pos hfull, fun hempty => ?_, h.counts, h.period, h.sends,
    h.attempt, h.backoff, h.held, h.heldBytes⟩
  replace hempty : min 16 (x.errorCounter + 1) = 0 := hempty
  omega

/-- The series set to one that is lawful. -/
theorem LineInterface.Lawful.setSeries (h : x.Lawful) {r : Series} (hjoin : x.join = .running)
    (hattempt : 1 ≤ r.attempt ∧ r.attempt ≤ 5 ∧ 0 < r.window) (hbackoff : ∀ n since, r.phase = .backoff n since → n < r.window) :
    ({ x with series := some r } : LineInterface).Lawful := by
  refine ⟨h.counter, h.run, h.full, h.empty, h.counts, h.period, fun _ => hjoin, fun q hq => ?_, fun q n since hq => ?_, h.held,
    h.heldBytes⟩
  · cases hq; exact hattempt
  · cases hq; exact hbackoff n since

theorem LineInterface.Lawful.dropSeries (h : x.Lawful) : ({ x with series := none } : LineInterface).Lawful :=
  ⟨h.counter, h.run, h.full, h.empty, h.counts, h.period, nofun, nofun, nofun, h.held, h.heldBytes⟩

/-- The receiver with no byte held. -/
theorem LineInterface.Lawful.noBytes (h : x.Lawful) (busy : Bool) (last : Nat) (rec : Receiver) :
    ({ x with busy := busy, lastByte := last, receiver := rec, rxBytes := [] } : LineInterface).Lawful :=
  ⟨h.counter, h.run, h.full, h.empty, h.counts, h.period, h.sends, h.attempt, h.backoff, fun hne => absurd rfl hne,
    Nat.zero_le _⟩

theorem LineInterface.Lawful.lastByte (h : x.Lawful) (busy : Bool) (last : Nat) :
    ({ x with busy := busy, lastByte := last } : LineInterface).Lawful :=
  ⟨h.counter, h.run, h.full, h.empty, h.counts, h.period, h.sends, h.attempt, h.backoff, h.held, h.heldBytes⟩

theorem LineInterface.Lawful.startBit (h : x.Lawful) (now : Nat) : (x.startBit now).Lawful := by
  have hseries (r : Series) (hr : backoffAbandoned x.series = some r) : ∃ q, x.series = some q ∧ r.attempt = q.attempt ∧
      r.window = q.window ∧ ∀ n since, r.phase ≠ .backoff n since := by
    obtain ⟨q, hq, rfl⟩ := Option.map_eq_some_iff.1 hr
    refine ⟨q, hq, rfl, rfl, fun n since => ?_⟩
    cases q.phase <;> simp
  have hstart := x.startBit_series now
  refine ⟨h.counter, h.run, h.full, h.empty, h.counts, h.period, fun hsome => ?_, fun r hr => ?_, fun r n since hr hp => ?_,
    fun hne => ?_, ?_⟩
  · refine h.sends ?_
    rw [hstart] at hsome
    simpa [backoffAbandoned] using hsome
  · obtain ⟨q, hq, hattempt, hwindow, -⟩ := hseries r (hstart ▸ hr)
    rw [hattempt, hwindow]
    exact h.attempt q hq
  · obtain ⟨q, -, -, -, hphase⟩ := hseries r (hstart ▸ hr)
    exact absurd hp (hphase n since)
  · by_cases hopen : x.opensFrame = true
    · exact if_pos hopen
    · have hbytes : (x.startBit now).rxBytes = x.rxBytes := if_neg hopen
      have hreceiver : (x.startBit now).receiver = x.receiver := if_neg hopen
      rw [hbytes] at hne
      rw [hreceiver]
      exact h.held hne
  · show (if x.opensFrame then [] else x.rxBytes).length ≤ 43
    split
    · exact Nat.zero_le _
    · exact h.heldBytes

theorem LineInterface.Lawful.bytesArrive (h : x.Lawful) (now : Nat) : (x.bytesArrive now).Lawful := by
  unfold LineInterface.bytesArrive
  split
  · exact h.lastByte x.busy now
  · exact h.startBit now

/-- A length byte without a finding is at most 39 (R41). -/
theorem length_byte_le {rx : List RxByte} (h : badFinding rx = none) (hlen : 2 ≤ rx.length) :
    (byteAt (rx.map RxByte.data) 1).toNat ≤ 39 := by
  have hlength : (rx.map RxByte.data).length = rx.length := List.length_map _
  unfold badFinding at h
  grind

/-- Bytes at which no verdict stands are fewer than a whole frame's (R40, R41). -/
theorem length_le_of_verdictAt_none {rx : List RxByte} (h : verdictAt rx = none) : rx.length ≤ 42 := by
  have hlength : (rx.map RxByte.data).length = rx.length := List.length_map _
  cases hfinding : badFinding rx with
  | some f => simp [verdictAt, hfinding] at h
  | none =>
    have hincomplete : ¬ frameComplete (rx.map RxByte.data) = true := by simpa [verdictAt, hfinding] using h
    rw [frameComplete_iff, hlength] at hincomplete
    by_contra hlong
    have hrange := length_byte_le hfinding (by omega)
    exact hincomplete ⟨by omega, by omega⟩

/-- Bytes of which no run has a verdict have none themselves (R40). -/
theorem verdictAt_of_judgeBytes_none {rx : List RxByte} (h : judgeBytes rx = none) : verdictAt rx = none := by
  by_contra hne
  have hsome : ∃ n, n ≤ rx.length ∧ verdictAt (rx.take n) ≠ none :=
    ⟨rx.length, le_refl _, by rwa [List.take_length]⟩
  obtain ⟨hle, hverdict⟩ := Nat.find_spec hsome
  obtain ⟨v, hv⟩ := Option.ne_none_iff_exists'.1 hverdict
  have hjudge : judgeBytes rx = some (rx.take (Nat.find hsome), v) := by
    rw [judgeBytes_eq_some_iff]
    refine ⟨rx.drop (Nat.find hsome), (List.take_append_drop _ rx).symm, hv, fun k hk => ?_⟩
    rw [List.length_take_of_le hle] at hk
    rw [List.take_take, Nat.min_eq_left hk.le]
    by_contra hk'
    exact Nat.find_min hsome hk ⟨(hk.trans_le hle).le, hk'⟩
  rw [h] at hjudge
  cases hjudge

theorem LineInterface.Lawful.takeByte (h : x.Lawful) (rx : Option RxByte) : (x.takeByte rx).Lawful := by
  unfold LineInterface.takeByte
  split
  next hjoins =>
    rw [Bool.and_eq_true, Option.isNone_iff_eq_none] at hjoins
    obtain ⟨hassembling, hnone⟩ := hjoins
    have hreceiver : x.receiver = .assembling := by
      simp only [LineInterface.assemblingFrame, Bool.and_eq_true, decide_eq_true_iff] at hassembling
      exact hassembling.1
    refine ⟨h.counter, h.run, h.full, h.empty, h.counts, h.period, h.sends, h.attempt, h.backoff, fun _ => hreceiver, ?_⟩
    have hshort := length_le_of_verdictAt_none (verdictAt_of_judgeBytes_none hnone)
    have hone : rx.toList.length ≤ 1 := by cases rx <;> simp
    rw [List.length_append]
    omega
  next => exact h

theorem backoffWindow_pos (n : Nat) (urgent : Bool) : 0 < backoffWindow n urgent := by
  unfold backoffWindow
  split
  · split <;> decide
  all_goals decide

theorem LineInterface.Lawful.collide (h : x.Lawful) {r : Series} (hr : x.series = some r) : (x.collide r).Lawful := by
  obtain ⟨hgood, hbad, hsent, hcollisions, hfailures⟩ := h.counts
  have hjoin := h.sends (by rw [hr]; rfl)
  have hattempt := h.attempt r hr
  rcases Nat.lt_or_ge r.attempt 5 with hlt | hge
  · rw [LineInterface.collide_of_lt hlt]
    have hcounted : ({ x with counters := { x.counters with collisions := fieldSucc x.counters.collisions } }
        : LineInterface).Lawful :=
      ⟨h.counter, h.run, h.full, h.empty, ⟨hgood, hbad, hsent, fieldSucc_le hcollisions, hfailures⟩, h.period, h.sends, h.attempt,
        h.backoff, h.held, h.heldBytes⟩
    exact hcounted.setSeries hjoin ⟨by show 1 ≤ r.attempt + 1; omega, hlt, backoffWindow_pos _ _⟩ nofun
  · rw [LineInterface.collide_of_le hge]
    have hcounted : ({ x with counters := { x.counters with
        collisions := fieldSucc x.counters.collisions
        transmitFailures := fieldSucc x.counters.transmitFailures } } : LineInterface).Lawful :=
      ⟨h.counter, h.run, h.full, h.empty, ⟨hgood, hbad, hsent, fieldSucc_le hcollisions, fieldSucc_le hfailures⟩, h.period,
        h.sends, h.attempt, h.backoff, h.held, h.heldBytes⟩
    exact hcounted.dropSeries

theorem LineInterface.Lawful.byteSent (h : x.Lawful) {r : Series} (hr : x.series = some r) (n : Nat) :
    (x.byteSent r n).Lawful := by
  obtain ⟨hgood, hbad, hsent, hcollisions, hfailures⟩ := h.counts
  unfold LineInterface.byteSent
  split
  · exact h.setSeries (h.sends (by rw [hr]; rfl)) (h.attempt r hr) nofun
  · have hcounted : ({ x with counters := { x.counters with sent := fieldSucc x.counters.sent } } : LineInterface).Lawful :=
      ⟨h.counter, h.run, h.full, h.empty, ⟨hgood, hbad, fieldSucc_le hsent, hcollisions, hfailures⟩, h.period, h.sends, h.attempt,
        h.backoff, h.held, h.heldBytes⟩
    exact hcounted.dropSeries

end

/-! ### The line's commands -/

/-- The laws of the line interface of a started station. -/
def State.lineLaws (s : State) : Prop := s.line.Lawful ∧ s.line.Proves

theorem lineLaws_of_line {s t : State} (h : s.lineLaws) (hline : t.line = s.line) : t.lineLaws := by
  unfold State.lineLaws
  rw [hline]
  exact h

theorem lineLaws_composeDue {s b : State} (h : s.lineLaws) (r : Bool) : (s.composeDue b r).lineLaws := by
  rw [composeDue_eq]
  exact ⟨h.1.setSlot _, h.2⟩

theorem lineLaws_drawBackoff {s : State} (h : s.lineLaws) : s.drawBackoff.lineLaws := by
  unfold State.drawBackoff
  split
  next r hr =>
    split
    · refine ⟨h.1.setSeries (h.1.sends (by rw [hr]; rfl)) (h.1.attempt r hr) fun n since hphase => ?_, h.2⟩
      injection hphase with hn
      rw [← hn]
      exact Nat.mod_lt _ (h.1.attempt r hr).2.2
    · exact h
  · exact h

theorem LineInterface.goodCounted_lawful {x : LineInterface} (h : x.Lawful) (now : Nat) :
    ((x.bytesArrive now).judged.countGood.monitorGood).Lawful :=
  (((h.bytesArrive now).noBytes _ _ .discarding).countGood).monitorGood

theorem LineInterface.bytesArrive_join (x : LineInterface) (now : Nat) :
    (x.bytesArrive now).join = x.join ∧ (x.bytesArrive now).proving = x.proving := by
  unfold LineInterface.bytesArrive
  split <;> exact ⟨rfl, rfl⟩

theorem LineInterface.monitorGood_join (x : LineInterface) :
    x.monitorGood.join = x.join ∧ x.monitorGood.proving = x.proving := by
  unfold LineInterface.monitorGood
  split <;> exact ⟨rfl, rfl⟩

theorem lineLaws_goodCounted {s : State} (h : s.lineLaws) : s.goodCounted.lineLaws := by
  refine ⟨LineInterface.goodCounted_lawful h.1 s.now, ?_⟩
  show (s.line.bytesArrive s.now).judged.countGood.monitorGood.Proves
  unfold LineInterface.Proves
  rw [(LineInterface.monitorGood_join _).1, (LineInterface.monitorGood_join _).2]
  show (s.line.bytesArrive s.now).join = .listen ↔ (s.line.bytesArrive s.now).proving.isSome = true
  rw [(s.line.bytesArrive_join s.now).1, (s.line.bytesArrive_join s.now).2]
  exact h.2

/-- A station that joins: RUNNING without a proving timer (R50). -/
theorem LineInterface.Lawful.joins {x : LineInterface} (h : x.Lawful) :
    ({ x with join := .running, proving := none } : LineInterface).Lawful :=
  ⟨h.counter, h.run, h.full, h.empty, h.counts, nofun, fun _ => rfl, h.attempt, h.backoff, h.held, h.heldBytes⟩

theorem lineLaws_provingBad {s : State} (h : s.lineLaws) : s.provingBad.1.lineLaws := by
  obtain ⟨hlaw, hproves⟩ := h
  have hjoined : ∀ j, ({ s.line with join := .running, proving := none, pendingSlot := j } : LineInterface).Proves :=
    fun _ => ⟨nofun, nofun⟩
  unfold State.provingBad
  split
  next p hjoin hp =>
    obtain ⟨hframes, hfailed⟩ := hlaw.period p hp
    have hset (q : Proving) (hq : q.badFrames ≤ 3 ∧ q.failedPeriods ≤ 3) :
        (s.setLine { s.line with proving := some q }).lineLaws := by
      refine ⟨⟨hlaw.counter, hlaw.run, hlaw.full, hlaw.empty, hlaw.counts, fun q' hq' => ?_, hlaw.sends, hlaw.attempt, hlaw.backoff,
        hlaw.held, hlaw.heldBytes⟩, ⟨fun _ => rfl, fun _ => hjoin⟩⟩
      cases hq'
      exact hq
    split_ifs
    · exact hset _ ⟨by show p.badFrames + 1 ≤ 3; omega, hfailed⟩
    · have hfull : ({ s.line with errorCounter := 16, degraded := true } : LineInterface).Lawful :=
        ⟨le_refl 16, hlaw.run, fun _ => rfl, nofun, hlaw.counts, hlaw.period, hlaw.sends, hlaw.attempt, hlaw.backoff,
          hlaw.held, hlaw.heldBytes⟩
      exact ⟨hfull.joins, ⟨nofun, nofun⟩⟩
    · exact hset _ ⟨Nat.zero_le 3, by show p.failedPeriods + 1 ≤ 3; omega⟩
  · exact ⟨hlaw, hproves⟩

theorem lineLaws_takeBadFrame {s : State} (h : s.lineLaws) : s.takeBadFrame.1.lineLaws :=
  lineLaws_provingBad ⟨h.1.countBad.monitorBad, h.2⟩

theorem lineLaws_addressConflict {s : State} (h : s.lineLaws) : s.addressConflict.lineLaws := by
  have hmuted : (State.addressConflict.muted s).lineLaws :=
    ⟨⟨h.1.counter, h.1.run, h.1.full, h.1.empty, h.1.counts, nofun, nofun, nofun, nofun, h.1.held, h.1.heldBytes⟩, nofun, nofun⟩
  unfold State.addressConflict
  split
  · exact h
  · exact hmuted
  · exact hmuted

theorem LineEvent.lineLaws {s a : State} (h : LineEvent s a) (hs : s.lineLaws) : a.lineLaws := by
  obtain ⟨hlaw, hproves⟩ := hs
  cases h with
  | countersCleared =>
    exact ⟨⟨hlaw.counter, hlaw.run, hlaw.full, hlaw.empty, zeroCounts_le, hlaw.period, hlaw.sends, hlaw.attempt, hlaw.backoff,
      hlaw.held, hlaw.heldBytes⟩, hproves⟩
  | restartWait =>
    have hline : s.stopProbes.haltAll.line = s.line := ((driven_stopProbes s).trans (driven_haltAll _)).line
    have hdropped : ({ s.line with series := none } : LineInterface).Lawful := hlaw.dropSeries
    show (LineInterface.dropSeries _).Lawful ∧ (LineInterface.dropSeries _).Proves
    rw [hline]
    exact ⟨hdropped, hproves⟩
  | lineIdle =>
    have hidle : (s.onLine LineInterface.idle).lineLaws := ⟨hlaw.noBytes false _ .hunting, hproves⟩
    exact lineLaws_composeDue (lineLaws_drawBackoff hidle) false
  | lineIdleEarly =>
    have hidle : (s.onLine LineInterface.idle).lineLaws := ⟨hlaw.noBytes false _ .hunting, hproves⟩
    exact lineLaws_composeDue (lineLaws_drawBackoff (lineLaws_takeBadFrame hidle)) _
  | lineBusy rx =>
    refine ⟨(hlaw.startBit s.now).takeByte rx, ?_⟩
    show ((s.line.startBit s.now).takeByte rx).Proves
    unfold LineInterface.takeByte
    split <;> exact hproves
  | sends r n since hr hp =>
    have hsends := hlaw.setSeries (r := { r with phase := .transmitting 0 }) (hlaw.sends (by rw [hr]; rfl)) (hlaw.attempt r hr) nofun
    exact ⟨hsends.noBytes true s.now .discarding, hproves⟩
  | collides r n hr hp =>
    refine ⟨(hlaw.lastByte s.line.busy s.now).collide hr, ?_⟩
    show (LineInterface.collide _ r).Proves
    unfold LineInterface.collide
    dsimp only
    split <;> exact hproves
  | readsBack r n hr hp =>
    refine ⟨(hlaw.lastByte s.line.busy s.now).byteSent hr n, ?_⟩
    show (LineInterface.byteSent _ r n).Proves
    unfold LineInterface.byteSent
    split <;> exact hproves
  | goodFrameInWait => exact lineLaws_goodCounted ⟨hlaw, hproves⟩
  | goodFrameUnheard => exact lineLaws_composeDue (lineLaws_goodCounted ⟨hlaw, hproves⟩) false
  | ownAddress => exact lineLaws_composeDue (lineLaws_addressConflict (lineLaws_goodCounted ⟨hlaw, hproves⟩)) false
  | badFrame =>
    have hjudged : ((s.onLine fun x => x.bytesArrive s.now).onLine LineInterface.judged).lineLaws := by
      refine ⟨(hlaw.bytesArrive s.now).noBytes _ _ .discarding, ?_⟩
      show (s.line.bytesArrive s.now).join = .listen ↔ (s.line.bytesArrive s.now).proving.isSome = true
      rw [(s.line.bytesArrive_join s.now).1, (s.line.bytesArrive_join s.now).2]
      exact hproves
    exact lineLaws_composeDue (lineLaws_takeBadFrame hjudged) _
  | proved hjoin => exact lineLaws_composeDue (s := s.enterRunningJoin) ⟨hlaw.joins, nofun, nofun⟩ true
  | firstAttempt urgent hbegin =>
    simp only [State.mayBegin, Bool.and_eq_true, decide_eq_true_iff] at hbegin
    obtain ⟨-, hjoin⟩ := hbegin
    unfold State.beginReport
    dsimp only
    refine lineLaws_drawBackoff ⟨?_, hproves⟩
    exact (hlaw.setSeries (r := ⟨encodeFrame (s.composeReport (s.composer.ownSequence + 1#8)), 1, backoffWindow 1 urgent,
      .waitingIdle⟩) hjoin ⟨le_refl 1, Nat.le_of_ble_eq_true rfl, backoffWindow_pos 1 urgent⟩ nofun).setSlot none

/-! ### Local detection and the line -/

/-- An entry to ALARM may end LISTEN; else local detection and the zones leave the line interface (R51). -/
theorem lineLaws_endListenOnAlarm {s : State} (h : s.lineLaws) : s.endListenOnAlarm.lineLaws := by
  unfold State.endListenOnAlarm
  split
  · exact ⟨h.1.joins.setSlot _, nofun, nofun⟩
  · exact h

theorem lineLaws_formLocal {s : State} (h : s.lineLaws) : s.formLocal.lineLaws := by
  unfold State.formLocal
  dsimp only
  split
  · exact lineLaws_endListenOnAlarm h
  · exact h

theorem lineLaws_requestLoopReset {s : State} (h : s.lineLaws) : s.requestLoopReset.lineLaws := by
  unfold State.requestLoopReset
  split
  · exact lineLaws_formLocal h
  · exact h
  · exact h

theorem lineLaws_zoneSteps {s : State} (h : s.lineLaws) (a : Nat) (r : Report) : (s.zoneSteps a r).lineLaws := by
  obtain ⟨x, hx⟩ := zoneSteps_eq_setZones s a r
  rw [hx]
  refine lineLaws_of_line (s := s.adoptionStep r.marks) ?_ rfl
  unfold State.adoptionStep
  dsimp only
  split
  · exact lineLaws_requestLoopReset h
  · exact h

theorem StationEvent.lineLaws {s a : State} (h : StationEvent s a) (hs : s.lineLaws) : a.lineLaws := by
  cases h with
  | band x b => cases x <;> exact lineLaws_formLocal hs
  | confirm l => exact lineLaws_formLocal hs
  | settleEnd =>
    have hformed := lineLaws_formLocal (s := s.setDetection { s.detection with
      loopReset := .none
      loops := PerLoop.mapLoops (fun r => r.endSettle s.now) s.detection.loops }) hs
    exact lineLaws_of_line hformed rfl
  | zoneReset =>
    unfold State.acceptReset
    dsimp only
    split
    · exact lineLaws_requestLoopReset hs
    · exact hs
  | report r p st =>
    exact lineLaws_of_line (lineLaws_zoneSteps (s := { s.goodCounted with peers := s.goodCounted.peers.put r.source st })
      (lineLaws_goodCounted hs) r.source r) rfl
  | silence => exact hs

theorem lineLawful_of_started {s : State} (h : s.lineLaws) : LineLawful s := lineLawful_iff.2 ⟨h.1, fun _ => h.2⟩

theorem LineLawful.started {s : State} (h : LineLawful s) (hs : s.phase ≠ .off) : s.lineLaws :=
  ⟨(lineLawful_iff.1 h).1, (lineLawful_iff.1 h).2 hs⟩

/-- The line interface at a start (R45, R48). -/
theorem lineLaws_blocksStarted (s : State) (i : StartInputs) (store : SettingsStore) (kept : Leaf → Option KeptLeaf) :
    (s.blocksStarted i store kept).lineLaws := by
  show (LineInterface.started (startAddress i) s.now).Lawful ∧ (LineInterface.started (startAddress i) s.now).Proves
  unfold LineInterface.started
  cases validAddress (startAddress i)
  · exact ⟨⟨Nat.zero_le _, Nat.zero_le _, nofun, fun _ => rfl, zeroCounts_le, nofun, nofun, nofun, nofun, fun hne => absurd rfl hne,
      Nat.zero_le _⟩, nofun, nofun⟩
  · refine ⟨⟨Nat.zero_le _, Nat.zero_le _, nofun, fun _ => rfl, zeroCounts_le, fun p hp => ?_, nofun, nofun, nofun, fun hne => absurd rfl hne,
      Nat.zero_le _⟩, fun _ => rfl, fun _ => rfl⟩
    cases hp
    exact ⟨Nat.zero_le 3, Nat.zero_le 3⟩

/-- Settles O20, by the induction over the kinds of effects. -/
theorem everyStepKeepsLineLaws : Obligations.EveryStepKeepsLineLaws :=
  fun s t hs hstep => step_keeps (P := LineLawful) (fun _ _ h k => k.of_same h)
    (fun s i store kept => lineLawful_of_started (lineLaws_blocksStarted s i store kept))
    (fun _ _ hs k h => lineLawful_of_started (h.lineLaws (k.started hs)))
    (fun _ _ hs k h => lineLawful_of_started (by cases h <;> exact k.started hs))
    (fun _ _ hs k h => lineLawful_of_started (h.lineLaws (k.started hs)))
    s t hs hstep

end Sys2Proof.Machine
end

section
/-! SUPPORT. The laws of the peer table (R53, R54, R59, R60), kept by every step. -/

namespace Sys2Proof.Machine

/-- The ranges of a record's reliability, and the class that its miss score gives at the ends of its range (R59, R60). -/
def PeerContent.ScoreLawful (c : PeerContent) : Prop :=
  c.missScore ≤ 15 ∧ c.goodRun ≤ 7 ∧ (6 ≤ c.missScore → c.reliable = false) ∧ (c.missScore = 0 → c.reliable = true)

/-- What a record holds is lawful. -/
def PeerStatus.ScoreLawful (st : PeerStatus) : Prop := ∀ c, st = .fresh c ∨ st = .lost c → c.ScoreLawful

/-- The laws of the peer table of a started station. -/
def State.peerLaws (s : State) : Prop :=
  s.peers.records.map PeerRecord.address = recordAddresses s.line.ownAddress ∧ ∀ p ∈ s.peers.records, p.status.ScoreLawful

theorem peersLawful_of_started {s : State} (h : s.peerLaws) : PeersLawful s := ⟨fun _ => h.1, h.2⟩

theorem PeersLawful.started {s : State} (h : PeersLawful s) (hs : s.phase ≠ .off) : s.peerLaws := ⟨h.addresses hs, h.score⟩

theorem peersLawful_congr {s t : State} (hphase : t.phase = s.phase) (hpeers : t.peers.records = s.peers.records)
    (haddress : t.line.ownAddress = s.line.ownAddress) (h : PeersLawful s) : PeersLawful t := by
  refine ⟨?_, ?_⟩
  · rw [hphase, hpeers, haddress]
    exact h.addresses
  · rw [hpeers]
    exact h.score

theorem peerLaws_congr {s t : State} (hpeers : t.peers.records = s.peers.records)
    (haddress : t.line.ownAddress = s.line.ownAddress) (h : s.peerLaws) : t.peerLaws := by
  unfold State.peerLaws
  rw [hpeers, haddress]
  exact h

/-! ### Statuses stored -/

theorem scoreLawful_initial (r : Report) (now : Nat) : (PeerContent.initial r now).ScoreLawful :=
  ⟨Nat.zero_le 15, Nat.zero_le 7, fun h => absurd h (by show ¬ 6 ≤ 0; decide), fun _ => rfl⟩

theorem reliableAfter_lawful (score : Nat) (before : Bool) :
    (6 ≤ score → reliableAfter score before = false) ∧ (score = 0 → reliableAfter score before = true) := by
  unfold reliableAfter
  constructor
  · intro h
    rw [if_pos h]
  · intro h
    rw [if_neg (by omega), if_pos h]

theorem PeerContent.ScoreLawful.applyGap {c : PeerContent} (h : c.ScoreLawful) (gap : Nat) : (c.applyGap gap).ScoreLawful := by
  obtain ⟨hscore, hrun, hunreliable, hreliable⟩ := h
  unfold PeerContent.applyGap
  dsimp only
  split_ifs
  · exact ⟨Nat.min_le_left 15 _, Nat.zero_le 7, (reliableAfter_lawful _ _).1, (reliableAfter_lawful _ _).2⟩
  · exact ⟨(Nat.sub_le _ 1).trans hscore, Nat.zero_le 7, (reliableAfter_lawful _ _).1, (reliableAfter_lawful _ _).2⟩
  · exact ⟨hscore, by show c.goodRun + 1 ≤ 7; omega, hunreliable, hreliable⟩

theorem PeerStatus.ScoreLawful.taking {st new : PeerStatus} (h : st.ScoreLawful) {r : Report} {now : Nat}
    (hnew : st.taking r now = some new) : new.ScoreLawful := by
  have hfresh {c : PeerContent} (hc : c.ScoreLawful) : (PeerStatus.fresh c).ScoreLawful := by
    rintro d (hd | hd) <;> cases hd
    exact hc
  unfold PeerStatus.taking at hnew
  split at hnew
  · cases hnew
  · cases hnew
    exact hfresh (scoreLawful_initial r now)
  next gap _ =>
    split at hnew
    next c _ =>
      cases hnew
      exact hfresh ((h c (.inl rfl)).applyGap gap)
    · cases hnew
    · cases hnew

theorem PeerTable.map_address_put (t : PeerTable) (a : Nat) (st : PeerStatus) :
    (t.put a st).records.map PeerRecord.address = t.records.map PeerRecord.address := by
  unfold PeerTable.put
  rw [List.map_map]
  refine List.map_congr_left fun p _ => ?_
  show (if p.address = a then { p with status := st } else p).address = p.address
  split <;> rfl

/-- A lawful status put at an address. -/
theorem peerLaws_put {s : State} (h : s.peerLaws) (a : Nat) {st : PeerStatus} (hst : st.ScoreLawful) :
    ({ s with peers := s.peers.put a st } : State).peerLaws := by
  refine ⟨(s.peers.map_address_put a st).trans h.1, fun p hp => ?_⟩
  obtain ⟨q, hq, rfl⟩ := List.mem_map.1 hp
  split
  · exact hst
  · exact h.2 q hq

/-! ### Effects -/

theorem formLocal_ownAddress (s : State) : s.formLocal.line.ownAddress = s.line.ownAddress := by
  unfold State.formLocal State.enterAlarm State.endListenOnAlarm
  dsimp only
  split
  · split <;> rfl
  · rfl

theorem requestLoopReset_ownAddress (s : State) : s.requestLoopReset.line.ownAddress = s.line.ownAddress := by
  unfold State.requestLoopReset
  split
  · exact formLocal_ownAddress _
  · rfl
  · rfl

theorem zoneSteps_ownAddress (s : State) (a : Nat) (r : Report) : (s.zoneSteps a r).line.ownAddress = s.line.ownAddress := by
  obtain ⟨x, hx⟩ := zoneSteps_eq_setZones s a r
  rw [hx, State.setZones_line]
  unfold State.adoptionStep
  dsimp only
  split
  · exact requestLoopReset_ownAddress _
  · rfl

theorem acceptReset_peers (s : State) :
    s.acceptReset.peers.records = s.peers.records ∧ s.acceptReset.line.ownAddress = s.line.ownAddress := by
  unfold State.acceptReset
  dsimp only
  split
  · exact ⟨(samePeerRecords_requestLoopReset _).records, requestLoopReset_ownAddress _⟩
  · exact ⟨rfl, rfl⟩

theorem LineEvent.peerLaws {s a : State} (h : LineEvent s a) (hs : s.peerLaws) : a.peerLaws :=
  peerLaws_congr h.sameZones.peers h.sameZones.ownAddress hs

theorem StationEvent.peerLaws {s a : State} (h : StationEvent s a) (hs : s.peerLaws) : a.peerLaws := by
  cases h with
  | band x b => cases x <;> exact peerLaws_congr (samePeerRecords_formLocal _).records (formLocal_ownAddress _) hs
  | confirm l => exact peerLaws_congr (samePeerRecords_formLocal _).records (formLocal_ownAddress _) hs
  | settleEnd =>
    have hset (loops : PerLoop LoopRecord) :
        (s.setDetection { s.detection with loopReset := .none, loops := loops }).formLocal.peerLaws :=
      peerLaws_congr (s := s) (samePeerRecords_formLocal _).records (formLocal_ownAddress _) hs
    exact peerLaws_congr rfl rfl (hset _)
  | zoneReset => exact peerLaws_congr (acceptReset_peers _).1 (acceptReset_peers _).2 hs
  | report r p st hp hst =>
    have hcounted : s.goodCounted.peerLaws :=
      peerLaws_congr (sameZones_goodCounted s).peers (sameZones_goodCounted s).ownAddress hs
    have hput := peerLaws_put hcounted r.source ((hs.2 p (PeerTable.mem_of_find? hp)).taking hst)
    exact peerLaws_congr (samePeerRecords_zoneSteps _ r.source r).records (zoneSteps_ownAddress _ r.source r) hput
  | silence a p c hp hc =>
    refine peerLaws_put hs a ?_
    rintro d (hd | hd) <;> cases hd
    exact hs.2 p (PeerTable.mem_of_find? hp) c (.inl hc)

theorem peerLaws_blocksStarted (s : State) (i : StartInputs) (store : SettingsStore) (kept : Leaf → Option KeptLeaf) :
    (s.blocksStarted i store kept).peerLaws := by
  refine ⟨?_, fun p hp c hc => ?_⟩
  · show ((recordAddresses (startAddress i)).map fun a => (⟨a, .absent⟩ : PeerRecord)).map PeerRecord.address = _
    rw [List.map_map]
    exact List.map_id _
  · obtain ⟨a, -, rfl⟩ := List.mem_map.1 hp
    rcases hc with hc | hc <;> cases hc

theorem LineInterface.ownAddress_of_unslotted {x y : LineInterface} (h : x.unslotted = y.unslotted) :
    x.ownAddress = y.ownAddress := by injection h

/-- Settles O24, by the induction over the kinds of effects. -/
theorem everyStepKeepsPeerLaws : Obligations.EveryStepKeepsPeerLaws :=
  fun s t hs hstep => step_keeps (P := PeersLawful)
    (fun _ _ h k => peersLawful_congr h.phase h.peers (LineInterface.ownAddress_of_unslotted h.line) k)
    (fun s i store kept => peersLawful_of_started (peerLaws_blocksStarted s i store kept))
    (fun _ _ hs k h => peersLawful_of_started (h.peerLaws (k.started hs)))
    (fun _ _ hs k h => peersLawful_of_started (by cases h <;> exact k.started hs))
    (fun _ _ hs k h => peersLawful_of_started (h.peerLaws (k.started hs)))
    s t hs hstep

end Sys2Proof.Machine
end

section
/-! SUPPORT. What a unit in motion keeps: its pair and table, its status but for the run in flight, and that run's members; and that
only a start of a run or a granted probe takes a drive slot. -/

namespace Sys2Proof.Machine

/-- The unit's status is as it was, or its run in flight has changed and kept its members. -/
def SameFlight (a b : UnitStatus) : Prop := b = a ∨ ∃ q r, a = .inFlight q ∧ b = .inFlight r ∧ r.members = q.members

theorem SameFlight.refl (a : UnitStatus) : SameFlight a a := .inl rfl

theorem SameFlight.trans {a b c : UnitStatus} (h : SameFlight a b) (k : SameFlight b c) : SameFlight a c := by
  obtain rfl | ⟨q, r, rfl, rfl, hr⟩ := h
  · exact k
  obtain rfl | ⟨q', r', hq, rfl, hr'⟩ := k
  · exact .inr ⟨q, r, rfl, rfl, hr⟩
  · cases hq
    exact .inr ⟨q, r', rfl, rfl, hr'.trans hr⟩

/-- What the operations on a run in flight keep. -/
structure Moved (s t : State) : Prop where
  tables : t.tables = s.tables
  pair : ∀ u, (t.units.get u).pair = (s.units.get u).pair
  status : ∀ u, SameFlight (s.units.get u).status (t.units.get u).status
  probe : ∀ l, (t.feedback.get l).probe.inProgress = true → (s.feedback.get l).probe.inProgress = true

theorem Moved.refl (s : State) : Moved s s := ⟨rfl, fun _ => rfl, fun _ => .refl _, fun _ => id⟩

theorem Moved.trans {s t u : State} (h : Moved s t) (k : Moved t u) : Moved s u where
  tables := k.tables.trans h.tables
  pair := fun x => (k.pair x).trans (h.pair x)
  status := fun x => (h.status x).trans (k.status x)
  probe := fun l hl => h.probe l (k.probe l hl)

theorem Moved.foldl {α : Type} {f : State → α → State} (hf : ∀ s a, Moved s (f s a)) (l : List α) (s : State) :
    Moved s (l.foldl f s) := by
  induction l generalizing s with
  | nil => exact Moved.refl s
  | cons a l ih => exact (hf s a).trans (ih (f s a))

theorem moved_of_eq {s t : State} (htables : t.tables = s.tables) (hunits : t.units = s.units)
    (hfeedback : t.feedback = s.feedback) : Moved s t :=
  ⟨htables, fun _ => by rw [hunits], fun _ => by rw [hunits]; exact .refl _, fun _ => by rw [hfeedback]; exact id⟩

theorem moved_setMember (s : State) (l : Leaf) (x : MemberRecord) : Moved s (s.setMember l x) := moved_of_eq rfl rfl rfl

theorem moved_setUnit {s : State} {u : Leaf} {x : UnitRecord} (hpair : x.pair = (s.units.get u).pair)
    (hstatus : SameFlight (s.units.get u).status x.status) : Moved s (s.setUnit u x) := by
  refine ⟨rfl, fun v => ?_, fun v => ?_, fun _ => id⟩
  · rw [State.setUnit_units, Four.get_set]
    split
    next h => rw [h, hpair]
    next => rfl
  · rw [State.setUnit_units, Four.get_set]
    split
    next h => rw [h]; exact hstatus
    next => exact .refl _

theorem moved_setRun {s : State} {u : Leaf} {q r : Run} (hq : (s.units.get u).status = .inFlight q) (hr : r.members = q.members) :
    Moved s (s.setRun u r) := moved_setUnit rfl (.inr ⟨q, r, hq, rfl, hr⟩)

theorem moved_setFeedback (s : State) (l : Leaf) (x : FeedbackRecord)
    (h : x.probe.inProgress = true → (s.feedback.get l).probe.inProgress = true) : Moved s (s.setFeedback l x) := by
  refine ⟨rfl, fun _ => rfl, fun _ => .refl _, fun m hm => ?_⟩
  rw [State.setFeedback_feedback, Four.get_set] at hm
  split at hm
  next e => rw [e]; exact h hm
  next => exact hm

/-! ### Motors and periods -/

theorem switchOff_units (s : State) (l : Leaf) : (s.switchOff l).units = s.units := rfl

theorem switchOff_tables (s : State) (l : Leaf) : (s.switchOff l).tables = s.tables := rfl

theorem switchOff_now (s : State) (l : Leaf) : (s.switchOff l).now = s.now := rfl

theorem switchOff_cfg (s : State) (l : Leaf) : (s.switchOff l).cfg = s.cfg := rfl

theorem FeedbackRecord.formEstimate_probe (f : FeedbackRecord) (now : Nat) (g : Speed → Nat) (d : Dir) :
    (f.formEstimate now g d).probe = f.probe := by
  unfold FeedbackRecord.formEstimate
  split <;> rfl

theorem FeedbackRecord.beginPeriod_probe (f : FeedbackRecord) (now : Nat) (v : Speed) :
    (f.beginPeriod now v).probe = f.probe := by
  unfold FeedbackRecord.beginPeriod
  split <;> rfl

theorem moved_formEstimate (s : State) (l : Leaf) : Moved s (s.formEstimate l) :=
  moved_setFeedback _ _ _ (by rw [FeedbackRecord.formEstimate_probe]; exact id)

theorem moved_beginPeriod (s : State) (l : Leaf) (v : Speed) : Moved s (s.beginPeriod l v) :=
  moved_setFeedback _ _ _ (by rw [FeedbackRecord.beginPeriod_probe]; exact id)

theorem moved_endPeriod (s : State) (l : Leaf) : Moved s (s.endPeriod l) :=
  (moved_formEstimate s l).trans (moved_setFeedback _ _ _ (by exact id))

theorem moved_switchOn (s : State) (l : Leaf) (v : Speed) : Moved s (s.switchOn l v) :=
  (moved_setMember s l _).trans (moved_beginPeriod _ l v)

theorem moved_switchOff (s : State) (l : Leaf) : Moved s (s.switchOff l) :=
  ((moved_endPeriod s l).trans (moved_setFeedback _ _ _ (by exact id))).trans (moved_setMember _ l _)

theorem moved_beginPulse {s : State} {l : Leaf} (h : (s.feedback.get l).probe.inProgress = true) : Moved s (s.beginPulse l) :=
  (moved_setFeedback _ _ _ fun _ => h).trans (moved_beginPeriod _ l _)

theorem moved_endPulse (s : State) (l : Leaf) (p : Presence) : Moved s (s.endPulse l p) :=
  (moved_endPeriod s l).trans (moved_setFeedback _ _ _ (by exact nofun))

theorem moved_stopProbe (s : State) (l : Leaf) : Moved s (s.stopProbe l) := by
  unfold State.stopProbe
  split
  · exact (moved_endPeriod s l).trans (moved_setFeedback _ _ _ (by exact nofun))
  · exact Moved.refl s

theorem FeedbackRecord.fixAt_probe (f : FeedbackRecord) (a b c : Nat) : (f.fixAt a b c).probe = f.probe := by
  unfold FeedbackRecord.fixAt
  split <;> rfl

theorem FeedbackRecord.countDrift_probe (f : FeedbackRecord) (b : Bool) : (f.countDrift b).probe = f.probe := by
  unfold FeedbackRecord.countDrift
  split <;> rfl

theorem moved_meetClosed (s : State) (l : Leaf) : Moved s (s.meetClosed l) :=
  moved_setFeedback _ _ _ (by rw [FeedbackRecord.fixAt_probe, FeedbackRecord.countDrift_probe]; exact id)

theorem moved_meetOpen (s : State) (l : Leaf) : Moved s (s.meetOpen l) :=
  moved_setFeedback _ _ _ (by rw [FeedbackRecord.fixAt_probe, FeedbackRecord.countDrift_probe]; exact id)

theorem moved_cutOutClosed (s : State) (l : Leaf) : Moved s (s.cutOutClosed l) :=
  moved_setFeedback _ _ _ (by rw [FeedbackRecord.fixAt_probe]; exact id)

/-! ### Runs -/

theorem foldl_units {α : Type} {f : State → α → State} (hf : ∀ s a, (f s a).units = s.units) (l : List α) (s : State) :
    (l.foldl f s).units = s.units := by
  induction l generalizing s with
  | nil => rfl
  | cons a l ih => exact (ih (f s a)).trans (hf s a)

theorem moved_toRundown {s : State} {u : Leaf} {r q : Run} (e : Ending) (hq : (s.units.get u).status = .inFlight q)
    (hr : r.members = q.members) : Moved s (s.toRundown u r e) := by
  have hunits : (r.members.foldl State.switchOff s).units = s.units :=
    foldl_units (f := State.switchOff) (fun _ _ => rfl) _ s
  exact (Moved.foldl moved_switchOff r.members s).trans (moved_setRun (q := q) (by rw [hunits]; exact hq) hr)

theorem moved_enterRunning {s : State} {u : Leaf} {r : Run} (hr : (s.units.get u).status = .inFlight r) :
    Moved s (s.enterRunning u r) := by
  let f (t : State) (l : Leaf) : State := (t.setFeedback l { t.feedback.get l with lastLine := none }).switchOn l r.speed
  have hunits : (r.members.foldl f s).units = s.units := foldl_units (f := f) (fun _ _ => rfl) _ s
  exact (Moved.foldl (f := f) (fun t l => (moved_setFeedback _ _ _ (by exact id)).trans (moved_switchOn _ l _)) r.members s).trans
    (moved_setRun (q := r) (by rw [hunits]; exact hr) rfl)

theorem moved_settleTimeout {s : State} {u : Leaf} {r : Run} (hr : (s.units.get u).status = .inFlight r) :
    Moved s (s.settleTimeout u r) := by
  unfold State.settleTimeout
  split
  · exact moved_setRun (q := r) hr rfl
  · exact Moved.refl s

theorem moved_finishMember {s : State} {u : Leaf} {r : Run} (hr : (s.units.get u).status = .inFlight r) (l : Leaf) :
    Moved s (s.finishMember u r l) := by
  have h := (moved_switchOff s l).trans (moved_setMember _ l { (s.switchOff l).members.get l with hold := .done })
  unfold State.finishMember
  dsimp only
  generalize hheld : (s.switchOff l).setMember l { (s.switchOff l).members.get l with hold := .done } = t at h
  have hstatus : (t.units.get u).status = .inFlight r := by
    rw [← hheld, State.setMember_units, switchOff_units]
    exact hr
  split
  · exact h.trans (moved_toRundown (q := r) _ hstatus rfl)
  · exact h.trans (moved_settleTimeout hstatus)

theorem moved_probingMotor (s : State) (r : Run) (l : Leaf) : Moved s (s.probingMotor r l) := by
  unfold State.probingMotor
  split
  · exact moved_switchOn s l r.speed
  · exact Moved.refl s

theorem probingMotor_units (s : State) (r : Run) (l : Leaf) : (s.probingMotor r l).units = s.units := by
  unfold State.probingMotor
  split <;> rfl

theorem moved_beginProbing {s : State} {u : Leaf} {r : Run} (hr : (s.units.get u).status = .inFlight r) (l : Leaf) :
    Moved s (s.beginProbing u r l) := by
  have hunits := probingMotor_units s r l
  unfold State.beginProbing
  dsimp only
  refine (((moved_probingMotor s r l).trans (moved_setMember _ l _)).trans (moved_setFeedback _ _ _ (by exact id))).trans (moved_settleTimeout ?_)
  rw [State.setFeedback_units, State.setMember_units, hunits]
  exact hr

theorem moved_checkReach (s : State) (l : Leaf) : Moved s (s.checkReach l) := by
  unfold State.checkReach
  split
  · exact Moved.refl s
  next r hr =>
    have hstatus := (runOf_eq_some_iff.1 hr).1
    dsimp only
    split
    · split
      · exact moved_beginProbing hstatus l
      · exact moved_finishMember hstatus l
    · exact Moved.refl s

theorem moved_checkReaches (s : State) (ls : List Leaf) : Moved s (s.checkReaches ls) := Moved.foldl moved_checkReach ls s

theorem moved_holdMember (s : State) (l : Leaf) : Moved s (s.holdMember l) :=
  (moved_switchOff s l).trans (moved_setMember _ l _)

theorem moved_holdLeading (s : State) (l : Leaf) : Moved s (s.holdLeading l) :=
  (moved_holdMember s l).trans (moved_checkReach _ l)

theorem moved_syncPair (s : State) (r : Run) (a b : Leaf) : Moved s (s.syncPair r a b) := by
  unfold State.syncPair
  split
  next pa pb _ _ =>
    dsimp only
    split_ifs
    · exact moved_switchOn s a r.speed
    · exact Moved.refl s
    · exact moved_switchOn s b r.speed
    · exact Moved.refl s
    · exact moved_holdLeading s a
    · exact moved_holdLeading s b
    · exact Moved.refl s
  · exact Moved.refl s

theorem moved_syncGang (s : State) (l : Leaf) : Moved s (s.syncGang l) := by
  unfold State.syncGang
  split
  · split
    · split
      · exact moved_syncPair s _ _ _
      · exact Moved.refl s
    · exact Moved.refl s
  · exact Moved.refl s

theorem moved_moved (s : State) (l : Leaf) : Moved s (s.moved l) := (moved_checkReach s l).trans (moved_syncGang _ l)

theorem moved_toTimed (s : State) (l : Leaf) : Moved s (s.toTimed l) := by
  unfold State.toTimed
  dsimp only
  split
  · exact (moved_setFeedback _ _ _ (by exact id)).trans (moved_beginPeriod _ l _)
  · exact moved_setFeedback _ _ _ (by exact id)

theorem moved_takeEdge (s : State) (l : Leaf) (line : FeedbackLine) : Moved s (s.takeEdge l line) := by
  unfold State.takeEdge
  split
  · exact Moved.refl s
  · exact moved_toTimed s l
  · dsimp only
    have hcount (d : Dir) : Moved s (s.countEdge l line d) := moved_setFeedback _ _ _ (by exact id)
    split
    · exact (hcount _).trans (moved_moved _ l)
    · exact hcount _

theorem moved_takeCutOut {s : State} {l : Leaf} {r : Run} (hr : s.runOf l = some r) : Moved s (s.takeCutOut l r) := by
  have hstatus := (runOf_eq_some_iff.1 hr).1
  unfold State.takeCutOut
  split
  · exact ((moved_meetOpen s l).trans (moved_finishMember (s := s.meetOpen l) hstatus l)).trans (moved_syncGang _ l)
  · exact (moved_cutOutClosed s l).trans (moved_toRundown (s := s.cutOutClosed l) (q := r) _ hstatus rfl)

theorem moved_composeDue (s b : State) (r : Bool) : Moved s (s.composeDue b r) := by
  rw [composeDue_eq]
  exact moved_of_eq rfl rfl rfl

theorem MotionEvent.moved {s a : State} (h : MotionEvent s a) : Moved s a := by
  cases h with
  | entersRunning l r due hr hst => exact moved_enterRunning hr
  | member l m => exact moved_setMember s l m
  | stops l r e hr hst => exact moved_toRundown (q := r) e hr rfl
  | switchInRundown l m => exact (moved_meetClosed s l).trans (moved_setMember _ l m)
  | closedEnd l r m hr hst =>
    exact (((moved_meetClosed s l).trans (moved_setMember _ l m)).trans
      (moved_finishMember (s := (s.meetClosed l).setMember l m) (runOf_eq_some_iff.1 hr).1 l)).trans (moved_syncGang _ l)
  | cutOut l r hr hst => exact moved_takeCutOut hr
  | edge l line => exact (moved_takeEdge s l line).trans (moved_composeDue _ s false)
  | watchdog l since => exact moved_setFeedback _ _ _ (by exact id)
  | feedbackLost l => exact (moved_toTimed s l).trans (moved_composeDue _ s false)
  | estimated l => exact (moved_formEstimate s l).trans (moved_moved _ l)
  | probePulse l due h => exact moved_beginPulse (by rw [h]; rfl)

/-! ### New pairs in flight -/

theorem changeSpeed_units (s : State) (r : Run) (v : Speed) : (s.changeSpeed r v).units = s.units := by
  unfold State.changeSpeed
  split
  · rfl
  · refine foldl_units (fun t l => ?_) _ s
    split <;> rfl

theorem moved_changeSpeed (s : State) (r : Run) (v : Speed) : Moved s (s.changeSpeed r v) := by
  unfold State.changeSpeed
  split
  · exact Moved.refl s
  · refine Moved.foldl (fun t l => ?_) r.members s
    split
    · exact (moved_endPeriod t l).trans (moved_beginPeriod _ l v)
    · exact Moved.refl t

theorem moved_continueRun {s : State} {u : Leaf} {r : Run} (hr : (s.units.get u).status = .inFlight r) (p : Pair) (aim : Aim)
    (replaced : Bool) : Moved s (s.continueRun u r p aim replaced) :=
  (moved_changeSpeed s r _).trans (moved_setRun (q := r) (by rw [changeSpeed_units]; exact hr) rfl)

theorem moved_resumeHeld (s : State) (r : Run) (target : Nat) : Moved s (s.resumeHeld r target) := by
  refine Moved.foldl (fun t l => ?_) r.members s
  split
  · split
    · exact moved_switchOn t l _
    · exact Moved.refl t
  · exact Moved.refl t

theorem moved_stopForPair {s : State} {u : Leaf} {r : Run} (hr : (s.units.get u).status = .inFlight r) (p : Pair) (again : Bool)
    (e : Ending) : Moved s (s.stopForPair u r p again e) := by
  unfold State.stopForPair
  dsimp only
  have hset : Moved s (s.setUnit u { s.units.get u with fireOwed := again && (s.units.get u).outOfService && p.slot.fireClass }) :=
    moved_setUnit (by exact rfl) (.refl _)
  refine hset.trans (moved_toRundown (q := r) e ?_ rfl)
  rw [State.setUnit_units, Four.get_set, if_pos rfl]
  exact hr

theorem moved_retarget {s : State} {u : Leaf} {r : Run} (hr : (s.units.get u).status = .inFlight r) (p : Pair) (target : Nat) :
    Moved s (s.retarget u r p target) := by
  unfold State.retarget
  dsimp only
  split
  · split
    · exact moved_continueRun hr p _ _
    · exact moved_stopForPair hr p _ _
  · split
    · exact ((moved_continueRun hr p _ _).trans (moved_resumeHeld _ _ _)).trans (moved_checkReaches _ _)
    · split
      · exact moved_continueRun hr p _ _
      · exact moved_stopForPair hr p _ _

theorem moved_retargetUnref {s : State} {u : Leaf} {r : Run} (hr : (s.units.get u).status = .inFlight r) (p : Pair) (target : Nat) :
    Moved s (s.retargetUnref u r p target) := by
  unfold State.retargetUnref
  split
  · exact moved_continueRun hr p _ _
  · exact moved_stopForPair hr p _ _

theorem moved_takeRunning {s : State} {u : Leaf} {r : Run} (hr : (s.units.get u).status = .inFlight r) (p : Pair) :
    Moved s (s.takeRunning u r p) := by
  unfold State.takeRunning
  split
  · exact moved_stopForPair hr p _ _
  split
  · exact moved_stopForPair hr p _ _
  split
  · exact moved_stopForPair hr p _ _
  split
  · exact moved_retarget hr p _
  · exact moved_retargetUnref hr p _
  · exact moved_retargetUnref hr p _

end Sys2Proof.Machine
end

section
/-! SUPPORT. One unit's operations: whether they move its run on, or bring it to rest; and that none of them takes a drive slot. -/

namespace Sys2Proof.Machine

/-- What an operation of unit `u` keeps: the others' tables, pairs and statuses, and that no run and no probe has begun. -/
structure MovedAt (u : Leaf) (s t : State) : Prop where
  table : ∀ v ≠ u, t.tables.get v = s.tables.get v
  pair : ∀ v ≠ u, (t.units.get v).pair = (s.units.get v).pair
  status : ∀ v ≠ u, SameFlight (s.units.get v).status (t.units.get v).status
  probe : ∀ l, (t.feedback.get l).probe.inProgress = true → (s.feedback.get l).probe.inProgress = true
  held : ∀ r, (t.units.get u).status = .inFlight r →
    ∃ q, (s.units.get u).status = .inFlight q ∧ r.members = q.members

theorem SameFlight.inFlight {a : UnitStatus} {r : Run} (h : SameFlight a (.inFlight r)) :
    ∃ q, a = .inFlight q ∧ r.members = q.members := by
  obtain h | ⟨q, r', ha, hb, hm⟩ := h
  · exact ⟨r, h.symm, rfl⟩
  · cases hb
    exact ⟨q, ha, hm⟩

theorem SameFlight.rest {b : UnitStatus} (h : SameFlight .rest b) : b = .rest := by
  obtain h | ⟨q, r, ha, -⟩ := h
  · exact h
  · cases ha

theorem Moved.at {s t : State} (h : Moved s t) (u : Leaf) : MovedAt u s t where
  table := fun v _ => by rw [h.tables]
  pair := fun v _ => h.pair v
  status := fun v _ => h.status v
  probe := h.probe
  held := fun _ hr => (hr ▸ h.status u : SameFlight _ (.inFlight _)).inFlight

theorem MovedAt.refl (u : Leaf) (s : State) : MovedAt u s s := (Moved.refl s).at u

theorem MovedAt.trans {u : Leaf} {s t w : State} (h : MovedAt u s t) (k : MovedAt u t w) : MovedAt u s w where
  table := fun v hv => (k.table v hv).trans (h.table v hv)
  pair := fun v hv => (k.pair v hv).trans (h.pair v hv)
  status := fun v hv => (h.status v hv).trans (k.status v hv)
  probe := fun l hl => h.probe l (k.probe l hl)
  held := fun r hr => by
    obtain ⟨q, hq, hm⟩ := k.held r hr
    obtain ⟨q', hq', hm'⟩ := h.held q hq
    exact ⟨q', hq', hm.trans hm'⟩

/-- An update of one unit's record whose run in flight, if any, has the members of the one before. -/
theorem movedAt_setUnit {s : State} {u : Leaf} {x : UnitRecord}
    (h : ∀ r, x.status = .inFlight r → ∃ q, (s.units.get u).status = .inFlight q ∧ r.members = q.members) :
    MovedAt u s (s.setUnit u x) where
  table := fun v _ => rfl
  pair := fun v hv => by rw [State.setUnit_units, Four.get_set, if_neg hv]
  status := fun v hv => by rw [State.setUnit_units, Four.get_set, if_neg hv]; exact .refl _
  probe := fun _ => id
  held := fun r hr => by
    rw [State.setUnit_units, Four.get_set, if_pos rfl] at hr
    exact h r hr

theorem movedAt_handRest (s : State) (u : Leaf) : MovedAt u s (s.handRest u) where
  table := fun v hv => by rw [State.handRest_tables, Four.get_set, if_neg hv]
  pair := fun v _ => rfl
  status := fun v _ => .refl _
  probe := fun _ => id
  held := fun r hr => ⟨r, hr, rfl⟩

theorem movedAt_placeAtRest (s : State) (u : Leaf) : MovedAt u s (s.placeAtRest u) :=
  (movedAt_setUnit (by rintro _ ⟨⟩)).trans (movedAt_handRest _ u)

theorem movedAt_setWaiting (s : State) (u : Leaf) (t : Nat) : MovedAt u s (s.setStatus u (.waiting t)) :=
  movedAt_setUnit (by rintro _ ⟨⟩)

theorem movedAt_withPair (s : State) (u : Leaf) (p : Pair) : MovedAt u s (s.setUnit u ((s.units.get u).withPair p)) :=
  movedAt_setUnit fun r hr => ⟨r, hr, rfl⟩

/-- A unit takes a pair: it holds it and its run goes on or stops, or it comes to rest. -/
theorem takePair_cases (s : State) (u : Leaf) (p : Pair) :
    Moved (s.setUnit u ((s.units.get u).withPair p)) (s.takePair u p) ∨
      s.takePair u p = (s.setUnit u ((s.units.get u).withPair p)).placeAtRest u := by
  unfold State.takePair
  dsimp only
  have hget : ((s.setUnit u ((s.units.get u).withPair p)).units.get u).status = ((s.units.get u).withPair p).status := by
    rw [State.setUnit_units, Four.get_set, if_pos rfl]
  generalize s.setUnit u ((s.units.get u).withPair p) = t at hget ⊢
  split
  · exact .inl (Moved.refl t)
  · split
    · exact .inl (Moved.refl t)
    · exact .inr rfl
  next r hr =>
    rw [hr] at hget
    split
    · exact .inl (Moved.refl t)
    · split
      · exact .inl (Moved.refl t)
      · unfold State.takeStarting
        dsimp only
        generalize (if (t.units.get u).outOfService then p.slot.fireClass else t.wantsRun u p) = needs
        split
        · exact .inl (moved_setUnit (by exact rfl) (.inr ⟨r, _, hget, rfl, rfl⟩))
        · exact .inr rfl
      · exact .inl (moved_takeRunning hget p)

theorem movedAt_takePair (s : State) (u : Leaf) (p : Pair) : MovedAt u s (s.takePair u p) := by
  obtain h | h := takePair_cases s u p
  · exact (movedAt_withPair s u p).trans (h.at u)
  · rw [h]
    exact (movedAt_withPair s u p).trans (movedAt_placeAtRest _ u)

theorem movedAt_handPair (s : State) (u : Leaf) : MovedAt u s (s.handPair u) := by
  unfold State.handPair
  split
  · exact movedAt_takePair s u _
  · exact MovedAt.refl u s

theorem movedAt_judge (s : State) (u : Leaf) : MovedAt u s (s.judge u) := by
  unfold State.judge
  split
  · exact movedAt_setWaiting s u _
  · exact MovedAt.refl u s

theorem movedAt_halt (s : State) (u : Leaf) : MovedAt u s (s.halt u) := by
  unfold State.halt
  split
  · exact MovedAt.refl u s
  · exact movedAt_placeAtRest s u
  next r hr =>
    have howed : Moved s (s.setUnit u (s.units.get u).oweAgain) := moved_setUnit (by exact rfl) (.refl _)
    split
    · exact (howed.at u).trans (movedAt_placeAtRest _ u)
    · refine (howed.trans (moved_toRundown (q := r) .halted ?_ rfl)).at u
      rw [State.setUnit_units, Four.get_set, if_pos rfl]
      exact hr
    · split
      · exact (moved_setRun (q := r) hr (by exact rfl)).at u
      · exact MovedAt.refl u s

theorem readyMembers_units (s : State) (ls : List Leaf) : (s.readyMembers ls).units = s.units :=
  foldl_units (f := fun t l => t.setMember l { MemberRecord.atStart with switchedOn := (t.members.get l).switchedOn })
    (fun _ _ => rfl) ls s

theorem moved_readyMembers (s : State) (ls : List Leaf) : Moved s (s.readyMembers ls) :=
  Moved.foldl (f := fun t l => t.setMember l { MemberRecord.atStart with switchedOn := (t.members.get l).switchedOn })
    (fun t l => moved_setMember t l _) ls s

theorem moved_loseEstimates (s : State) (r : Run) (f : RunFault) : Moved s (s.loseEstimates r f) := by
  unfold State.loseEstimates
  split
  · refine Moved.foldl (fun t l => ?_) r.members s
    split
    · exact moved_setFeedback t l _ (by exact id)
    · exact Moved.refl t
  · exact Moved.refl s

theorem movedAt_beginBackoff {s : State} {u : Leaf} {r : Run} (hr : (s.units.get u).status = .inFlight r) :
    MovedAt u s (s.beginBackoff u r) :=
  (movedAt_setUnit (by rintro _ ⟨⟩; exact ⟨r, hr, rfl⟩)).trans ((moved_readyMembers _ _).at u)

theorem movedAt_endRun {s : State} {u : Leaf} {r : Run} (hr : (s.units.get u).status = .inFlight r) (e : Ending) :
    MovedAt u s (s.endRun u r e) := by
  have hset : MovedAt u s (s.setUnit u { s.units.get u with reversal := some (r.direction, s.now + reversalPause) }) :=
    movedAt_setUnit fun q hq => ⟨q, hq, rfl⟩
  have hheld : ((s.setUnit u { s.units.get u with reversal := some (r.direction, s.now + reversalPause) }).units.get u).status =
      .inFlight r := by
    rw [State.setUnit_units, Four.get_set, if_pos rfl]
    exact hr
  unfold State.endRun
  dsimp only
  split
  · exact (hset.trans (movedAt_setUnit fun q hq => ⟨r, hheld, by cases hr.symm.trans hq; rfl⟩)).trans (movedAt_placeAtRest _ u)
  · refine ((hset.trans (movedAt_setUnit fun q hq => ⟨r, hheld, ?_⟩)).trans ((moved_loseEstimates _ r _).at u)).trans
      (movedAt_placeAtRest _ u)
    cases hr.symm.trans hq
    rfl
  · split
    · exact hset.trans (movedAt_beginBackoff hheld)
    · exact hset.trans (movedAt_placeAtRest _ u)
  · split
    · exact hset.trans (movedAt_setWaiting _ u _)
    · exact hset.trans (movedAt_placeAtRest _ u)
  · exact hset.trans (movedAt_placeAtRest _ u)

theorem movedAt_preempt {s : State} {u : Leaf} {r : Run} (hr : (s.units.get u).status = .inFlight r) :
    MovedAt u s (s.preempt u r) := by
  unfold State.preempt
  split
  · exact (moved_toRundown (q := r) _ hr rfl).at u
  · split
    · exact movedAt_setWaiting s u _
    · exact ((movedAt_placeAtRest s u).trans (movedAt_handPair _ u)).trans (movedAt_judge _ u)

theorem movedAt_referenceUnit (s : State) (u : Leaf) : MovedAt u s (s.referenceUnit u) := by
  unfold State.referenceUnit
  have hset : MovedAt u s (s.setUnit u { s.units.get u with
      failureCount := 0, lastRunFailed := false, retryHold := none, fireOwed := false, referenceOwed := true }) :=
    movedAt_setUnit fun q hq => ⟨q, hq, rfl⟩
  have hreferenced (t : State) (l : Leaf) : Moved t (t.setFeedback l (t.feedback.get l).referenced) :=
    moved_setFeedback t l _ (by exact nofun)
  refine (hset.trans ((Moved.foldl hreferenced (s.cfg.membersOf u) _).at u)).trans ?_
  exact ⟨fun v hv => by rw [State.setTable_tables, Four.get_set, if_neg hv], fun _ _ => rfl, fun _ _ => .refl _, fun _ => id,
    fun q hq => ⟨q, hq, rfl⟩⟩

/-! ### No slot taken -/

/-- No run is in flight and no probe in progress that was not, and each run has its members. -/
structure HoldsNoMore (s t : State) : Prop where
  run : ∀ u r, (t.units.get u).status = .inFlight r → ∃ q, (s.units.get u).status = .inFlight q ∧ r.members = q.members
  probe : ∀ l, (t.feedback.get l).probe.inProgress = true → (s.feedback.get l).probe.inProgress = true

theorem HoldsNoMore.refl (s : State) : HoldsNoMore s s := ⟨fun _ r hr => ⟨r, hr, rfl⟩, fun _ => id⟩

theorem HoldsNoMore.trans {s t w : State} (h : HoldsNoMore s t) (k : HoldsNoMore t w) : HoldsNoMore s w where
  run := fun u r hr => by
    obtain ⟨q, hq, hm⟩ := k.run u r hr
    obtain ⟨q', hq', hm'⟩ := h.run u q hq
    exact ⟨q', hq', hm.trans hm'⟩
  probe := fun l hl => h.probe l (k.probe l hl)

theorem HoldsNoMore.foldl {α : Type} {f : State → α → State} (hf : ∀ s a, HoldsNoMore s (f s a)) (l : List α) (s : State) :
    HoldsNoMore s (l.foldl f s) := by
  induction l generalizing s with
  | nil => exact HoldsNoMore.refl s
  | cons a l ih => exact (hf s a).trans (ih (f s a))

theorem holdsNoMore_of_eq {s t : State} (hunits : t.units = s.units) (hfeedback : t.feedback = s.feedback) : HoldsNoMore s t :=
  ⟨fun _ r hr => ⟨r, hunits ▸ hr, rfl⟩, fun _ hl => hfeedback ▸ hl⟩

theorem MovedAt.holdsNoMore {u : Leaf} {s t : State} (h : MovedAt u s t) : HoldsNoMore s t where
  run := fun v r hr => by
    by_cases hv : v = u
    · subst hv
      exact h.held r hr
    · exact (hr ▸ h.status v hv : SameFlight _ (.inFlight r)).inFlight
  probe := h.probe

theorem Moved.holdsNoMore {s t : State} (h : Moved s t) : HoldsNoMore s t := (h.at .n1).holdsNoMore

theorem holdsNoMore_haltAll (s : State) : HoldsNoMore s s.haltAll := HoldsNoMore.foldl (fun t u => (movedAt_halt t u).holdsNoMore) _ s

theorem moved_stopProbes (s : State) : Moved s s.stopProbes := Moved.foldl moved_stopProbe _ s

theorem holdsNoMore_haltBelowFire (s : State) : HoldsNoMore s s.haltBelowFire := by
  refine HoldsNoMore.foldl (fun t u => ?_) _ s
  split
  · exact HoldsNoMore.refl t
  · exact (movedAt_halt t u).holdsNoMore

theorem holdsNoMore_handPairs (s : State) : HoldsNoMore s s.handPairs :=
  HoldsNoMore.foldl (fun t u => (movedAt_handPair t u).holdsNoMore) _ s

theorem holdsNoMore_judgeAll (s : State) : HoldsNoMore s s.judgeAll :=
  HoldsNoMore.foldl (fun t u => (movedAt_judge t u).holdsNoMore) _ s

theorem holdsNoMore_finishProbe (s : State) (l : Leaf) (p : Presence) : HoldsNoMore s (s.finishProbe l p) := by
  have hend := (moved_endPulse s l p).holdsNoMore
  unfold State.finishProbe
  dsimp only
  split
  · exact hend.trans (movedAt_handRest _ _).holdsNoMore
  · exact hend

/-! ### The slots held -/

theorem Four.sum_map_eq {α : Type} (f : α → Nat) (v : Four α) :
    (v.toList.map f).sum = f (v.get .n1) + f (v.get .n2) + f (v.get .n3) + f (v.get .n4) := by
  simp only [Four.toList, Four.get, List.map_cons, List.map_nil, List.sum_cons, List.sum_nil]
  omega

theorem Four.sum_map_le {α : Type} {f : α → Nat} {v w : Four α} (h : ∀ i, f (w.get i) ≤ f (v.get i)) :
    (w.toList.map f).sum ≤ (v.toList.map f).sum := by
  have h1 := h .n1
  have h2 := h .n2
  have h3 := h .n3
  have h4 := h .n4
  rw [Four.sum_map_eq, Four.sum_map_eq]
  omega

theorem Four.sum_map_set {α : Type} (f : α → Nat) (v : Four α) (i : N4) (x : α) :
    ((v.set i x).toList.map f).sum + f (v.get i) = (v.toList.map f).sum + f x := by
  rw [Four.sum_map_eq, Four.sum_map_eq]
  cases i <;> simp only [Four.set, Four.get] <;> omega

theorem UnitRecord.slotsHeld_of_inFlight {x : UnitRecord} {r : Run} (h : x.status = .inFlight r) :
    x.slotsHeld = r.members.length := by
  unfold UnitRecord.slotsHeld
  rw [h]

theorem UnitRecord.slotsHeld_of_not_inFlight {x : UnitRecord} (h : ∀ r, x.status ≠ .inFlight r) : x.slotsHeld = 0 := by
  unfold UnitRecord.slotsHeld
  split
  next r hr => exact absurd hr (h r)
  next => rfl
  next => rfl

theorem HoldsNoMore.slotsHeld_le {s t : State} (h : HoldsNoMore s t) : t.slotsHeld ≤ s.slotsHeld := by
  refine Nat.add_le_add (Four.sum_map_le fun u => ?_) (Four.sum_map_le fun l => ?_)
  · by_cases hr : ∃ r, (t.units.get u).status = .inFlight r
    · obtain ⟨r, hr⟩ := hr
      obtain ⟨q, hq, hm⟩ := h.run u r hr
      rw [UnitRecord.slotsHeld_of_inFlight hr, UnitRecord.slotsHeld_of_inFlight hq, hm]
    · rw [UnitRecord.slotsHeld_of_not_inFlight fun r hr' => hr ⟨r, hr'⟩]
      exact Nat.zero_le _
  · unfold FeedbackRecord.probeSlots
    split
    next hl => rw [if_pos (h.probe l hl)]
    next => exact Nat.zero_le _

/-- The laws of the slots: three at most, and each run's members are its unit's. -/
structure SlotsLawful (s : State) : Prop where
  slots : s.slotsHeld ≤ 3
  members : ∀ u r, (s.units.get u).status = .inFlight r → ∀ m ∈ r.members, s.cfg.leader m = u

theorem HoldsNoMore.slotsLawful {s t : State} (h : HoldsNoMore s t) (hcfg : t.cfg = s.cfg) (hs : SlotsLawful s) :
    SlotsLawful t where
  slots := h.slotsHeld_le.trans hs.slots
  members := fun u r hr m hm => by
    obtain ⟨q, hq, hmem⟩ := h.run u r hr
    rw [hcfg]
    exact hs.members u q hq m (hmem ▸ hm)

theorem grantProbe_slotsHeld_le (s : State) (l : Leaf) : (s.grantProbe l).slotsHeld ≤ s.slotsHeld + 1 := by
  have h := Four.sum_map_set FeedbackRecord.probeSlots s.feedback l { s.feedback.get l with probe := .settle (s.now + probePhase) }
  have hone : FeedbackRecord.probeSlots { s.feedback.get l with probe := .settle (s.now + probePhase) } = 1 := rfl
  rw [hone] at h
  unfold State.slotsHeld State.grantProbe
  rw [State.setFeedback_feedback, State.setFeedback_units]
  omega

/-! ### The start queue -/

theorem mem_insertEntry_iff {s : State} {u v : Leaf} {q : List Leaf} : v ∈ s.insertEntry u q ↔ v = u ∨ v ∈ q := by
  induction q with
  | nil => simp [State.insertEntry]
  | cons w q ih =>
    unfold State.insertEntry
    split
    · simp
    · simp only [List.mem_cons, ih]
      tauto

theorem mem_foldr_insertEntry_iff {s : State} {v : Leaf} {ls : List Leaf} :
    v ∈ ls.foldr (fun u q => s.insertEntry u q) [] ↔ v ∈ ls := by
  induction ls with
  | nil => exact Iff.rfl
  | cons w ls ih => rw [List.foldr_cons, mem_insertEntry_iff, ih, List.mem_cons]

theorem UnitRecord.entryTime?_eq_some_iff {x : UnitRecord} {t : Nat} : x.entryTime? = some t ↔ x.status = .waiting t := by
  unfold UnitRecord.entryTime?
  split
  next h => rw [h]; simp
  next h => rw [h]; simp
  next h => rw [h]; simp

/-- The start queue holds the units waiting (R133). -/
theorem mem_startQueue_iff {s : State} {u : Leaf} :
    u ∈ s.startQueue ↔ s.cfg.isUnit u = true ∧ ∃ t, (s.units.get u).status = .waiting t := by
  unfold State.startQueue
  rw [mem_foldr_insertEntry_iff, List.mem_filter, Bool.and_eq_true, Option.isSome_iff_exists]
  simp only [N4.mem_all, true_and, UnitRecord.entryTime?_eq_some_iff]

/-! ### A run started -/

theorem Settings.leader_eq_of_isUnit {c : Settings} {u m : Leaf} (hu : c.isUnit u = true) (hm : m ∈ c.membersOf u) :
    c.leader m = u := by
  unfold Settings.isUnit at hu
  unfold Settings.membersOf at hm
  obtain ⟨-, hlead⟩ := Bool.and_eq_true_iff.1 hu
  have hlead : c.leader u = u := of_decide_eq_true hlead
  split at hm
  next hg =>
    obtain rfl | hm := List.mem_cons.1 hm
    · exact hlead
    · rw [List.mem_singleton.1 hm]
      revert hlead hg
      unfold Settings.leader
      cases u <;> simp [partner, pairLeader, Settings.ganged] <;> intros <;> simp_all
  next => rw [List.mem_singleton.1 hm]; exact hlead

theorem mem_presentMembers {s : State} {u m : Leaf} (h : m ∈ s.presentMembers u) : m ∈ s.cfg.membersOf u :=
  (List.mem_filter.1 h).1

/-- What a start of a waiting unit's run keeps, and what it takes. -/
theorem startUnit_eq (s : State) (u : Leaf) : ∃ r : Run, r.members = s.presentMembers u ∧ (s.startUnit u).units = s.units.set u
    { s.units.get u with
      status := .inFlight r
      lastDirection := some r.direction
      lastRunFailed := false
      fireOwed := false
      referenceOwed := false } :=
  ⟨(if (s.units.get u).referenceOwed then referenceAim else s.aimAt u ((s.units.get u).pair.target.getD 0)).run
      (s.units.get u).pair.slot (s.presentMembers u) s.now, rfl, readyMembers_units _ _⟩

theorem readyMembers_feedback (s : State) (ls : List Leaf) : (s.readyMembers ls).feedback = s.feedback := by
  unfold State.readyMembers
  induction ls generalizing s with
  | nil => rfl
  | cons l ls ih => exact ih _

theorem readyMembers_tables (s : State) (ls : List Leaf) : (s.readyMembers ls).tables = s.tables := by
  unfold State.readyMembers
  induction ls generalizing s with
  | nil => rfl
  | cons l ls ih => exact ih _

theorem startUnit_feedback (s : State) (u : Leaf) : (s.startUnit u).feedback = s.feedback := readyMembers_feedback _ _

theorem startUnit_tables (s : State) (u : Leaf) : (s.startUnit u).tables = s.tables := readyMembers_tables _ _

theorem startUnit_slotsHeld {s : State} {u : Leaf} (h : ∀ r, (s.units.get u).status ≠ .inFlight r) :
    (s.startUnit u).slotsHeld = s.slotsHeld + s.slotsNeeded u := by
  obtain ⟨r, hr, hunits⟩ := startUnit_eq s u
  have hsum := Four.sum_map_set UnitRecord.slotsHeld s.units u
    { s.units.get u with
      status := .inFlight r, lastDirection := some r.direction, lastRunFailed := false, fireOwed := false, referenceOwed := false }
  rw [UnitRecord.slotsHeld_of_not_inFlight h, UnitRecord.slotsHeld_of_inFlight (r := r) rfl, hr, ← hunits] at hsum
  unfold State.slotsHeld State.slotsNeeded
  rw [startUnit_feedback]
  omega

/-! ### Serving -/

theorem preemptCandidate_inFlight {s : State} {c : Leaf × Run} (h : s.preemptCandidate = some c) :
    (s.units.get c.1).status = .inFlight c.2 := by
  have hstopped (x : Leaf × Run) (xs : List (Leaf × Run)) : xs.foldl stoppedFirst x = x ∨ xs.foldl stoppedFirst x ∈ xs := by
    induction xs generalizing x with
    | nil => exact .inl rfl
    | cons y ys ih =>
      have hone : stoppedFirst x y = x ∨ stoppedFirst x y = y := by
        unfold stoppedFirst
        split
        · exact .inl rfl
        · exact .inr rfl
      rw [List.foldl_cons, List.mem_cons]
      obtain h | h := ih (stoppedFirst x y)
      · rw [h]
        exact hone.imp_right .inl
      · exact .inr (.inr h)
  unfold State.preemptCandidate at h
  split at h
  next => cases h
  next x xs hlist =>
    have hmem : c ∈ x :: xs := by
      rw [← Option.some.inj h]
      obtain h | h := hstopped x xs
      · rw [h]
        exact List.mem_cons_self
      · exact List.mem_cons_of_mem _ h
    rw [← hlist] at hmem
    obtain ⟨u, -, hu⟩ := List.mem_filterMap.1 hmem
    obtain ⟨r, hr, rfl⟩ := Option.map_eq_some_iff.1 hu
    obtain ⟨q, hq, hif⟩ := Option.bind_eq_some_iff.1 hr
    split at hif
    · cases hif
      exact UnitRecord.run?_eq_some_iff.1 hq
    · cases hif

/-- Everything one step of serving can do, and why. -/
theorem serveStep_takes {s t : State} (h : s.serveStep = some t) :
    (∃ l, 1 ≤ s.freeSlots ∧ t = s.grantProbe l) ∨
      (∃ u, u ∈ s.startQueue ∧ (s.slotsNeeded u : Int) ≤ s.freeSlots ∧ t = s.startUnit u) ∨
      ∃ u r, (s.units.get u).status = .inFlight r ∧ t = s.preempt u r := by
  unfold State.serveStep at h
  split at h
  next l _ hfree => exact .inl ⟨l, of_decide_eq_true hfree, (Option.some.inj h).symm⟩
  · split at h
    · cases h
    next u hu =>
      have hqueue := List.mem_of_find?_eq_some hu
      dsimp only at h
      split at h
      next hneed =>
        split at h
        · exact .inr (.inl ⟨u, hqueue, hneed, (Option.some.inj h).symm⟩)
        · cases h
      · split at h
        · obtain ⟨c, hc, rfl⟩ := Option.map_eq_some_iff.1 h
          exact .inr (.inr ⟨c.1, c.2, preemptCandidate_inFlight hc, rfl⟩)
        · cases h

theorem slotsLawful_serveStep {s t : State} (hs : SlotsLawful s) (h : s.serveStep = some t) : SlotsLawful t := by
  have hcfg : t.cfg = s.cfg := (driven_serveStep h).sameStation.cfg
  have hcount : s.supply.slotCount ≤ 3 := by
    unfold Supply.slotCount
    split <;> decide
  obtain ⟨l, hfree, rfl⟩ | ⟨u, hqueue, hneed, rfl⟩ | ⟨u, r, hr, rfl⟩ := serveStep_takes h
  · refine ⟨?_, fun u r hr => hs.members u r hr⟩
    have hle := grantProbe_slotsHeld_le s l
    unfold State.freeSlots at hfree
    omega
  · obtain ⟨hunit, since, hwaiting⟩ := mem_startQueue_iff.1 hqueue
    refine ⟨?_, fun v q hq m hm => ?_⟩
    · rw [startUnit_slotsHeld fun r hr => by rw [hwaiting] at hr; cases hr]
      unfold State.freeSlots at hneed
      omega
    · obtain ⟨r, hr, hunits⟩ := startUnit_eq s u
      rw [hcfg]
      rw [hunits, Four.get_set] at hq
      split at hq
      next hv =>
        cases hq
        rw [hr] at hm
        exact (Settings.leader_eq_of_isUnit hunit (mem_presentMembers hm)).trans hv.symm
      next => exact hs.members v q hq m hm
  · exact (movedAt_preempt hr).holdsNoMore.slotsLawful hcfg hs

theorem slotsLawful_serve {s : State} (hs : SlotsLawful s) : SlotsLawful s.serve := by
  have hloop (n : Nat) : ∀ s : State, SlotsLawful s → SlotsLawful (State.serveLoop n s) := by
    induction n with
    | zero => exact fun _ => id
    | succ n ih =>
      intro s hs
      unfold State.serveLoop
      split
      next t ht => exact ih t (slotsLawful_serveStep hs ht)
      next => exact hs
  unfold State.serve
  split
  · exact hloop 16 s hs
  · exact hs

theorem slotsLawful_drive {s : State} (hs : SlotsLawful s) : SlotsLawful s.drive := by
  refine slotsLawful_serve ?_
  refine HoldsNoMore.slotsLawful (s := s) ?_ ?_ hs
  · exact ((holdsNoMore_handPairs s).trans (holdsNoMore_handPairs _)).trans (holdsNoMore_judgeAll _)
  · exact (((driven_handPairs s).trans (driven_handPairs _)).trans (driven_judgeAll _)).sameStation.cfg

theorem reform_units (s : State) : s.reform.units = s.units := by
  have h := congrArg State.units (reformed_reform s).weather
  exact h

theorem reform_feedback (s : State) : s.reform.feedback = s.feedback := by
  have h := congrArg State.feedback (reformed_reform s).weather
  exact h

theorem reform_cfg (s : State) : s.reform.cfg = s.cfg := by
  have h := congrArg State.cfg (reformed_reform s).weather
  exact h

theorem slotsLawful_close {s : State} (hs : SlotsLawful s) (b : State) (r : Bool) : SlotsLawful (s.close b r) := by
  unfold State.close
  split
  · have hreform := (holdsNoMore_of_eq (reform_units s) (reform_feedback s)).slotsLawful (reform_cfg s) hs
    exact (moved_composeDue _ b r).holdsNoMore.slotsLawful (sameStation_composeDue _ b r).cfg (slotsLawful_drive hreform)
  · exact hs

end Sys2Proof.Machine
end

section
/-! SUPPORT. The pair each unit holds is its table's result: kept by what the line, the samples and the motions do, and set up
again by the end of every event. -/

namespace Sys2Proof.Machine

/-- The weather unit but for the anemometer window that is being counted. -/
def Weather.uncounted (w : Weather) : Weather := { w with windowCount := 0, windowOpen := false }

/-- What the demand tables and the governing wind are formed from, but for the tables themselves. -/
structure SameInputs (s t : State) : Prop where
  phase : t.phase = s.phase
  cfg : t.cfg = s.cfg
  ownAddress : t.line.ownAddress = s.line.ownAddress
  peers : t.peers.records = s.peers.records
  zones : t.zones = s.zones
  weather : t.weather.uncounted = s.weather.uncounted
  key : t.detection.key.held = s.detection.key.held
  heldStep : t.detection.heldStep = s.detection.heldStep

theorem SameInputs.refl (s : State) : SameInputs s s := ⟨rfl, rfl, rfl, rfl, rfl, rfl, rfl, rfl⟩

theorem SameInputs.trans {s t u : State} (h : SameInputs s t) (k : SameInputs t u) : SameInputs s u where
  phase := k.phase.trans h.phase
  cfg := k.cfg.trans h.cfg
  ownAddress := k.ownAddress.trans h.ownAddress
  peers := k.peers.trans h.peers
  zones := k.zones.trans h.zones
  weather := k.weather.trans h.weather
  key := k.key.trans h.key
  heldStep := k.heldStep.trans h.heldStep

theorem Driven.sameInputs {s t : State} (h : Driven s t) : SameInputs s t where
  phase := h.phase
  cfg := congrArg SettingsStore.inForce h.store
  ownAddress := congrArg LineInterface.ownAddress h.line
  peers := congrArg PeerTable.records h.peers
  zones := h.zones
  weather := congrArg Weather.uncounted h.weather
  key := by rw [h.detection]
  heldStep := by rw [h.detection]

theorem sameInputs_composeDue (s b : State) (r : Bool) : SameInputs s (s.composeDue b r) := by
  rw [composeDue_eq]
  exact ⟨rfl, rfl, rfl, rfl, rfl, rfl, rfl, rfl⟩

theorem MotionEvent.sameInputs {s a : State} (h : MotionEvent s a) : SameInputs s a :=
  h.related (R := SameInputs) SameInputs.trans Driven.sameInputs (fun _ _ _ => ⟨rfl, rfl, rfl, rfl, rfl, rfl, rfl, rfl⟩)
    sameInputs_composeDue

theorem SameInputs.fresh {s t : State} (h : SameInputs s t) : t.peers.fresh = s.peers.fresh := by
  unfold PeerTable.fresh
  rw [h.peers]

theorem SameInputs.resolution {s t : State} (h : SameInputs s t) : t.resolution = s.resolution := by
  simp only [State.resolution, State.overrideCandidates, State.peerOverrides, h.fresh, h.zones, h.cfg, h.ownAddress]

/-- A part of the weather unit that is not counted. -/
theorem SameInputs.weatherPart {s t : State} (h : SameInputs s t) {α : Type} (f : Weather → α)
    (hf : ∀ w, f w = f w.uncounted) : f t.weather = f s.weather := by rw [hf, h.weather, ← hf]

theorem SameInputs.candidateSet {s t : State} (h : SameInputs s t) : t.candidateSet = s.candidateSet := by
  have hown : t.ownWeather = s.ownWeather := by
    unfold State.ownWeather
    rw [h.cfg, h.weatherPart Weather.anemoFault fun _ => rfl, h.weatherPart Weather.vaneFault fun _ => rfl,
      h.weatherPart Weather.speedWindow fun _ => rfl, h.weatherPart Weather.sectorWindow fun _ => rfl,
      h.weatherPart Weather.rainState fun _ => rfl]
  have hprimary : t.primaryCandidates = s.primaryCandidates := by
    unfold State.primaryCandidates State.ownCandidates
    rw [hown, h.ownAddress, h.fresh]
  have hfallback : t.fallbackCandidates = s.fallbackCandidates := by
    unfold State.fallbackCandidates
    rw [h.fresh]
  unfold State.candidateSet
  rw [hprimary, hfallback]

theorem SameInputs.weatherFormed {s t : State} (h : SameInputs s t) (k : WeatherFormed s) : WeatherFormed t := by
  unfold WeatherFormed
  rw [h.candidateSet, h.weatherPart Weather.governing fun _ => rfl, h.weatherPart Weather.basis fun _ => rfl,
    h.weatherPart Weather.governingRain fun _ => rfl]
  exact k

theorem SameInputs.stationKey {s t : State} (h : SameInputs s t) : t.key = s.key := by
  unfold State.key
  rw [h.key]

theorem SameInputs.fire {s t : State} (h : SameInputs s t) : t.fire = s.fire := by
  unfold State.fire
  rw [h.cfg, h.zones]

/-- A table's result depends on its inputs and on the table. -/
theorem SameInputs.resultOf {s t : State} (h : SameInputs s t) {u : Leaf} (htable : t.tables.get u = s.tables.get u) :
    t.resultOf u = s.resultOf u := by
  have hcomfort : t.comfortSlot = s.comfortSlot := by
    unfold State.comfortSlot PeerTable.comfortOf PeerTable.find?
    rw [h.cfg, h.ownAddress, h.heldStep, h.peers]
  unfold State.resultOf State.slotsOf
  rw [htable, hcomfort, h.fire, h.stationKey, h.cfg, h.zones, h.weatherPart Weather.stormActive fun _ => rfl,
    h.weatherPart Weather.governingRain fun _ => rfl, h.weatherPart Weather.sides fun _ => rfl]

/-- The unit holds its table's result (R123). -/
def State.Paired (s : State) (u : Leaf) : Prop := s.cfg.isUnit u = true → (s.units.get u).pair = s.resultOf u

theorem SameInputs.paired {s t : State} (h : SameInputs s t) {u : Leaf} (htable : t.tables.get u = s.tables.get u)
    (hpair : (t.units.get u).pair = (s.units.get u).pair) (hs : s.Paired u) : t.Paired u := by
  intro hu
  rw [hpair, h.resultOf htable]
  exact hs (h.cfg ▸ hu)

theorem Moved.paired {s t : State} (h : Moved s t) (hinputs : SameInputs s t) {u : Leaf} (hs : s.Paired u) : t.Paired u :=
  hinputs.paired (by rw [h.tables]) (h.pair u) hs

/-- The unit holds its table's result, or stands at rest: then it takes a pair without moving. -/
def State.PairedOrRest (s : State) (u : Leaf) : Prop := s.Paired u ∨ (s.units.get u).status = .rest

theorem MovedAt.paired {u : Leaf} {s t : State} (h : MovedAt u s t) (hd : Driven s t) {v : Leaf} (hv : v ≠ u)
    (hs : s.Paired v) : t.Paired v := hd.sameInputs.paired (h.table v hv) (h.pair v hv) hs

theorem MovedAt.pairedOrRest {u : Leaf} {s t : State} (h : MovedAt u s t) (hd : Driven s t) {v : Leaf} (hv : v ≠ u)
    (hs : s.PairedOrRest v) : t.PairedOrRest v := by
  obtain hs | hs := hs
  · exact .inl (h.paired hd hv hs)
  · exact .inr (hs ▸ h.status v hv : SameFlight .rest _).rest

theorem placeAtRest_status (s : State) (u : Leaf) : ((s.placeAtRest u).units.get u).status = .rest := by
  show ((s.setStatus u .rest).units.get u).status = _
  rw [State.setStatus, State.setUnit_units, Four.get_set, if_pos rfl]

/-- A unit that has evaluated its table holds the result, or has come to rest by it. -/
theorem handPair_pairedOrRest (s : State) (u : Leaf) : (s.handPair u).PairedOrRest u := by
  unfold State.handPair
  split
  next hne =>
    have hset : (s.setUnit u ((s.units.get u).withPair (s.resultOf u))).Paired u := by
      intro _
      rw [State.setUnit_units, Four.get_set, if_pos rfl]
      exact ((driven_setUnit s u _).sameInputs.resultOf rfl).symm
    obtain h | h := takePair_cases s u (s.resultOf u)
    · refine .inl (h.paired ?_ hset)
      obtain ⟨hphase, hcfg, hown, hpeers, hzones, hweather, hkey, hheld⟩ := (driven_takePair s u (s.resultOf u)).sameInputs
      exact ⟨hphase, hcfg, hown, hpeers, hzones, hweather, hkey, hheld⟩
    · rw [h]
      exact .inr (placeAtRest_status _ u)
  next heq =>
    refine .inl fun hu => ?_
    rw [hu, Bool.true_and, decide_eq_true_iff, not_not] at heq
    exact heq.symm

/-- A unit at rest takes a pair as it stands. -/
theorem takePair_of_rest {s : State} {u : Leaf} (h : (s.units.get u).status = .rest) (p : Pair) :
    s.takePair u p = s.setUnit u ((s.units.get u).withPair p) := by
  unfold State.takePair UnitRecord.withPair
  dsimp only
  rw [h]

theorem handPair_paired {s : State} {u : Leaf} (h : s.PairedOrRest u) : (s.handPair u).Paired u := by
  unfold State.handPair
  split
  next hne =>
    obtain ⟨hu, hne⟩ := Bool.and_eq_true_iff.1 hne
    have hrest : (s.units.get u).status = .rest := h.resolve_left fun hp => of_decide_eq_true hne (hp hu).symm
    rw [takePair_of_rest hrest]
    intro _
    rw [State.setUnit_units, Four.get_set, if_pos rfl]
    exact ((driven_setUnit s u _).sameInputs.resultOf rfl).symm
  next heq =>
    intro hu
    rw [hu, Bool.true_and, decide_eq_true_iff, not_not] at heq
    exact heq.symm

/-- A pass over the units sets up a law of one unit where its own turn does and the others' turns keep it. -/
theorem foldl_establishes {P : State → Leaf → Prop} {f : State → Leaf → State} (own : ∀ s u, P (f s u) u)
    (other : ∀ s u v, v ≠ u → P s v → P (f s u) v) {ls : List Leaf} {v : Leaf} (hv : v ∈ ls) (s : State) :
    P (ls.foldl f s) v := by
  have hkeep (ls : List Leaf) : ∀ s, P s v → P (ls.foldl f s) v := by
    induction ls with
    | nil => exact fun _ => id
    | cons u ls ih =>
      intro s hs
      refine ih _ ?_
      by_cases h : v = u
      · exact h ▸ own s v
      · exact other s u v h hs
  induction ls generalizing s with
  | nil => cases hv
  | cons u ls ih =>
    obtain rfl | hv := List.mem_cons.1 hv
    · exact hkeep ls _ (own s v)
    · exact ih hv _

theorem handPairs_pairedOrRest (s : State) (u : Leaf) : s.handPairs.PairedOrRest u :=
  foldl_establishes (P := State.PairedOrRest) handPair_pairedOrRest
    (fun s v _ hu hs => (movedAt_handPair s v).pairedOrRest (driven_handPair s v) hu hs) (N4.mem_all u) s

theorem handPairs_paired {s : State} (h : ∀ u, s.PairedOrRest u) (u : Leaf) : s.handPairs.Paired u := by
  have hpass (ls : List Leaf) : ∀ s : State, (∀ v, s.PairedOrRest v) → (s.Paired u ∨ u ∈ ls) → (ls.foldl State.handPair s).Paired u := by
    induction ls with
    | nil => exact fun s _ hu => hu.resolve_right List.not_mem_nil
    | cons v ls ih =>
      intro s hs hu
      refine ih _ (fun w => ?_) ?_
      · by_cases hw : w = v
        · exact hw ▸ .inl (handPair_paired (hs w))
        · exact (movedAt_handPair s v).pairedOrRest (driven_handPair s v) hw (hs w)
      · by_cases huv : u = v
        · exact .inl (huv ▸ handPair_paired (hs u))
        · exact hu.imp ((movedAt_handPair s v).paired (driven_handPair s v) huv) fun h => (List.mem_cons.1 h).resolve_left huv
  exact hpass N4.all s h (.inr (N4.mem_all u))

/-! ### Judging and serving -/

theorem judge_paired {s : State} {u v : Leaf} (h : s.Paired v) : (s.judge u).Paired v := by
  by_cases hv : v = u
  · unfold State.judge
    split
    · refine (driven_setStatus s u _).sameInputs.paired rfl ?_ h
      show ((s.setUnit u _).units.get v).pair = _
      rw [State.setUnit_units, Four.get_set, if_pos hv, hv]
    · exact h
  · exact (movedAt_judge s u).paired (driven_judge s u) hv h

theorem judgeAll_paired {s : State} (h : ∀ u, s.Paired u) (u : Leaf) : s.judgeAll.Paired u := by
  unfold State.judgeAll
  generalize N4.all = ls
  induction ls generalizing s with
  | nil => exact h u
  | cons v ls ih => exact ih fun w => judge_paired (h w)

theorem startUnit_paired {s : State} (u : Leaf) {v : Leaf} (h : s.Paired v) : (s.startUnit u).Paired v := by
  refine (driven_startUnit s u).sameInputs.paired (by rw [startUnit_tables]) ?_ h
  obtain ⟨r, -, hunits⟩ := startUnit_eq s u
  rw [hunits, Four.get_set]
  split
  next hv => rw [hv]
  next => rfl

theorem preempt_paired {s : State} {u : Leaf} {r : Run} (hr : (s.units.get u).status = .inFlight r) {v : Leaf} (h : s.Paired v) :
    (s.preempt u r).Paired v := by
  by_cases hv : v = u
  · subst hv
    unfold State.preempt
    split
    · exact (moved_toRundown (q := r) _ hr rfl).paired (driven_toRundown s v r _).sameInputs h
    · split
      · refine (driven_setStatus s v _).sameInputs.paired rfl ?_ h
        show ((s.setUnit v _).units.get v).pair = _
        rw [State.setUnit_units, Four.get_set, if_pos rfl]
      · exact judge_paired (handPair_paired (.inr (placeAtRest_status s v)))
  · exact (movedAt_preempt hr).paired (driven_preempt s u r) hv h

theorem serve_paired {s : State} (h : ∀ u, s.Paired u) (u : Leaf) : s.serve.Paired u := by
  have hstep {s t : State} (h : ∀ u, s.Paired u) (ht : s.serveStep = some t) : ∀ u, t.Paired u := by
    intro v
    obtain ⟨l, -, rfl⟩ | ⟨w, -, -, rfl⟩ | ⟨w, r, hr, rfl⟩ := serveStep_takes ht
    · exact (driven_grantProbe s l).sameInputs.paired rfl rfl (h v)
    · exact startUnit_paired w (h v)
    · exact preempt_paired hr (h v)
  have hloop (n : Nat) : ∀ s : State, (∀ u, s.Paired u) → ∀ u, (State.serveLoop n s).Paired u := by
    induction n with
    | zero => exact fun _ => id
    | succ n ih =>
      intro s hs
      unfold State.serveLoop
      split
      next t ht => exact ih t (hstep hs ht)
      next => exact hs
  unfold State.serve
  split
  · exact hloop 16 s h u
  · exact h u

/-- At the end of every event each unit holds its table's result (R123). -/
theorem drive_paired (s : State) (u : Leaf) : s.drive.Paired u :=
  serve_paired (judgeAll_paired (handPairs_paired (handPairs_pairedOrRest s))) u

/-! ### The laws that an event's end sets up -/

/-- What the end of an event leaves while the station runs: wind and rain, the brigade result and the pairs. -/
structure Ended (s : State) : Prop where
  weather : WeatherFormed s
  brigade : s.zones.brigade = s.resolution
  pairs : ∀ u, s.Paired u

theorem Ended.congr {s t : State} (h : Ended s) (hinputs : SameInputs s t) (htables : t.tables = s.tables)
    (hpair : ∀ u, (t.units.get u).pair = (s.units.get u).pair) : Ended t where
  weather := hinputs.weatherFormed h.weather
  brigade := by rw [hinputs.zones, h.brigade, hinputs.resolution]
  pairs := fun u => hinputs.paired (by rw [htables]) (hpair u) (h.pairs u)

theorem Weather.judgeGuard_governing (w : Weather) (a b n : Nat) :
    (w.judgeGuard a b n).governing = w.governing ∧ (w.judgeGuard a b n).basis = w.basis ∧
      (w.judgeGuard a b n).governingRain = w.governingRain := by
  unfold Weather.judgeGuard
  split
  · exact ⟨rfl, rfl, rfl⟩
  · split <;> exact ⟨rfl, rfl, rfl⟩
  · exact ⟨rfl, rfl, rfl⟩
  · split <;> exact ⟨rfl, rfl, rfl⟩

/-- What is formed of the governing wind and rain. -/
theorem formWeather_governing (s : State) : s.formWeather.weather.governing = governingOf s.candidateSet.1 ∧
    s.formWeather.weather.basis = s.candidateSet.2 ∧ s.formWeather.weather.governingRain = governingRainOf s.candidateSet.1 := by
  unfold State.formWeather
  dsimp only
  split
  · exact ⟨rfl, rfl, rfl⟩
  · exact Weather.judgeGuard_governing _ _ _ _

theorem formWeather_candidateSet (s : State) : s.formWeather.candidateSet = s.candidateSet := by
  have hmeasured := measured_formWeather s
  have hown : s.formWeather.ownWeather = s.ownWeather := by
    have hcfg : s.formWeather.cfg = s.cfg := by rw [formWeather_eq]; rfl
    have hpart {α : Type} (f : Weather → α) (g : Measured → α) (hf : ∀ w, f w = g w.measured) :
        f s.formWeather.weather = f s.weather := by rw [hf, hmeasured, ← hf]
    unfold State.ownWeather
    rw [hcfg, hpart Weather.anemoFault Measured.anemoFault fun _ => rfl, hpart Weather.vaneFault Measured.vaneFault fun _ => rfl,
      hpart Weather.speedWindow Measured.speedWindow fun _ => rfl, hpart Weather.sectorWindow Measured.sectorWindow fun _ => rfl,
      hpart Weather.rainState Measured.rainState fun _ => rfl]
  rw [formWeather_eq] at hown ⊢
  unfold State.candidateSet State.primaryCandidates State.ownCandidates
  rw [hown]
  rfl

theorem reform_weatherFormed (s : State) : WeatherFormed s.reform := by
  obtain ⟨hgoverning, hbasis, hrain⟩ := formWeather_governing s
  have hset : s.reform.candidateSet = s.candidateSet := formWeather_candidateSet s
  unfold WeatherFormed
  rw [hset]
  exact ⟨hgoverning.symm, hbasis.symm, hrain.symm⟩

theorem drive_ended {s : State} (hweather : WeatherFormed s) (hbrigade : s.zones.brigade = s.resolution) : Ended s.drive where
  weather := (driven_drive s).sameInputs.weatherFormed hweather
  brigade := by rw [(driven_drive s).sameInputs.zones, hbrigade, (driven_drive s).sameInputs.resolution]
  pairs := drive_paired s

theorem close_ended {s : State} (hs : s.phase = .running) (b : State) (r : Bool) : Ended (s.close b r) := by
  rw [State.close, if_pos hs]
  exact (drive_ended (reform_weatherFormed s) (reform_brigade s)).congr (sameInputs_composeDue _ b r)
    (moved_composeDue _ b r).tables (moved_composeDue _ b r).pair

end Sys2Proof.Machine
end

section
/-! SUPPORT. The laws of the drive slots, of the pairs and of LOCKOUT, kept by every step. -/

namespace Sys2Proof.Machine

/-! ### What neither the line nor the station's other blocks write -/

/-- The tables, the unit records, the leaves' records and the probes are the same. -/
structure SameDrive (s t : State) : Prop where
  tables : t.tables = s.tables
  units : t.units = s.units
  members : t.members = s.members
  probe : ∀ l, (t.feedback.get l).probe = (s.feedback.get l).probe

theorem SameDrive.refl (s : State) : SameDrive s s := ⟨rfl, rfl, rfl, fun _ => rfl⟩

theorem SameDrive.trans {s t u : State} (h : SameDrive s t) (k : SameDrive t u) : SameDrive s u :=
  ⟨k.tables.trans h.tables, k.units.trans h.units, k.members.trans h.members, fun l => (k.probe l).trans (h.probe l)⟩

theorem SameDrive.moved {s t : State} (h : SameDrive s t) : Moved s t :=
  ⟨h.tables, fun _ => by rw [h.units], fun _ => by rw [h.units]; exact .refl _, fun l hl => by rw [← h.probe l]; exact hl⟩

theorem sameDrive_of_eq {s t : State} (htables : t.tables = s.tables) (hunits : t.units = s.units)
    (hmembers : t.members = s.members) (hfeedback : t.feedback = s.feedback) : SameDrive s t :=
  ⟨htables, hunits, hmembers, fun _ => by rw [hfeedback]⟩

theorem sameDrive_composeDue (s b : State) (r : Bool) : SameDrive s (s.composeDue b r) := by
  rw [composeDue_eq]
  exact sameDrive_of_eq rfl rfl rfl rfl

theorem sameDrive_drawBackoff (s : State) : SameDrive s s.drawBackoff := by
  unfold State.drawBackoff
  split
  · split
    · exact sameDrive_of_eq rfl rfl rfl rfl
    · exact SameDrive.refl s
  · exact SameDrive.refl s

theorem sameDrive_takeBadFrame (s : State) : SameDrive s s.takeBadFrame.1 := by
  unfold State.takeBadFrame State.provingBad State.enterRunningJoin
  split
  · split_ifs <;> exact sameDrive_of_eq rfl rfl rfl rfl
  · exact sameDrive_of_eq rfl rfl rfl rfl

theorem sameDrive_addressConflict (s : State) : SameDrive s s.addressConflict := by
  unfold State.addressConflict
  split
  · exact SameDrive.refl s
  · exact sameDrive_of_eq rfl rfl rfl rfl
  · exact sameDrive_of_eq rfl rfl rfl rfl

theorem takeBadFrame_phase (s : State) : s.takeBadFrame.1.phase = s.phase := by
  unfold State.takeBadFrame State.provingBad State.enterRunningJoin
  split
  · split_ifs <;> rfl
  · rfl

theorem drawBackoff_phase (s : State) : s.drawBackoff.phase = s.phase := by
  unfold State.drawBackoff
  split
  · split <;> rfl
  · rfl

theorem composeDue_phase (s b : State) (r : Bool) : (s.composeDue b r).phase = s.phase := (sameInputs_composeDue s b r).phase

theorem addressConflict_phase (s : State) : s.addressConflict.phase = s.phase := by
  unfold State.addressConflict
  split <;> rfl

/-- The line's commands leave the drive, but for the restart wait. -/
theorem LineEvent.sameDrive {s a : State} (h : LineEvent s a) : a = s.beginRestartWait ∨ (a.phase = s.phase ∧ SameDrive s a) := by
  have hline (x : LineInterface) : SameDrive s (s.setLine x) := sameDrive_of_eq rfl rfl rfl rfl
  have hcounted : SameDrive s s.goodCounted := sameDrive_of_eq rfl rfl rfl rfl
  cases h with
  | countersCleared =>
    refine .inr ⟨rfl, rfl, rfl, rfl, fun l => ?_⟩
    show ((s.feedback.map fun f : FeedbackRecord => { f with drift := 0 }).get l).probe = _
    rw [Four.get_map]
  | restartWait => exact .inl rfl
  | lineIdle =>
    refine .inr ⟨(composeDue_phase _ s false).trans (drawBackoff_phase _), ?_⟩
    exact ((hline _).trans (sameDrive_drawBackoff _)).trans (sameDrive_composeDue _ s false)
  | lineIdleEarly =>
    refine .inr ⟨((composeDue_phase _ s _).trans (drawBackoff_phase _)).trans (takeBadFrame_phase _), ?_⟩
    exact (((hline _).trans (sameDrive_takeBadFrame _)).trans (sameDrive_drawBackoff _)).trans (sameDrive_composeDue _ s _)
  | lineBusy | sends | collides | readsBack => exact .inr ⟨rfl, hline _⟩
  | goodFrameInWait => exact .inr ⟨rfl, hcounted⟩
  | goodFrameUnheard => exact .inr ⟨composeDue_phase _ s false, hcounted.trans (sameDrive_composeDue _ s false)⟩
  | ownAddress =>
    refine .inr ⟨(composeDue_phase _ s false).trans (addressConflict_phase _), ?_⟩
    exact (hcounted.trans (sameDrive_addressConflict _)).trans (sameDrive_composeDue _ s false)
  | badFrame =>
    refine .inr ⟨(composeDue_phase _ s _).trans (takeBadFrame_phase _), ?_⟩
    have hjudged : SameDrive s ((s.onLine fun x => x.bytesArrive s.now).onLine LineInterface.judged) :=
      sameDrive_of_eq rfl rfl rfl rfl
    exact (hjudged.trans (sameDrive_takeBadFrame _)).trans (sameDrive_composeDue _ s _)
  | proved =>
    have hjoin : SameDrive s s.enterRunningJoin := sameDrive_of_eq rfl rfl rfl rfl
    exact .inr ⟨composeDue_phase _ s true, hjoin.trans (sameDrive_composeDue _ s true)⟩
  | firstAttempt urgent =>
    unfold State.beginReport
    dsimp only
    refine .inr ⟨drawBackoff_phase _, SameDrive.trans ?_ (sameDrive_drawBackoff _)⟩
    exact sameDrive_of_eq rfl rfl rfl rfl

theorem SampleEvent.sameDrive {s a : State} (h : SampleEvent s a) : SameInputs s a ∧ SameDrive s a := by
  cases h <;> exact ⟨⟨rfl, rfl, rfl, rfl, rfl, rfl, rfl, rfl⟩, sameDrive_of_eq rfl rfl rfl rfl⟩

theorem SwitchRecord.read_held {α : Type} [DecidableEq α] (r : SwitchRecord α) (x : α) (now : Nat) : (r.read x now).held = r.held := by
  unfold SwitchRecord.read
  split
  · rfl
  · split
    · split <;> rfl
    · rfl

/-- An effect whose event does not close moves the drive, or leaves it and what the tables are formed from, or is the restart
wait. -/
theorem OpenEvent.cases_drive {s a : State} (h : OpenEvent s a) :
    MotionEvent s a ∨ a = s.beginRestartWait ∨ (SameInputs s a ∧ SameDrive s a) := by
  have hsame {t : State} (hi : SameInputs s t) (hd : SameDrive s t) :
      MotionEvent s t ∨ t = s.beginRestartWait ∨ (SameInputs s t ∧ SameDrive s t) := .inr (.inr ⟨hi, hd⟩)
  cases h with
  | line h =>
    obtain h' | ⟨hphase, hdrive⟩ := h.sameDrive
    · exact .inr (.inl h')
    · have hz := h.sameZones
      exact hsame ⟨hphase, hz.cfg, hz.ownAddress, hz.peers, hz.zones, congrArg Weather.uncounted hz.weather,
        by rw [hz.detection], by rw [hz.detection]⟩ hdrive
  | sample h => exact hsame h.sameDrive.1 h.sameDrive.2
  | motion h => exact .inl h
  | nothing | port | written | timer | heartbeat | resetKey | brigade | flashEnd | pulse | circuit | supplyRead =>
    exact hsame ⟨rfl, rfl, rfl, rfl, rfl, rfl, rfl, rfl⟩ (sameDrive_of_eq rfl rfl rfl rfl)
  | settledTime =>
    have hi : SameInputs s s.formIsolated := ⟨rfl, rfl, rfl, rfl, rfl, rfl, rfl, rfl⟩
    have hd : SameDrive s s.formIsolated := sameDrive_of_eq rfl rfl rfl rfl
    exact hsame (hi.trans (sameInputs_composeDue _ s false)) (hd.trans (sameDrive_composeDue _ s false))
  | switches c =>
    exact hsame ⟨rfl, rfl, rfl, rfl, rfl, rfl, SwitchRecord.read_held _ _ _, rfl⟩ (sameDrive_of_eq rfl rfl rfl rfl)
  | button b => cases b <;> exact hsame ⟨rfl, rfl, rfl, rfl, rfl, rfl, rfl, rfl⟩ (sameDrive_of_eq rfl rfl rfl rfl)

theorem formLocal_sameDrive (s : State) : SameDrive s s.formLocal := by
  unfold State.formLocal State.enterAlarm State.endListenOnAlarm
  dsimp only
  split
  · split <;> exact sameDrive_of_eq rfl rfl rfl rfl
  · exact sameDrive_of_eq rfl rfl rfl rfl

theorem requestLoopReset_sameDrive (s : State) : SameDrive s s.requestLoopReset := by
  unfold State.requestLoopReset
  split
  · have hset (d : Detection) : SameDrive s (s.setDetection d) := sameDrive_of_eq rfl rfl rfl rfl
    exact (hset _).trans (formLocal_sameDrive _)
  · exact SameDrive.refl s
  · exact SameDrive.refl s

theorem setZones_sameDrive (s : State) (v : PerZone ZoneRecord) : SameDrive s (s.setZones v) := sameDrive_of_eq rfl rfl rfl rfl

theorem zoneSteps_sameDrive (s : State) (a : Nat) (r : Report) : SameDrive s (s.zoneSteps a r) := by
  obtain ⟨x, hx⟩ := zoneSteps_eq_setZones s a r
  rw [hx]
  refine SameDrive.trans ?_ (setZones_sameDrive _ x)
  unfold State.adoptionStep
  dsimp only
  split
  · exact (setZones_sameDrive s _).trans (requestLoopReset_sameDrive _)
  · exact setZones_sameDrive s _

theorem acceptReset_sameDrive (s : State) : SameDrive s s.acceptReset := by
  unfold State.acceptReset
  dsimp only
  split
  · exact (setZones_sameDrive s _).trans (requestLoopReset_sameDrive _)
  · exact setZones_sameDrive s _

theorem StationEvent.sameDrive {s a : State} (h : StationEvent s a) : SameDrive s a := by
  have hset (d : Detection) : SameDrive s (s.setDetection d) := sameDrive_of_eq rfl rfl rfl rfl
  cases h with
  | band x b => cases x <;> exact (hset _).trans (formLocal_sameDrive _)
  | confirm l => exact (hset _).trans (formLocal_sameDrive _)
  | settleEnd => exact ((hset _).trans (formLocal_sameDrive _)).trans (sameDrive_of_eq rfl rfl rfl rfl)
  | zoneReset => exact (hset _).trans (acceptReset_sameDrive _)
  | report r p st =>
    have hstored : SameDrive s { s.goodCounted with peers := s.goodCounted.peers.put r.source st } :=
      sameDrive_of_eq rfl rfl rfl rfl
    exact (hstored.trans (zoneSteps_sameDrive _ r.source r)).trans (sameDrive_of_eq rfl rfl rfl rfl)
  | silence => exact sameDrive_of_eq rfl rfl rfl rfl

/-! ### LOCKOUT -/

/-- Nothing waits, starts, runs or probes (R153). -/
structure Stilled (s : State) : Prop where
  units : ∀ u, (s.units.get u).stopped
  probes : ∀ l, (s.feedback.get l).probe.inProgress = false

theorem UnitRecord.stopped.rundown {x : UnitRecord} (h : x.stopped) {r : Run} (hr : x.status = .inFlight r) :
    ∃ due e, r.stage = .rundown due e ∧ e ≠ .pinched := by
  obtain h | ⟨q, due, e, hq, hst, he⟩ := h
  · rw [h] at hr
    cases hr
  · rw [hq] at hr
    cases hr
    exact ⟨due, e, hst, he⟩

theorem UnitRecord.stopped.not_waiting {x : UnitRecord} (h : x.stopped) (t : Nat) : x.status ≠ .waiting t := by
  obtain h | ⟨q, due, e, hq, -⟩ := h
  · rw [h]
    exact nofun
  · rw [hq]
    exact nofun

theorem stopped_congr {x y : UnitRecord} (h : y.status = x.status) (hx : x.stopped) : y.stopped := by
  unfold UnitRecord.stopped
  rw [h]
  exact hx

theorem Stilled.of_status {s t : State} (h : Stilled s) (hstatus : ∀ u, (t.units.get u).status = (s.units.get u).status)
    (hprobe : ∀ l, (t.feedback.get l).probe.inProgress = true → (s.feedback.get l).probe.inProgress = true) : Stilled t where
  units := fun u => stopped_congr (hstatus u) (h.units u)
  probes := fun l => Bool.eq_false_iff.2 fun hl => by
    have hbefore := hprobe l hl
    rw [h.probes l] at hbefore
    cases hbefore

theorem SameDrive.stilled {s t : State} (h : SameDrive s t) (hs : Stilled s) : Stilled t :=
  hs.of_status (fun _ => by rw [h.units]) h.moved.probe

theorem Stilled.not_running {s : State} (h : Stilled s) {l : Leaf} {r : Run} (hr : (s.unitOf l).status = .inFlight r) :
    r.stage.isRunning = false := by
  obtain ⟨due, e, hst, -⟩ := (h.units (s.cfg.leader l)).rundown hr
  rw [hst]
  rfl

theorem moved_eq_of_not_running {s : State} {l : Leaf} (h : ∀ r, s.runOf l = some r → r.stage.isRunning = false) :
    s.moved l = s := by
  have hreach : s.checkReach l = s := by
    unfold State.checkReach
    split
    · rfl
    next r hr =>
      dsimp only
      rw [h r hr, if_neg (by simp)]
  unfold State.moved
  rw [hreach]
  unfold State.syncGang
  split
  next r hr => rw [h r hr, if_neg (by decide)]
  · rfl

theorem MotionEvent.stilled {s a : State} (h : MotionEvent s a) (hs : Stilled s) : Stilled a := by
  refine hs.of_status ?_ h.moved.probe
  have hrunning {l : Leaf} {r : Run} (hr : (s.unitOf l).status = .inFlight r) (hst : r.stage.isRunning = true) : False := by
    rw [hs.not_running hr] at hst
    cases hst
  have hstays {t : State} (hcfg : t.cfg = s.cfg) (hunits : t.units = s.units) (l : Leaf) : t.moved l = t := by
    refine moved_eq_of_not_running fun r hr => hs.not_running (l := l) ?_
    have hstatus := (runOf_eq_some_iff.1 hr).1
    unfold State.unitOf at hstatus ⊢
    rw [← hcfg, ← hunits]
    exact hstatus
  have htimed (l : Leaf) : (s.toTimed l).units = s.units := by
    unfold State.toTimed
    dsimp only
    split <;> rfl
  have hdue (t : State) (u : Leaf) : ((t.composeDue s false).units.get u).status = (t.units.get u).status := by
    rw [(sameDrive_composeDue t s false).units]
  cases h with
  | entersRunning l r due hr hst =>
    obtain ⟨due', e, hst', -⟩ := (hs.units (s.cfg.leader l)).rundown hr
    rw [hst'] at hst
    cases hst
  | member | switchInRundown | watchdog | probePulse => exact fun _ => rfl
  | stops l r e hr hst => exact (hrunning hr hst).elim
  | closedEnd l r m hr hst => exact (hrunning (runOf_eq_some_iff.1 hr).1 hst).elim
  | cutOut l r hr hst => exact (hrunning (runOf_eq_some_iff.1 hr).1 hst).elim
  | edge l line =>
    intro u
    rw [hdue]
    unfold State.takeEdge
    split
    · rfl
    · rw [htimed]
    · dsimp only
      split
      next dir _ _ =>
        rw [hstays (t := s.countEdge l line dir) rfl rfl]
        rfl
      · rfl
  | feedbackLost l =>
    intro u
    rw [hdue, htimed]
  | estimated l =>
    intro u
    rw [hstays (t := s.formEstimate l) rfl rfl]
    rfl

/-- An update of one unit's record to a stopped one. -/
theorem Stilled.setUnit {s : State} (h : Stilled s) {u : Leaf} {x : UnitRecord} (hx : x.stopped) : Stilled (s.setUnit u x) where
  units := fun v => by
    rw [State.setUnit_units, Four.get_set]
    split
    · exact hx
    · exact h.units v
  probes := h.probes

theorem Stilled.placeAtRest {s : State} (h : Stilled s) (u : Leaf) : Stilled (s.placeAtRest u) := by
  have hset := h.setUnit (u := u) (x := { s.units.get u with status := .rest }) (.inl rfl)
  exact ⟨hset.units, hset.probes⟩

/-- A run passes to RUNDOWN (R142). -/
theorem toRundown_units (s : State) (u : Leaf) (r : Run) (e : Ending) : (s.toRundown u r e).units = s.units.set u
    { s.units.get u with status := .inFlight { r with stage := .rundown (s.now + rundownPeriod) e, timeoutDue := none } } := by
  unfold State.toRundown State.setRun State.setStatus
  rw [State.setUnit_units, foldl_units (f := State.switchOff) fun _ _ => rfl]

/-- A halt leaves the other units as they are. -/
theorem halt_units_other (s : State) {u v : Leaf} (hv : v ≠ u) : (s.halt u).units.get v = s.units.get v := by
  have hset (t : State) (x : UnitRecord) : (t.setUnit u x).units.get v = t.units.get v := by
    rw [State.setUnit_units, Four.get_set, if_neg hv]
  unfold State.halt
  split
  · rfl
  · exact hset s _
  · split
    · exact (hset _ _).trans (hset s _)
    · rw [toRundown_units, Four.get_set, if_neg hv]
      exact hset s _
    · split
      · exact hset s _
      · rfl

theorem halt_stopped (s : State) (u : Leaf) : ((s.halt u).units.get u).stopped := by
  have hset (t : State) (x : UnitRecord) : (t.setUnit u x).units.get u = x := by
    rw [State.setUnit_units, Four.get_set, if_pos rfl]
  unfold State.halt
  split
  next h => exact .inl h
  · exact .inl (placeAtRest_status s u)
  next r hr =>
    split
    · exact .inl (placeAtRest_status _ u)
    · rw [toRundown_units, Four.get_set, if_pos rfl]
      exact .inr ⟨_, _, .halted, rfl, rfl, nofun⟩
    next due e hst =>
      split
      next =>
        unfold State.setRun State.setStatus
        rw [hset]
        exact .inr ⟨_, due, .halted, rfl, rfl, nofun⟩
      next he => exact .inr ⟨r, due, e, hr, hst, he⟩

theorem haltAll_stopped (s : State) (u : Leaf) : (s.haltAll.units.get u).stopped :=
  foldl_establishes (P := fun t v => (t.units.get v).stopped) halt_stopped
    (fun t w v hv h => by rw [halt_units_other t hv]; exact h) (N4.mem_all u) s

theorem stopProbe_probe (s : State) (l : Leaf) : ((s.stopProbe l).feedback.get l).probe.inProgress = false := by
  unfold State.stopProbe
  split
  · rw [State.setFeedback_feedback, Four.get_set, if_pos rfl]
    rfl
  next h => exact Bool.eq_false_iff.2 h

theorem stopProbes_probe (s : State) (l : Leaf) : (s.stopProbes.feedback.get l).probe.inProgress = false :=
  foldl_establishes (P := fun t m => (t.feedback.get m).probe.inProgress = false) stopProbe_probe
    (fun t w m _ h => Bool.eq_false_iff.2 fun hm => by
      have hbefore := (moved_stopProbe t w).probe m hm
      rw [h] at hbefore
      cases hbefore) (N4.mem_all l) s

/-- LOCKOUT's halt (R153), and the restart wait's (R192). -/
theorem stilled_haltAll_stopProbes (s : State) : Stilled s.stopProbes.haltAll where
  units := haltAll_stopped _
  probes := fun l => Bool.eq_false_iff.2 fun hl => by
    have hbefore := (holdsNoMore_haltAll _).probe l hl
    rw [stopProbes_probe] at hbefore
    cases hbefore

theorem Stilled.halt {s : State} (h : Stilled s) (u : Leaf) : Stilled (s.halt u) where
  units := fun v => by
    by_cases hv : v = u
    · exact hv ▸ halt_stopped s u
    · rw [halt_units_other s hv]
      exact h.units v
  probes := fun l => Bool.eq_false_iff.2 fun hl => by
    have hbefore := (movedAt_halt s u).probe l hl
    rw [h.probes l] at hbefore
    cases hbefore

theorem Stilled.foldl {α : Type} {f : State → α → State} (hf : ∀ s a, Stilled s → Stilled (f s a)) {s : State} (h : Stilled s)
    (ls : List α) : Stilled (ls.foldl f s) := by
  induction ls generalizing s with
  | nil => exact h
  | cons a ls ih => exact ih (hf s a h)

theorem Stilled.takePair {s : State} (h : Stilled s) (u : Leaf) (p : Pair) : Stilled (s.takePair u p) := by
  have hset : Stilled (s.setUnit u ((s.units.get u).withPair p)) := h.setUnit (stopped_congr rfl (h.units u))
  unfold State.takePair
  dsimp only
  split
  · exact hset
  next t ht => exact absurd ht ((h.units u).not_waiting t)
  next r hr =>
    obtain ⟨due, e, hst, -⟩ := (h.units u).rundown hr
    rw [hst]
    split <;> exact hset

theorem Stilled.handPair {s : State} (h : Stilled s) (u : Leaf) : Stilled (s.handPair u) := by
  unfold State.handPair
  split
  · exact h.takePair u _
  · exact h

/-- A unit is withheld at LOCKOUT (R131). -/
theorem withheld_of_lockout {s : State} (h : s.key = .lockout) (u : Leaf) : s.withheld u = true := by
  unfold State.withheld
  simp [h]

theorem judge_of_lockout {s : State} (h : s.key = .lockout) (u : Leaf) : s.judge u = s := by
  unfold State.judge
  rw [withheld_of_lockout h, if_neg (by simp)]

theorem judgeAll_of_lockout {s : State} (h : s.key = .lockout) : s.judgeAll = s := by
  unfold State.judgeAll
  generalize N4.all = ls
  induction ls with
  | nil => rfl
  | cons u ls ih => rw [List.foldl_cons, judge_of_lockout h, ih]

theorem Stilled.drive {s : State} (h : Stilled s) (hkey : s.key = .lockout) : Stilled s.drive := by
  have hpairs : Stilled s.handPairs.handPairs :=
    Stilled.foldl (fun _ u k => k.handPair u) (Stilled.foldl (fun _ u k => k.handPair u) h _) _
  have hkey' : s.handPairs.handPairs.key = .lockout :=
    ((driven_handPairs s).trans (driven_handPairs _)).sameInputs.stationKey.trans hkey
  unfold State.drive State.serve
  rw [judgeAll_of_lockout hkey', hkey', if_neg (by simp)]
  exact hpairs

theorem reform_key (s : State) : s.reform.key = s.key := by
  have h := congrArg State.key (reformed_reform s).weather
  exact h

theorem Stilled.close {s : State} (h : Stilled s) (hkey : s.key = .lockout) (b : State) (r : Bool) : Stilled (s.close b r) := by
  unfold State.close
  split
  · have hreform : Stilled s.reform :=
      h.of_status (fun _ => by rw [reform_units]) fun _ => by rw [reform_feedback]; exact id
    exact (sameDrive_composeDue _ b r).stilled (hreform.drive ((reform_key s).trans hkey))
  · exact h

theorem Stilled.endRun {s : State} (h : Stilled s) (hkey : s.key = .lockout) {u : Leaf} {r : Run} {due : Nat} {e : Ending}
    (hr : (s.units.get u).status = .inFlight r) (hst : r.stage = .rundown due e) : Stilled (s.endRun u r e) := by
  obtain ⟨due', e', hst', hne⟩ := (h.units u).rundown hr
  obtain ⟨rfl, rfl⟩ : due = due' ∧ e = e' := by
    rw [hst] at hst'
    cases hst'
    exact ⟨rfl, rfl⟩
  have hpaused {t : State} (ht : Stilled t) {x : UnitRecord} (hx : x.status = .inFlight r) : Stilled (t.setUnit u x) :=
    ht.setUnit (stopped_congr (hx.trans hr.symm) (h.units u))
  have hlose {t : State} (ht : Stilled t) (f : RunFault) : Stilled (t.loseEstimates r f) :=
    ht.of_status (fun v => by
      unfold State.loseEstimates
      split
      · rw [foldl_units (fun t l => by split <;> rfl)]
      · rfl) (moved_loseEstimates t r f).probe
  unfold State.endRun
  dsimp only
  split
  · exact (hpaused (hpaused h (by exact hr)) (by exact hr)).placeAtRest u
  · exact (hlose (hpaused (hpaused h (by exact hr)) (by exact hr)) _).placeAtRest u
  · exact absurd rfl hne
  · rw [withheld_of_lockout (s := s.setUnit u _) hkey, if_neg (by simp)]
    exact (hpaused h (by exact hr)).placeAtRest u
  · exact (hpaused h (by exact hr)).placeAtRest u

/-! ### The effects whose events close -/

/-- A change of the key halts everything at the entry to LOCKOUT, and else writes no unit's record (R80, R114, R153). -/
theorem keyChanged_cases (s : State) (old : KeyPosition) : ∃ m : State, m.units = s.units ∧ m.feedback = s.feedback ∧ m.key = s.key ∧
    (s.keyChanged old = m.stopProbes.haltAll ∨ (¬ (s.key = .lockout ∧ old ≠ .lockout) ∧ s.keyChanged old = m)) := by
  refine ⟨if old = .service && s.key ≠ .service then s.leaveService else s, ?_, ?_, ?_, ?_⟩
  · split <;> rfl
  · split <;> rfl
  · split <;> rfl
  · unfold State.keyChanged
    dsimp only
    by_cases h : s.key = .lockout ∧ old ≠ .lockout
    · refine .inl (if_pos ?_)
      simpa using h
    · refine .inr ⟨h, if_neg ?_⟩
      simpa using h

theorem deliverBrigade_eq (s : State) (old new : BrigadeReading) :
    (s.deliverBrigade old new).1 = { s with zones := (s.deliverBrigade old new).1.zones } := by
  unfold State.deliverBrigade
  split
  · rfl
  · split <;> rfl

/-- An effect that closes takes no slot. -/
theorem ClosingEvent.holdsNoMore {s a : State} (h : ClosingEvent s a) : HoldsNoMore s a := by
  have hhalted (t : State) : HoldsNoMore t t.stopProbes.haltAll := (moved_stopProbes t).holdsNoMore.trans (holdsNoMore_haltAll _)
  cases h with
  | station h => exact h.sameDrive.moved.holdsNoMore
  | key r =>
    obtain ⟨m, hunits, hfeedback, -, hm⟩ := keyChanged_cases (s.setDetection { s.detection with key := .taken r }) s.key
    have hsame : HoldsNoMore s m := holdsNoMore_of_eq hunits hfeedback
    obtain hm | ⟨-, hm⟩ := hm <;> rw [hm]
    · exact hsame.trans (hhalted m)
    · exact hsame
  | press b =>
    cases b <;>
      · unfold State.takePress
        split <;> exact holdsNoMore_of_eq rfl rfl
  | brigade r =>
    rw [deliverBrigade_eq]
    exact holdsNoMore_of_eq rfl rfl
  | comfortStep | weather | moveTarget | stopTargets | supply => exact holdsNoMore_of_eq rfl rfl
  | runEnds l r due e hr => exact (movedAt_endRun hr e).holdsNoMore
  | pauseOver u => exact MovedAt.holdsNoMore (movedAt_setUnit fun r hr => ⟨r, hr, rfl⟩)
  | holdOver u => exact MovedAt.holdsNoMore (movedAt_setUnit fun r hr => ⟨r, hr, rfl⟩)
  | probeEnds l p => exact holdsNoMore_finishProbe s l p
  | reference l => exact (movedAt_referenceUnit s _).holdsNoMore
  | supplyLow =>
    have hsupply : HoldsNoMore s (s.setSupply (s.supply.changeTo .low)) := holdsNoMore_of_eq rfl rfl
    exact hsupply.trans (holdsNoMore_haltBelowFire _)

/-- What moves local detection, the zones or the peers leaves the key and the settings. -/
theorem StationEvent.key_cfg {s a : State} (h : StationEvent s a) : a.detection.key = s.detection.key ∧ a.cfg = s.cfg := by
  have hlocal (t : State) : t.formLocal.detection.key = t.detection.key ∧ t.formLocal.cfg = t.cfg := by
    rw [formLocal_detection, formLocal_cfg]
    exact ⟨rfl, rfl⟩
  have hreset (t : State) : t.requestLoopReset.detection.key = t.detection.key ∧ t.requestLoopReset.cfg = t.cfg := by
    unfold State.requestLoopReset
    split
    · exact hlocal _
    · exact ⟨rfl, rfl⟩
    · exact ⟨rfl, rfl⟩
  cases h with
  | band x b => cases x <;> exact hlocal _
  | confirm l => exact hlocal _
  | settleEnd => exact hlocal _
  | zoneReset =>
    unfold State.acceptReset
    dsimp only
    split
    · exact hreset _
    · exact ⟨rfl, rfl⟩
  | report r p st =>
    obtain ⟨x, hx⟩ := zoneSteps_eq_setZones { s.goodCounted with peers := s.goodCounted.peers.put r.source st } r.source r
    show (State.zoneSteps _ _ _).detection.key = _ ∧ (State.zoneSteps _ _ _).cfg = _
    rw [hx]
    show (State.adoptionStep _ _).detection.key = _ ∧ (State.adoptionStep _ _).cfg = _
    unfold State.adoptionStep
    dsimp only
    split
    · exact hreset _
    · exact ⟨rfl, rfl⟩
  | silence => exact ⟨rfl, rfl⟩

theorem finishProbe_key (s : State) (l : Leaf) (p : Presence) : (s.finishProbe l p).key = s.key := by
  have hend : (s.endPulse l p).key = s.key := (driven_endPeriod s l).sameInputs.stationKey
  unfold State.finishProbe
  dsimp only
  split
  · exact (driven_handRest _ _).sameInputs.stationKey.trans hend
  · exact hend

theorem referenceUnit_key (s : State) (u : Leaf) : (s.referenceUnit u).key = s.key := by
  have hfold (ls : List Leaf) (t : State) :
      (ls.foldl (fun t l => t.setFeedback l (t.feedback.get l).referenced) t).key = t.key := by
    induction ls generalizing t with
    | nil => rfl
    | cons l ls ih => exact ih _
  unfold State.referenceUnit
  exact hfold _ _

/-- At LOCKOUT nothing moves after an effect that closes, its own entry to LOCKOUT among them (R153). -/
theorem ClosingEvent.stilled {s a : State} (h : ClosingEvent s a) (hs : s.key = .lockout → Stilled s) (ha : a.key = .lockout) :
    Stilled a := by
  have hsame {t : State} (hkey : t.key = s.key) (hd : SameDrive s t) (ht : t.key = .lockout) : Stilled t :=
    hd.stilled (hs (hkey ▸ ht))
  cases h with
  | station h => exact hsame (congrArg (fun k => KeyReading.position (SwitchRecord.held k)) h.key_cfg.1) h.sameDrive ha
  | key r =>
    obtain ⟨m, hunits, hfeedback, hmkey, hm⟩ := keyChanged_cases (s.setDetection { s.detection with key := .taken r }) s.key
    obtain hm | ⟨hnew, hm⟩ := hm <;> rw [hm] at ha ⊢
    · exact stilled_haltAll_stopProbes m
    · have hold : s.key = .lockout := by_contra fun h => hnew ⟨hmkey.symm.trans ha, h⟩
      exact (hs hold).of_status (fun _ => by rw [hunits]; rfl) fun _ => by rw [hfeedback]; exact id
  | press b =>
    have hkey : ((s.setDetection (s.detection.setButton b .pressed)).takePress b).key = s.key := by
      cases b <;>
        · unfold State.takePress
          split <;> rfl
    refine (hs (hkey ▸ ha)).of_status (fun _ => ?_) fun _ => ?_
    · unfold State.takePress
      split <;> rfl
    · unfold State.takePress
      split <;> exact id
  | brigade r =>
    have heq := deliverBrigade_eq (s.setDetection { s.detection with brigade := .taken r }) s.detection.brigade.held r
    rw [heq] at ha ⊢
    exact hsame rfl (sameDrive_of_eq rfl rfl rfl rfl) ha
  | comfortStep | weather | supply => exact hsame rfl (sameDrive_of_eq rfl rfl rfl rfl) ha
  | moveTarget | stopTargets => exact (hs ha).of_status (fun _ => rfl) fun _ => id
  | runEnds l r due e hr hst =>
    have hkey : s.key = .lockout := (driven_endRun s _ r e).sameInputs.stationKey.symm.trans ha
    exact (hs hkey).endRun hkey hr hst
  | pauseOver u => exact (hs ha).setUnit (stopped_congr rfl ((hs ha).units u))
  | holdOver u => exact (hs ha).setUnit (stopped_congr rfl ((hs ha).units u))
  | probeEnds l p due h =>
    have hkey : s.key = .lockout := (finishProbe_key s l p).symm.trans ha
    have hprobe := (hs hkey).probes l
    rw [h] at hprobe
    cases hprobe
  | reference l hkey =>
    have hlocked : s.key = .lockout := (referenceUnit_key s _).symm.trans ha
    rw [hkey] at hlocked
    cases hlocked
  | supplyLow =>
    have hkey : s.key = .lockout := (driven_haltBelowFire (s.setSupply (s.supply.changeTo .low))).sameInputs.stationKey.symm.trans ha
    have hsupply : Stilled (s.setSupply (s.supply.changeTo .low)) := (hs hkey).of_status (fun _ => rfl) fun _ => id
    refine Stilled.foldl (fun t u ht => ?_) hsupply N4.all
    split
    · exact ht
    · exact ht.halt u

/-! ### Every step -/

/-- The laws of the drive but for the outputs formed, which every command forms at its end. -/
structure DriveLaws (s : State) : Prop where
  slots : SlotsLawful s
  ended : s.phase = .running → Ended s
  stilled : s.phase ≠ .off → s.key = .lockout → Stilled s

theorem DriveLawful.laws {s : State} (h : DriveLawful s) : DriveLaws s where
  slots := ⟨h.slots, h.members⟩
  ended := fun hs => ⟨h.weather hs, h.brigade hs, h.pairs hs⟩
  stilled := fun hs hkey => ⟨h.lockedUnits hs hkey, h.lockedProbes hs hkey⟩

/-- A stilled station energises no output. -/
theorem Stilled.driveOf {s : State} (h : Stilled s) (l : Leaf) : s.driveOf l = .off := by
  have hrun : State.driveOf.runDrive s l = .off := by
    unfold State.driveOf.runDrive
    split
    next r hr =>
      obtain ⟨due, e, hst, -⟩ := (h.units (s.cfg.leader l)).rundown hr
      unfold Run.drive
      rw [hst]
      exact ite_self _
    · rfl
    · rfl
  have hprobe := h.probes l
  unfold State.driveOf
  split
  next hp => rw [hp] at hprobe; cases hprobe
  next hp => rw [hp] at hprobe; cases hprobe
  · exact hrun
  · exact hrun

theorem Stilled.formPins {s : State} (h : Stilled s) (o : Output) : s.formPins.outputs.get o = .off := by
  unfold State.formPins
  split
  · exact Four.get_const _ o
  · show (Four.ofFn s.outputDrive).get o = .off
    rw [Four.get_ofFn]
    unfold State.outputDrive
    split
    · exact h.driveOf _
    · rfl

theorem DriveLaws.lawful {s : State} (h : DriveLaws s) (hformed : s.phase ≠ .off → s.refresh = s) : DriveLawful s where
  slots := h.slots.slots
  members := h.slots.members
  formed := hformed
  weather := fun hs => (h.ended hs).weather
  brigade := fun hs => (h.ended hs).brigade
  pairs := fun hs => (h.ended hs).pairs
  lockedUnits := fun hs hkey => (h.stilled hs hkey).units
  lockedProbes := fun hs hkey => (h.stilled hs hkey).probes
  lockedOutputs := fun hs hkey o => by
    rw [← hformed hs]
    exact (h.stilled hs hkey).formPins o

/-- What writes nothing that the drive's laws speak of. -/
theorem DriveLaws.congr {s t : State} (h : DriveLaws s) (hinputs : SameInputs s t) (hdrive : SameDrive s t) : DriveLaws t where
  slots := hdrive.moved.holdsNoMore.slotsLawful hinputs.cfg h.slots
  ended := fun ht => (h.ended (hinputs.phase ▸ ht)).congr hinputs hdrive.tables hdrive.moved.pair
  stilled := fun ht hkey => hdrive.stilled (h.stilled (hinputs.phase ▸ ht) (hinputs.stationKey.symm.trans hkey))

theorem DriveLaws.refresh {s : State} (h : DriveLaws s) : DriveLaws s.refresh :=
  h.congr ⟨rfl, rfl, rfl, rfl, rfl, rfl, rfl, rfl⟩ (sameDrive_of_eq rfl rfl rfl rfl)

theorem beginRestartWait_driveLaws {s : State} (h : DriveLaws s) : DriveLaws s.beginRestartWait := by
  have hstilled := stilled_haltAll_stopProbes s
  have hheld : HoldsNoMore s s.stopProbes.haltAll := (moved_stopProbes s).holdsNoMore.trans (holdsNoMore_haltAll _)
  have hcfg : s.stopProbes.haltAll.cfg = s.cfg := ((driven_stopProbes s).trans (driven_haltAll _)).sameInputs.cfg
  have hslots := hheld.slotsLawful hcfg h.slots
  exact ⟨⟨hslots.slots, hslots.members⟩, nofun, fun _ _ => ⟨hstilled.units, hstilled.probes⟩⟩

theorem OpenEvent.driveLaws {s a : State} (h : OpenEvent s a) (hs : s.phase ≠ .off) (hl : DriveLaws s) : DriveLaws a := by
  obtain hm | rfl | ⟨hi, hd⟩ := h.cases_drive
  · have hi := hm.sameInputs
    exact ⟨hm.moved.holdsNoMore.slotsLawful hi.cfg hl.slots,
      fun ha => (hl.ended (hi.phase ▸ ha)).congr hi hm.moved.tables hm.moved.pair,
      fun ha hkey => hm.stilled (hl.stilled hs (hi.stationKey.symm.trans hkey))⟩
  · exact beginRestartWait_driveLaws hl
  · exact hl.congr hi hd

theorem ClosingEvent.cfg {s a : State} (h : ClosingEvent s a) : a.cfg = s.cfg := by
  obtain h | h := h.sameStation
  · exact h.key_cfg.2
  · exact h.cfg

theorem close_phase (s b : State) (r : Bool) : (s.close b r).phase = s.phase := (sameStation_close s b r).phase

theorem close_key (s b : State) (r : Bool) : (s.close b r).key = s.key := by
  unfold State.close
  split
  · exact ((sameInputs_composeDue _ b r).stationKey.trans (driven_drive _).sameInputs.stationKey).trans (reform_key s)
  · rfl

theorem ClosingEvent.driveLaws {s a : State} (h : ClosingEvent s a) (hs : s.phase ≠ .off) (hl : DriveLaws s) (r : Bool) :
    DriveLaws (a.close s r) where
  slots := slotsLawful_close (h.holdsNoMore.slotsLawful h.cfg hl.slots) s r
  ended := fun hc => close_ended ((close_phase a s r).symm.trans hc) s r
  stilled := fun _ hkey => by
    have ha : a.key = .lockout := (close_key a s r).symm.trans hkey
    exact (h.stilled (hl.stilled hs) ha).close ha s r

theorem Taken.driveLaws {s u : State} (h : Taken s u) (hs : s.phase ≠ .off) (hl : DriveLaws s) : DriveLaws u := by
  cases h with
  | opened h => exact h.driveLaws hs hl
  | closed h r => exact h.driveLaws hs hl r
  | replied h r x => exact (h.driveLaws hs hl r).congr ⟨rfl, rfl, rfl, rfl, rfl, rfl, rfl, rfl⟩ (sameDrive_of_eq rfl rfl rfl rfl)

theorem handKept_units (s : State) : s.handKept.units = s.units :=
  foldl_units (f := fun t u => if t.cfg.isUnit u then t.handRest u else t) (fun t u => by split <;> rfl) _ s

theorem handKept_feedback (s : State) : s.handKept.feedback = s.feedback := by
  unfold State.handKept
  generalize N4.all = ls
  induction ls generalizing s with
  | nil => rfl
  | cons u ls ih =>
    rw [List.foldl_cons, ih]
    split <;> rfl

/-- A station at its start holds no slot, and nothing moves (R191). -/
theorem blocksStarted_still (s : State) (i : StartInputs) (store : SettingsStore) (kept : Leaf → Option KeptLeaf) (u : Leaf) :
    ((s.blocksStarted i store kept).units.get u).status = .rest ∧
      ((s.blocksStarted i store kept).feedback.get u).probe.inProgress = false := by
  constructor
  · show ((Four.ofFn fun l => UnitRecord.kept (kept l)).get u).status = _
    rw [Four.get_ofFn]
    unfold UnitRecord.kept
    split <;> rfl
  · show ((Four.ofFn fun l => FeedbackRecord.kept store.inForce l (kept l)).get u).probe.inProgress = _
    rw [Four.get_ofFn]
    unfold FeedbackRecord.kept
    split <;> rfl

theorem slotsHeld_of_still {s : State} (hunits : ∀ u, (s.units.get u).status = .rest)
    (hprobes : ∀ l, (s.feedback.get l).probe.inProgress = false) : s.slotsHeld = 0 := by
  have hu (u : Leaf) : (s.units.get u).slotsHeld = 0 :=
    UnitRecord.slotsHeld_of_not_inFlight fun r hr => by rw [hunits u] at hr; cases hr
  have hp (l : Leaf) : (s.feedback.get l).probeSlots = 0 := by
    unfold FeedbackRecord.probeSlots
    rw [hprobes l]
    rfl
  unfold State.slotsHeld
  rw [Four.sum_map_eq, Four.sum_map_eq]
  simp only [hu, hp]

theorem started_driveLaws (s : State) (i : StartInputs) (kept : Settings → Leaf → Option KeptLeaf) : DriveLaws (s.started i kept) := by
  unfold State.started
  dsimp only
  have hstill := blocksStarted_still s i (s.store.atStart (startAddress i)) (kept (s.store.atStart (startAddress i)).inForce)
  generalize s.blocksStarted i (s.store.atStart (startAddress i)) (kept (s.store.atStart (startAddress i)).inForce) = b at hstill
  have hunits (u : Leaf) : (b.handKept.reform.units.get u).status = .rest := by
    rw [reform_units, handKept_units]
    exact (hstill u).1
  have hprobes (l : Leaf) : (b.handKept.reform.feedback.get l).probe.inProgress = false := by
    rw [reform_feedback, handKept_feedback]
    exact (hstill l).2
  refine ⟨slotsLawful_drive ⟨?_, fun u r hr => ?_⟩, fun _ => drive_ended (reform_weatherFormed _) (reform_brigade _), fun _ hkey => ?_⟩
  · rw [slotsHeld_of_still hunits hprobes]
    exact Nat.zero_le 3
  · rw [hunits u] at hr
    cases hr
  · exact Stilled.drive ⟨fun u => .inl (hunits u), hprobes⟩ ((driven_drive _).sameInputs.stationKey.symm.trans hkey)

theorem startQueue_congr {s t : State} (hcfg : t.cfg = s.cfg) (hunits : t.units = s.units) : t.startQueue = s.startQueue := by
  have hinsert (u : Leaf) (q : List Leaf) : t.insertEntry u q = s.insertEntry u q := by
    induction q with
    | nil => rfl
    | cons v q ih =>
      unfold State.insertEntry State.queueBefore
      rw [ih, hunits]
  unfold State.startQueue
  rw [hcfg, hunits]
  simp only [hinsert]

/-- The outputs formed stand while the time and the queue of commands alone change. -/
theorem refresh_tick {s : State} (h : s.refresh = s) (now : Nat) (pending : List Instr) :
    ({ s with now := now, pending := pending } : State).refresh = { s with now := now, pending := pending } := by
  have harbiter : ({ s with now := now, pending := pending } : State).formArbiter = s.formArbiter := by
    unfold State.formArbiter
    rw [startQueue_congr (s := s) (t := { s with now := now, pending := pending }) rfl rfl]
    rfl
  have hpins : s.formPins = s.pins := congrArg State.pins h
  have hviews : Four.ofFn s.formView = s.views := congrArg State.views h
  have harb : s.formArbiter = s.arbiter := congrArg State.arbiter h
  unfold State.refresh
  rw [harbiter, harb]
  show ({ s with now := now, pending := pending, pins := s.formPins, views := Four.ofFn s.formView } : State) = _
  rw [hpins, hviews]

theorem DriveLawful.tick {s : State} (h : DriveLawful s) (now : Nat) (pending : List Instr) :
    DriveLawful { s with now := now, pending := pending } :=
  DriveLaws.lawful (h.laws.congr ⟨rfl, rfl, rfl, rfl, rfl, rfl, rfl, rfl⟩ (sameDrive_of_eq rfl rfl rfl rfl))
    fun hs => refresh_tick (h.formed hs) now pending

/-- Settles O49, by the induction over the kinds of effects: what takes a slot is granted one, the end of an event hands every pair,
and nothing moves a stilled station. -/
theorem everyStepKeepsDriveLaws : Obligations.EveryStepKeepsDriveLaws := by
  intro s t hs h
  unfold step at h
  split at h
  next => rw [← Host.Outcome.next.inj h]; exact hs.tick (s.now + 1) s.pending
  next c rest _ =>
    have hq : DriveLawful { s with pending := rest } := hs.tick s.now rest
    generalize ({ s with pending := rest } : State) = q at h hq
    obtain ⟨i, kept, -, rfl⟩ | rfl | ⟨hphase, u, hu, rfl⟩ := exec_cases h
    · exact (started_driveLaws q i kept).refresh.lawful fun _ => State.refresh_refresh _
    · exact hq
    · exact (hu.driveLaws hphase hq.laws).refresh.lawful fun _ => State.refresh_refresh _

end Sys2Proof.Machine
end

section
/-! SUPPORT. Statements about the end of an event, from what a command comes to; zones, brigade overrides and reports made due. -/

namespace Sys2Proof.Machine

/-! ### The end of an event -/

/-- A command whose event closes in `a`. -/
theorem completes_close {c : Instr} {s a : State} {r : Bool} {post : State → Prop} (hexec : exec c s = .next (a.close s r).refresh)
    (ha : a.phase = .running) (hpost : ∀ t, Closes s a t r → post t) : Completes c s post :=
  ⟨_, hexec, hpost _ (closes_close a s r ha)⟩

/-- A command that ends with a report made due where one is. -/
theorem completes_composeDue {c : Instr} {s a : State} {r : Bool} {post : State → Prop}
    (hexec : exec c s = .next (a.composeDue s r).refresh) (ha : a.phase = .running) (hpost : ∀ t, Reports s a t r → post t) :
    Completes c s post := ⟨_, hexec, hpost _ (reports_composeDue a s r ha)⟩

theorem Running.started {s : State} (h : Running s) : s.phase ≠ .off := by
  rw [show s.phase = .running from h]
  exact nofun

/-- The resolution of overrides reads the own override, the peers, the own address and the settings. -/
theorem resolution_eq_of {s t : State} (hown : t.zones.ownOverride = s.zones.ownOverride) (hpeers : t.peers = s.peers)
    (haddress : t.line.ownAddress = s.line.ownAddress) (hstore : t.store = s.store) : t.resolution = s.resolution := by
  simp only [State.resolution, State.overrideCandidates, State.peerOverrides, State.cfg, hown, hpeers, haddress, hstore]

theorem Follows.resolution {a t : State} (h : Follows a t) : t.resolution = a.resolution :=
  resolution_eq_of h.ownOverride h.peers (LineInterface.ownAddress_of_unslotted h.line) h.store

theorem formWeather_setBrigade (s : State) (b : Option OverrideAction) :
    ({ s with zones := { s.zones with brigade := b } } : State).formWeather.weather = s.formWeather.weather := by
  unfold State.formWeather
  dsimp only
  split <;> split
  · rfl
  next h k => exact absurd h k
  next h k => exact absurd k h
  · rfl

/-- The brigade result that an event forms again is no part of what it came to. -/
theorem Closes.setBrigade {s a t : State} {r : Bool} (h : Closes s a t r) (b : Option OverrideAction) :
    Closes s { a with zones := { a.zones with brigade := b } } t r where
  follows := by
    obtain ⟨h1, h2, h3, h4, h5, h6, h7, h8, h9, h10, h11, h12, h13, h14, h15, h16, h17, h18, h19, h20, h21, h22, h23, h24, h25⟩ := h.follows
    exact ⟨h1, h2, h3, h4, h5, h6, h7, h8, h9, h10, h11, h12, h13, h14, h15, h16, h17, h18, h19, h20, h21, h22, h23, h24, h25⟩
  weather := h.weather.trans (formWeather_setBrigade a b).symm
  brigade := h.brigade
  slot := ⟨h.slot.due, h.slot.kept⟩

/-- Settles O1. -/
theorem stepTakesFrontCommand : Obligations.StepTakesFrontCommand := by
  refine ⟨fun c rest s h => ?_, fun s h => ?_⟩ <;>
    · unfold step
      rw [h]

/-! ### Folds that select -/

/-- A fold that keeps the better of two by a preorder ends in a member that is the better of every member. -/
theorem foldl_select {α : Type} {R : α → α → Prop} {f : α → α → α} (refl : ∀ p, R p p) (trans : ∀ {p q r}, R p q → R q r → R p r)
    (hf : ∀ p q, (f p q = q ∧ R q p) ∨ (f p q = p ∧ R p q)) (c : α) (cs : List α) :
    cs.foldl f c ∈ c :: cs ∧ ∀ q ∈ c :: cs, R (cs.foldl f c) q := by
  induction cs generalizing c with
  | nil => exact ⟨List.mem_singleton_self c, List.forall_mem_singleton.2 (refl c)⟩
  | cons d ds ih =>
    obtain ⟨hmem, hover⟩ := ih (f c d)
    obtain ⟨hbest, hrest⟩ := List.forall_mem_cons.1 hover
    rw [List.foldl_cons]
    have hboth : f c d ∈ [c, d] ∧ R (f c d) c ∧ R (f c d) d := by
      obtain ⟨heq, h⟩ | ⟨heq, h⟩ := hf c d <;> rw [heq]
      · exact ⟨by simp, h, refl d⟩
      · exact ⟨by simp, refl c, h⟩
    refine ⟨?_, List.forall_mem_cons.2 ⟨trans hbest hboth.2.1, List.forall_mem_cons.2 ⟨trans hbest hboth.2.2, hrest⟩⟩⟩
    obtain h | h := List.mem_cons.1 hmem
    · rw [h]
      obtain h' | h' := List.mem_cons.1 hboth.1
      · rw [h']
        exact List.mem_cons_self
      · rw [List.mem_singleton.1 h']
        exact .tail _ List.mem_cons_self
    · exact .tail _ (.tail _ h)

/-! ### Brigade overrides -/

/-- An override governs over another (R18): its epoch is higher, or the epochs are equal and its address is no higher. -/
def OverrideGoverns (p q : Nat × Override) : Prop := q.2.epoch < p.2.epoch ∨ (q.2.epoch = p.2.epoch ∧ p.1 ≤ q.1)

theorem betterOverride_cases (p q : Nat × Override) :
    (betterOverride p q = q ∧ OverrideGoverns q p) ∨ (betterOverride p q = p ∧ OverrideGoverns p q) := by
  unfold betterOverride OverrideGoverns
  split
  next h =>
    simp only [Bool.or_eq_true, Bool.and_eq_true, decide_eq_true_eq] at h
    exact .inl ⟨rfl, h.imp_right fun ⟨hepoch, haddress⟩ => ⟨hepoch, haddress.le⟩⟩
  next h =>
    simp only [Bool.or_eq_true, Bool.and_eq_true, decide_eq_true_eq] at h
    exact .inr ⟨rfl, by omega⟩

theorem mem_peerOverrides_iff {s : State} {a : Nat} {o : Override} :
    (a, o) ∈ s.peerOverrides ↔ ∃ c, (a, c) ∈ s.peers.fresh ∧ c.overridePart = some o := by
  unfold State.peerOverrides
  rw [List.mem_filterMap]
  constructor
  · rintro ⟨⟨b, c⟩, hmem, hmap⟩
    obtain ⟨o', ho, he⟩ := Option.map_eq_some_iff.1 hmap
    cases he
    exact ⟨c, hmem, ho⟩
  · rintro ⟨c, hmem, ho⟩
    exact ⟨(a, c), hmem, by rw [ho]; rfl⟩

theorem mem_overrideCandidates_iff {s : State} {a : Nat} {o : Override} : (a, o) ∈ s.overrideCandidates ↔
    s.cfg.smokeZone.isIn o.zoneSet = true ∧ ((a = s.line.ownAddress ∧ s.zones.ownOverride = some o) ∨
      ∃ c, (a, c) ∈ s.peers.fresh ∧ c.overridePart = some o) := by
  unfold State.overrideCandidates
  rw [List.mem_filter, List.mem_append, mem_peerOverrides_iff, List.mem_map]
  have hown : (∃ o', o' ∈ s.zones.ownOverride.toList ∧ (s.line.ownAddress, o') = (a, o)) ↔
      a = s.line.ownAddress ∧ s.zones.ownOverride = some o := by
    simp only [Option.mem_toList, Prod.mk.injEq]
    constructor
    · rintro ⟨o', ho, rfl, rfl⟩
      exact ⟨rfl, ho⟩
    · rintro ⟨rfl, ho⟩
      exact ⟨o, ho, rfl, rfl⟩
  rw [hown, and_comm]

/-- Settles O7: the fold over the candidates keeps the one that governs. -/
theorem highestEpochThenLowestAddressGoverns : Obligations.HighestEpochThenLowestAddressGoverns := by
  intro s
  refine ⟨fun h => ?_, fun h => ?_, fun a o => mem_overrideCandidates_iff⟩
  · unfold State.resolution
    rw [h]
    rfl
  · unfold State.resolution
    cases hc : s.overrideCandidates with
    | nil => exact absurd hc h
    | cons c cs =>
      obtain ⟨hmem, hover⟩ := foldl_select (R := OverrideGoverns) (fun p => .inr ⟨rfl, Nat.le_refl _⟩)
        (fun h k => by unfold OverrideGoverns at *; omega) betterOverride_cases c cs
      exact ⟨_, hmem, rfl, hover⟩

/-- The epochs of the peers' overrides that share a zone with the brigade zones (R16). -/
theorem newEpoch_eq (s : State) : s.newEpoch = min 65535 ((s.peers.fresh.filterMap fun p => p.2.overridePart.bind fun o =>
    if o.zoneSet &&& s.cfg.brigadeZones ≠ 0#8 then some o.epoch else none).foldl max (match s.zones.ownOverride with
      | some o => o.epoch
      | none => s.zones.remembered) + 1) := by
  unfold State.newEpoch State.peerOverrides
  rw [List.filterMap_filterMap]
  have hpart : (fun p : Nat × PeerContent => (p.2.overridePart.map fun o => (p.1, o)).bind fun p =>
      if overlaps p.2.zoneSet s.cfg.brigadeZones = true then some p.2.epoch else none) =
      fun p => p.2.overridePart.bind fun o => if o.zoneSet &&& s.cfg.brigadeZones ≠ 0#8 then some o.epoch else none := by
    funext p
    cases p.2.overridePart with
    | none => rfl
    | some o => simp [overlaps]
  rw [hpart] <;> rfl

/-- Settles O6: a moved switch forms or drops the own override, and its event closes. -/
theorem brigadeSwitchMakesOverride : Obligations.BrigadeSwitchMakesOverride := by
  intro s new hs hpanel hdue
  let u := s.setDetection { s.detection with brigade := .taken new }
  have hexec : exec .brigadeSwitchChange s =
      .next ((u.deliverBrigade s.detection.brigade.held new).1.close s (u.deliverBrigade s.detection.brigade.held new).2).refresh := by
    show Host.Outcome.next (s.act _) = _
    rw [State.act_started hs.started, hdue]
    exact congrArg (fun x : State => Host.Outcome.next x.refresh) (if_pos hpanel)
  have heq := deliverBrigade_eq u s.detection.brigade.held new
  refine completes_close hexec (by rw [heq]; exact hs) fun t h => ?_
  have hresolved : t.zones.brigade = t.resolution := h.brigade.trans h.follows.resolution.symm
  have hdetection : t.detection = { s.detection with brigade := ⟨new, none⟩ } := by
    rw [h.follows.detection, heq]
    rfl
  have hcloses {v : State} {request : Bool} (hv : u.deliverBrigade s.detection.brigade.held new = (v, request)) :
      t.zones.ownOverride = v.zones.ownOverride ∧ t.zones.remembered = v.zones.remembered ∧
        (v = { u with zones := v.zones } → v.zones.records = s.zones.records → Closes s { s with
          zones := { t.zones with records := s.zones.records }
          detection := { s.detection with brigade := ⟨new, none⟩ } } t request) := by
    have hv' : Closes s v t request := by
      rw [hv] at h
      exact h
    refine ⟨hv'.follows.ownOverride, hv'.follows.remembered, fun hvu hrecords => ?_⟩
    have hzones : ({ t.zones with records := s.zones.records } : ZoneLogic) = { v.zones with brigade := t.zones.brigade } := by
      dsimp only
      rw [hv'.follows.ownOverride, hv'.follows.remembered, hrecords]
    have hset := hv'.setBrigade t.zones.brigade
    rw [← hzones, hvu] at hset
    exact hset
  by_cases hsame : s.detection.brigade.held.action = new.action
  · obtain ⟨hown, hremembered, hcl⟩ := hcloses (if_pos hsame)
    simp only [hsame, ne_eq, not_true_eq_false, decide_false, Bool.false_and, Bool.false_eq_true, if_false]
    exact ⟨by rw [hdetection], hown, hremembered, hresolved, hcl rfl rfl⟩
  · simp only [hsame, ne_eq, not_false_eq_true, decide_true, Bool.true_and, if_true]
    cases hnew : new.action with
    | none =>
      obtain ⟨hown, hremembered, hcl⟩ := hcloses ((if_neg hsame).trans (by rw [hnew]))
      exact ⟨by rw [hdetection], hown, hremembered, hresolved, hcl rfl rfl⟩
    | some action =>
      obtain ⟨hown, hremembered, hcl⟩ := hcloses ((if_neg hsame).trans (by rw [hnew]))
      have hepoch : u.newEpoch = _ := newEpoch_eq s
      refine ⟨by rw [hdetection], hown.trans ?_, hremembered.trans ?_, hresolved, hcl rfl rfl⟩
      · show some (⟨action, s.cfg.brigadeZones, u.newEpoch⟩ : Override) = _
        rw [hepoch]
        rfl
      · exact hepoch

end Sys2Proof.Machine
end

section
/-! SUPPORT. The report composer and the line: reports made due and begun, an attempt's waiting, bad frames and joins. -/

namespace Sys2Proof.Machine

/-- What a command of a started station answers, from what it does. -/
theorem next_act {s : State} (hs : s.phase ≠ .off) (f : State → State) {t : State} (h : f s = t) :
    Host.Outcome.next (φ := Fault) (ρ := Refusal) (s.act f) = .next t.refresh := by
  rw [State.act_started hs, h]

/-! ### Reports made due -/

theorem contentDiffers_iff (s : State) :
    s.contentDiffers = true ↔ s.composer.lastComposed.map Report.content ≠ some s.content := decide_eq_true_iff

/-- Settles O12. -/
theorem reportMadeDueByDifference : Obligations.ReportMadeDueByDifference := by
  intro s before request hs due urgent t
  have hphase : s.phase = .running := hs
  have hcond : (s.phase = .running && ((s.content ≠ before.content && s.contentDiffers) || request)) = true ↔ due := by
    simp [hphase, contentDiffers_iff, due]
  have hurgent : s.contentUrgent = true ↔ urgent := by
    unfold State.contentUrgent
    cases h : s.composer.lastComposed with
    | none => simp [urgent, h]
    | some r => simp [urgent, h, urgentDifference, or_assoc]
  refine ⟨fun h => if_neg fun hc => h (hcond.1 hc), fun h => ?_⟩
  have ht : t = s.makeDue s.contentUrgent := if_pos (hcond.2 h)
  rw [ht]
  refine ⟨?_, ?_, rfl⟩
  · show some _ = some true ∨ some _ = some false
    cases s.line.pendingSlot.getD false || s.contentUrgent <;> simp
  · rw [← hurgent]
    show some (s.line.pendingSlot.getD false || s.contentUrgent) = some true ↔ _
    cases s.line.pendingSlot with
    | none => simp
    | some slot => cases slot <;> simp

/-- Nothing is made due where the content is as at the event's beginning and none is requested. -/
theorem composeDue_of_same {s before : State} (h : s.content = before.content) : s.composeDue before false = s := by
  unfold State.composeDue
  rw [if_neg]
  simp [h]

/-! ### The first attempt -/

theorem mayBegin_iff {s : State} (hs : Running s) : s.mayBegin = true ↔ (∃ urgent, s.line.pendingSlot = some urgent) ∧
    s.composer.holdoffEnds = none ∧ s.line.series = none ∧ s.line.join = .running := by
  have hphase : s.phase = .running := hs
  simp [State.mayBegin, hphase, Option.isSome_iff_exists, and_assoc]

/-- An attempt that waits draws its backoff where the line is IDLE (R36). -/
theorem drawBackoff_waiting {s : State} {r : Series} (hr : s.line.series = some r) (hp : r.phase = .waitingIdle)
    (hbusy : s.line.busy = false) : s.drawBackoff = { s with
      draws := s.draws + 1
      line := { s.line with series := some { r with phase := .backoff (Config.draw s.draws % r.window) s.now } } } := by
  unfold State.drawBackoff
  rw [hr]
  dsimp only
  rw [hp, hbusy]
  rfl

theorem drawBackoff_of_busy {s : State} (hbusy : s.line.busy = true) : s.drawBackoff = s := by
  unfold State.drawBackoff
  rw [hbusy]
  split
  · rw [if_neg (by simp)]
  · rfl

theorem drawBackoff_of_not_waiting {s : State} (h : ∀ r, s.line.series = some r → r.phase ≠ .waitingIdle) : s.drawBackoff = s := by
  unfold State.drawBackoff
  split
  next r hr => rw [if_neg (by simp [h r hr])]
  · rfl

/-- Settles O13. -/
theorem composerBeginsReportsAndTimers : Obligations.ComposerBeginsReportsAndTimers := by
  intro s hs
  refine ⟨fun urgent hslot hholdoff hseries hjoin => ?_, fun h => ?_, fun due hdue => ⟨fun h => ?_, fun h => ?_⟩⟩
  · have hmay : s.mayBegin = true := (mayBegin_iff hs).2 ⟨⟨urgent, hslot⟩, hholdoff, hseries, hjoin⟩
    have hexec : exec .firstAttemptBegins s = .next (s.beginReport urgent).refresh := by
      refine next_act hs.started _ ((if_pos hmay).trans ?_)
      rw [hslot]
      rfl
    refine ⟨_, hexec, ?_⟩
    have hjitter : Config.draw s.draws % jitterBound ≤ 200 := Nat.le_of_lt_succ (Nat.mod_lt _ (by decide))
    unfold State.beginReport
    dsimp only
    obtain hbusy | hbusy := Bool.eq_false_or_eq_true s.line.busy
    · rw [drawBackoff_of_busy (by exact hbusy)]
      exact ⟨rfl, rfl, rfl, rfl, ⟨_, hjitter, rfl⟩, fun _ => rfl, fun h => absurd (hbusy.symm.trans h) (by decide), rfl⟩
    · rw [drawBackoff_waiting (by exact rfl) rfl (by exact hbusy)]
      exact ⟨rfl, rfl, rfl, rfl, ⟨_, hjitter, rfl⟩, fun h => absurd (hbusy.symm.trans h) (by decide),
        fun _ => ⟨_, Nat.mod_lt _ (backoffWindow_pos 1 urgent), rfl⟩, rfl⟩
  · refine next_act hs.started _ (if_neg fun hmay => ?_)
    obtain ⟨⟨urgent, hslot⟩, hholdoff, hseries, hjoin⟩ := (mayBegin_iff hs).1 hmay
    obtain h | h | h | h := h
    · rw [hslot] at h
      cases h
    · exact h hholdoff
    · exact h hseries
    · exact h hjoin
  · refine next_act hs.started _ ?_
    rw [h]
    exact if_pos hdue
  · refine next_act hs.started _ ?_
    rw [h]
    refine (if_pos hdue).trans ?_
    unfold State.makeDue slotAfter
    cases s.line.pendingSlot with
    | none => rfl
    | some slot => cases slot <;> rfl

/-! ### Readback -/

/-- Settles O16. -/
theorem readbackSendsOrCollides : Obligations.ReadbackSendsOrCollides := by
  intro s x n rx hs hlaw hx hp differs c col
  obtain ⟨hattempt, hfive, -⟩ := hlaw.attempt x hx
  rw [exec_byteReadback_transmitting rx hs.started hx hp]
  refine congrArg (fun y => Host.Outcome.next (State.refresh (s.setLine y))) ?_
  by_cases hd : differs
  · rw [if_pos ((readbackDiffers_iff x n rx).2 hd), if_pos hd]
    by_cases hlt : x.attempt < 5
    · rw [LineInterface.collide_of_lt hlt, if_pos hlt, fieldSucc_eq_min hlaw.collisions]
      have hwindow : backoffWindow (x.attempt + 1) false = if x.attempt = 1 then 16 else if x.attempt = 2 then 32 else 64 := by
        rw [backoffWindow_succ hattempt]
        split <;> simp_all
      rw [hwindow]
    · rw [LineInterface.collide_of_le (Nat.not_lt.1 hlt), if_neg hlt, fieldSucc_eq_min hlaw.collisions,
        fieldSucc_eq_min hlaw.failures]
  · rw [if_neg fun h => hd ((readbackDiffers_iff x n rx).1 h), if_neg hd]
    unfold LineInterface.byteSent
    split
    · rfl
    · rw [fieldSucc_eq_min hlaw.sent]

/-! ### The line's activity -/

theorem judgeBytes_nil : judgeBytes [] = none := rfl

/-- A start bit with its byte (R35, R37, R40). -/
theorem startBit_takeByte (y : LineInterface) (now : Nat) (rx : Option RxByte) :
    (y.startBit now).takeByte rx = { y with
      busy := true
      lastByte := now
      series := backoffAbandoned y.series
      receiver := if y.busy = false ∧ y.receiver = .hunting ∧ y.transmitting = false then .assembling else y.receiver
      rxBytes := if y.busy = false ∧ y.receiver = .hunting ∧ y.transmitting = false then rx.toList
        else if y.receiver = .assembling ∧ y.transmitting = false ∧ judgeBytes y.rxBytes = none then y.rxBytes ++ rx.toList
        else y.rxBytes } := by
  have hseries := y.startBit_series now
  have htransmitting := y.startBit_transmitting now
  by_cases hopens : y.busy = false ∧ y.receiver = .hunting ∧ y.transmitting = false
  · have hopen : y.opensFrame = true := by simp [LineInterface.opensFrame, hopens]
    have hstart : y.startBit now = { y with
        busy := true, lastByte := now, series := backoffAbandoned y.series, receiver := .assembling, rxBytes := [] } := by
      rw [← hseries]
      unfold LineInterface.startBit
      rw [hopen]
      rfl
    rw [if_pos hopens, if_pos hopens]
    unfold LineInterface.takeByte
    rw [LineInterface.assemblingFrame, htransmitting, hopens.2.2, hstart, judgeBytes_nil]
    rfl
  · have hopen : y.opensFrame = false := by
      rw [Bool.eq_false_iff]
      intro h
      simp only [LineInterface.opensFrame, Bool.and_eq_true, Bool.not_eq_true', decide_eq_true_eq] at h
      exact hopens ⟨h.1.1, h.1.2, h.2⟩
    have hstart : y.startBit now = { y with busy := true, lastByte := now, series := backoffAbandoned y.series } := by
      rw [← hseries]
      unfold LineInterface.startBit
      rw [hopen]
      rfl
    rw [if_neg hopens, if_neg hopens]
    unfold LineInterface.takeByte
    rw [LineInterface.assemblingFrame, htransmitting, hstart]
    dsimp only
    by_cases hjoins : y.receiver = .assembling ∧ y.transmitting = false ∧ judgeBytes y.rxBytes = none
    · rw [if_pos hjoins, if_pos (by simp [hjoins])]
    · rw [if_neg hjoins, if_neg fun h => hjoins ?_]
      simp only [Bool.and_eq_true, Bool.not_eq_true', decide_eq_true_eq, Option.isNone_iff_eq_none] at h
      exact ⟨h.1.1, h.1.2, h.2⟩

/-- Bytes judged good begin with a good frame without a framing error. -/
theorem exists_goodFrame_of_judgeBytes {rx f : List RxByte} (h : judgeBytes rx = some (f, .good)) :
    ∃ g later, goodFrame g = true ∧ rx = g.map cleanByte ++ later := by
  obtain ⟨later, hrx, hverdict, hshorter⟩ := (judgeBytes_eq_some_iff rx f .good).1 h
  have hnone : badFinding f = none := by
    unfold verdictAt at hverdict
    split at hverdict
    · cases hverdict
    next h => exact h
  have hcomplete : frameComplete (f.map RxByte.data) = true := by
    by_contra hnot
    unfold verdictAt at hverdict
    rw [hnone, if_neg hnot] at hverdict
    cases hverdict
  have hclean : f = (f.map RxByte.data).map cleanByte := by
    have hframing : f.any RxByte.framingError = false := by
      by_contra hany
      unfold badFinding at hnone
      rw [if_pos (by simpa using hany)] at hnone
      cases hnone
    rw [List.map_map]
    conv_lhs => rw [← List.map_id f]
    refine List.map_congr_left fun b hb => ?_
    have hbyte := (List.any_eq_false.1 hframing) b hb
    obtain ⟨data, framing⟩ := b
    cases framing with
    | false => rfl
    | true => exact absurd rfl hbyte
  obtain ⟨htwo, hlong⟩ := (frameComplete_iff _).1 hcomplete
  refine ⟨f.map RxByte.data, later, (goodFrame_iff _).2 ⟨hcomplete, ?_, by rw [← hclean]; exact hnone⟩, by rw [← hclean]; exact hrx⟩
  by_contra hne
  have hlt : (byteAt (f.map RxByte.data) 1).toNat + 4 < f.length := by
    rw [List.length_map] at hlong hne
    omega
  have hverdict' := hshorter _ hlt
  have hlen : ((f.map RxByte.data).take ((byteAt (f.map RxByte.data) 1).toNat + 4)).length =
      (byteAt (f.map RxByte.data) 1).toNat + 4 := List.length_take_of_le hlong
  have hshort : frameComplete ((f.take ((byteAt (f.map RxByte.data) 1).toNat + 4)).map RxByte.data) = true := by
    rw [List.map_take, frameComplete_iff, hlen, byteAt_take _ (by omega)]
    omega
  unfold verdictAt at hverdict'
  rw [hshort] at hverdict'
  split at hverdict' <;> cases hverdict'

/-- The frame being assembled is whole where its bytes bring a good frame (R40, log entry 12). -/
theorem cutShort_iff {s : State} : s.line.cutShort = true ↔ s.line.receiver = .assembling ∧
    ∀ f, goodFrame f = true → ¬ bringsFrame s [] f := by
  have hbrings (f : List Byte) : bringsFrame s [] f ↔ ∃ later, s.line.rxBytes = f.map cleanByte ++ later := by
    unfold bringsFrame
    rw [List.map_nil, List.append_nil]
  unfold LineInterface.cutShort
  rw [Bool.and_eq_true, decide_eq_true_iff]
  refine and_congr_right fun _ => ?_
  constructor
  · intro h f hf hb
    obtain ⟨later, hlater⟩ := (hbrings f).1 hb
    rw [hlater, judgeBytes_goodFrame hf] at h
    cases h
  · intro h
    split
    next g hg =>
      obtain ⟨f, later, hf, hrx⟩ := exists_goodFrame_of_judgeBytes hg
      exact absurd ((hbrings f).2 ⟨later, hrx⟩) (h f hf)
    · rfl
    · rfl

/-- The line's event 3 ms after the last byte (R35, R40, R41). -/
theorem exec_lineIdle {s : State} (hs : Running s) (hbusy : s.line.busy = true) (hquiet : s.line.transmitting = false)
    (hover : s.line.lastByte + 3 ≤ s.now) {v : State × Bool}
    (hv : (if s.line.cutShort then (s.onLine LineInterface.idle).takeBadFrame else (s.onLine LineInterface.idle, false)) = v) :
    exec .lineIdle s = .next (v.1.drawBackoff.composeDue s v.2).refresh := by
  refine next_act hs.started _ ?_
  rw [hbusy, hquiet]
  refine (if_pos ?_).trans ?_
  · exact decide_eq_true hover
  · rw [← hv]

/-- Settles O14. -/
theorem backoffAbandonedRedrawnAndSent : Obligations.BackoffAbandonedRedrawnAndSent := by
  intro s hs hlaw y
  refine ⟨fun rx => ?_, fun x r since hx hp => ⟨fun hidle hover => ?_, fun h => ?_⟩, fun h => ?_, fun hbusy hquiet hover hwhole => ?_⟩
  · exact next_act hs.started _ (congrArg s.setLine (startBit_takeByte y s.now rx))
  · refine next_act hs.started _ ?_
    rw [show s.line.series = some x from hx]
    dsimp only
    rw [hp]
    dsimp only
    rw [show s.line.busy = false from hidle]
    exact if_pos (by simpa [backoffOver] using hover)
  · refine next_act hs.started _ ?_
    rw [show s.line.series = some x from hx]
    dsimp only
    rw [hp]
    dsimp only
    refine if_neg fun hsends => ?_
    simp only [Bool.and_eq_true, Bool.not_eq_true', backoffOver, decide_eq_true_eq] at hsends
    obtain h | h := h
    · rw [show s.line.busy = true from h] at hsends
      exact absurd hsends.1 (by decide)
    · omega
  · refine next_act hs.started _ (if_neg fun hidle => ?_)
    simp only [Bool.and_eq_true, Bool.not_eq_true', State.elapsed, idlePeriod] at hidle
    obtain ⟨⟨hbusy, hquiet⟩, hover⟩ := hidle
    obtain h | h | h := h
    · rw [show s.line.busy = false from h] at hbusy
      cases hbusy
    · rw [show s.line.transmitting = true from h] at hquiet
      cases hquiet
    · exact absurd (of_decide_eq_true hover) (Nat.not_le.2 h)
  · intro idle
    have hcut : s.line.cutShort = false := by
      rw [Bool.eq_false_iff]
      intro h
      obtain ⟨hassembling, hnone⟩ := cutShort_iff.1 h
      obtain h' | ⟨f, hf, hb⟩ := hwhole
      · exact h' hassembling
      · exact hnone f hf hb
    have hexec := exec_lineIdle hs hbusy hquiet hover (v := (s.setLine idle, false)) (by rw [hcut]; rfl)
    refine ⟨fun x hx hp => ?_, fun h => ?_⟩
    · obtain ⟨-, -, hwindow⟩ := hlaw.attempt x hx
      have hdraw := drawBackoff_waiting (s := s.setLine idle) hx hp rfl
      rw [hdraw, composeDue_of_same (by rfl)] at hexec
      exact ⟨_, hexec, _, Nat.mod_lt _ hwindow, rfl⟩
    · rw [drawBackoff_of_not_waiting (s := s.setLine idle) h, composeDue_of_same (by rfl)] at hexec
      exact hexec

end Sys2Proof.Machine
end

section
/-! SUPPORT. Bad frames and joins (R41, R46, R49, R50), and the own address heard (R44). -/

namespace Sys2Proof.Machine

/-- The counter and the monitor after a bad frame (R46, R52). -/
theorem LineInterface.countBad_monitorBad (x : LineInterface) : x.countBad.monitorBad = countedBad x := by
  unfold LineInterface.monitorBad LineInterface.countBad countedBad fieldSucc
  dsimp only
  by_cases h : 15 ≤ x.errorCounter
  · have hfull : min 16 (x.errorCounter + 1) = 16 := by omega
    rw [if_pos hfull, decide_eq_true h, Bool.or_true]
  · have hpart : min 16 (x.errorCounter + 1) ≠ 16 := by omega
    rw [if_neg hpart, decide_eq_false h, Bool.or_false]

/-- A bad frame as the proving period takes it (R49). -/
theorem provingBad_eq {s : State} (hperiod : ∀ p, s.line.proving = some p → p.badFrames ≤ 3 ∧ p.failedPeriods ≤ 3) :
    s.provingBad = ({ s with
      line := provedBad s.line s.now
      peers := settledBy s (joinsFailed s.line) }, joinsFailed s.line) := by
  unfold State.provingBad provedBad joinsFailed settledBy
  cases hj : s.line.join with
  | listen =>
    cases hp : s.line.proving with
    | none => simp
    | some p =>
      obtain ⟨hbad, hfailed⟩ := hperiod p hp
      by_cases hb : p.badFrames < 3
      · simp [hj, hb, State.setLine, show p.badFrames + 1 < 4 by omega, Nat.not_le.2 hb]
      · by_cases hf : p.failedPeriods < 3
        · simp [hj, hb, hf, State.setLine, provingPeriod, show ¬ p.badFrames + 1 < 4 by omega,
            show p.failedPeriods ≠ 3 by omega, Nat.not_le.2 hf]
        · simp [hj, hp, hb, State.setLine, State.enterRunningJoin, show ¬ p.badFrames + 1 < 4 by omega,
            show p.failedPeriods = 3 by omega, Nat.not_lt.1 hb]
  | mute m => simp
  | running => simp

/-- A frame judged bad, handled once (R41, R46, R49, R52). -/
theorem takeBadFrame_eq {s : State} (hperiod : ∀ p, s.line.proving = some p → p.badFrames ≤ 3 ∧ p.failedPeriods ≤ 3) :
    s.takeBadFrame = ({ s with
      line := provedBad (countedBad s.line) s.now
      peers := settledBy s (joinsFailed s.line) }, joinsFailed s.line) := by
  have hline : (s.onLine fun x => x.countBad.monitorBad) = s.setLine (countedBad s.line) :=
    congrArg s.setLine (LineInterface.countBad_monitorBad s.line)
  unfold State.takeBadFrame
  rw [hline, provingBad_eq (by exact hperiod)]
  rfl

/-- Settles O15. -/
theorem frameCutShortJudgedBadAtIdle : Obligations.FrameCutShortJudgedBadAtIdle := by
  intro s hs hlaw hbusy hquiet hover hassembling hnone
  have hcut : s.line.cutShort = true := cutShort_iff.2 ⟨hassembling, hnone⟩
  let idle : State := s.onLine LineInterface.idle
  have htaken : idle.takeBadFrame = _ := takeBadFrame_eq (s := idle) hlaw.period
  have hexec := exec_lineIdle hs hbusy hquiet hover (v := idle.takeBadFrame) (by rw [hcut]; rfl)
  rw [htaken] at hexec
  let v : State := { idle with
    line := provedBad (countedBad idle.line) idle.now
    peers := settledBy idle (joinsFailed idle.line) }
  have hseries : v.line.series = s.line.series := by
    show (provedBad (countedBad idle.line) idle.now).series = _
    unfold provedBad
    split
    · split
      · rfl
      · split <;> rfl
    · rfl
  have hidle : v.line.busy = false := by
    show (provedBad (countedBad idle.line) idle.now).busy = _
    unfold provedBad
    split
    · split
      · rfl
      · split <;> rfl
    · rfl
  by_cases hwaiting : ∃ x, s.line.series = some x ∧ x.phase = .waitingIdle
  · obtain ⟨x, hx, hp⟩ := hwaiting
    have hdraw := drawBackoff_waiting (s := v) (hseries.trans hx) hp hidle
    refine completes_composeDue (a := v.drawBackoff) hexec ((drawBackoff_phase v).trans hs) fun t h => ?_
    refine ⟨some { x with phase := .backoff (Config.draw s.draws % x.window) s.now }, fun y hy _ => ?_, fun hnot => ?_, ?_⟩
    · cases hx.symm.trans hy
      exact ⟨_, Nat.mod_lt _ (hlaw.attempt x hx).2.2, rfl⟩
    · exact absurd hp (hnot x hx)
    · have hdraws : t.draws = s.draws + 1 := by
        rw [h.rest, hdraw]
        rfl
      rw [hdraws]
      rw [hdraw] at h
      exact h
  · have hdraw : v.drawBackoff = v := drawBackoff_of_not_waiting fun x hx hp => hwaiting ⟨x, hseries.symm.trans hx, hp⟩
    refine completes_composeDue (a := v.drawBackoff) hexec ((drawBackoff_phase v).trans hs) fun t h => ?_
    have hdraws : t.draws = s.draws := by
      rw [h.rest, hdraw]
      rfl
    refine ⟨s.line.series, fun y hy hyp => absurd ⟨y, hy, hyp⟩ hwaiting, fun _ => ⟨rfl, hdraws⟩, ?_⟩
    rw [hdraws, ← hseries]
    rw [hdraw] at h
    exact h

/-- The line with the bytes of a frame that has been judged (R35, R37, R40). -/
theorem judged_frameTaken {s : State} (hready : s.line.ready) : (s.line.bytesArrive s.now).judged = frameTaken s := by
  rw [hready.bytesArrive]
  rfl

theorem verdictWith_ready {s : State} (hready : s.line.ready) (rest : List RxByte) :
    (s.line.bytesArrive s.now).verdictWith rest = judgeBytes (s.line.rxBytes ++ rest) := by
  rw [LineInterface.verdictWith, if_pos hready.assemblingFrame, hready.bytesArrive]

theorem judgeBytes_of_bringsBadFrame {s : State} {rest : List RxByte} (h : bringsBadFrame s rest) :
    ∃ f b, judgeBytes (s.line.rxBytes ++ rest) = some (f, .bad b) := by
  obtain ⟨f, later, heq, hbad, hshorter⟩ := h
  obtain ⟨b, hb⟩ := Option.isSome_iff_exists.1 hbad
  refine ⟨f, b, (judgeBytes_eq_some_iff _ _ _).2 ⟨later, heq, ?_, fun k hk => ?_⟩⟩
  · unfold verdictAt
    rw [hb]
  · obtain ⟨hnone, hpart⟩ := hshorter k hk
    unfold verdictAt
    rw [hnone, hpart]
    rfl

/-- Settles O18. -/
theorem badFrameCountedAndProvingJudged : Obligations.BadFrameCountedAndProvingJudged := by
  refine ⟨fun s rest hs hlaw hready => ⟨fun hbad => ?_, fun f later hf heq => ?_⟩,
    fun s p hs hjoin hp => ⟨fun hdue => ?_, fun hdue => ?_⟩⟩
  · obtain ⟨f, b, hverdict⟩ := judgeBytes_of_bringsBadFrame hbad
    have hexec : exec (.badFrame rest) s = .next ((s.setLine (frameTaken s)).takeBadFrame.1.composeDue s
        (s.setLine (frameTaken s)).takeBadFrame.2).refresh := by
      refine next_act hs.started _ ?_
      show (match (s.line.bytesArrive s.now).verdictWith rest with
        | some (_, .bad _) => _
        | some (_, .good) => _
        | none => _) = _
      rw [verdictWith_ready hready, hverdict]
      show (State.composeDue (s.setLine (s.line.bytesArrive s.now).judged).takeBadFrame.1 s
        (s.setLine (s.line.bytesArrive s.now).judged).takeBadFrame.2) = _
      rw [judged_frameTaken hready]
    have htaken : (s.setLine (frameTaken s)).takeBadFrame = _ := takeBadFrame_eq (s := s.setLine (frameTaken s)) hlaw.period
    rw [htaken] at hexec
    exact completes_composeDue hexec hs fun t h => h
  · refine next_act hs.started _ ?_
    show (match (s.line.bytesArrive s.now).verdictWith rest with
      | some (_, .bad _) => _
      | some (_, .good) => _
      | none => _) = _
    rw [verdictWith_ready hready, heq, judgeBytes_goodFrame hf]
  · have hexec : exec .provingTimerExpiry s = .next (s.enterRunningJoin.composeDue s true).refresh := by
      refine next_act hs.started _ ?_
      rw [hjoin, hp]
      exact if_pos hdue
    exact completes_composeDue hexec hs fun t h => h
  · refine next_act hs.started _ ?_
    rw [hjoin, hp]
    exact if_neg (Nat.not_le.2 hdue)

/-- Settles O19. -/
theorem ownAddressFrameMutes : Obligations.OwnAddressFrameMutes := by
  intro s rest f hs hlaw hready hbrings hgood hown
  have hline : (s.onLine fun x => x.bytesArrive s.now).onLine (fun x => x.judged.countGood.monitorGood) =
      s.setLine (countedGood (frameTaken s)) := by
    show s.setLine (s.line.bytesArrive s.now).judged.countGood.monitorGood = _
    rw [LineInterface.countGood_monitorGood, judged_frameTaken hready]
  have hphase : s.phase = .running := hs
  have hexec : exec (.goodFrameReceived rest) s =
      .next ((s.setLine (countedGood (frameTaken s))).addressConflict.composeDue s false).refresh := by
    rw [exec_goodFrameReceived hs.started hready hbrings hgood]
    unfold State.takeGoodFrame
    rw [hline]
    exact congrArg (fun t : State => Host.Outcome.next t.refresh) ((if_neg (not_not_intro hphase)).trans (if_pos hown))
  refine completes_composeDue hexec ((addressConflict_phase _).trans hs) fun t h => ?_
  have hjoin : (s.setLine (countedGood (frameTaken s))).line.join = s.line.join := rfl
  unfold State.addressConflict at h
  rw [hjoin] at h
  refine ⟨fun m hm => ?_, fun hm => ?_⟩
  · rw [hm] at h
    exact h
  · cases hj : s.line.join with
    | mute m => exact absurd hj (hm m)
    | listen =>
      rw [hj] at h
      exact h
    | running =>
      rw [hj] at h
      exact h

end Sys2Proof.Machine
end

section
/-! SUPPORT. A good report of another station: what its zone steps leave of the records and of the detection unit (R5 to R9, R77), and
what the peer table stores of it (R56 to R66). -/

namespace Sys2Proof.Machine

/-! ### The loop reset requested -/

theorem mapLoops_beginReset (v : PerLoop LoopRecord) : PerLoop.mapLoops LoopRecord.beginReset v = loopsResetting v := by
  refine PerLoop.ext_get fun l => ?_
  unfold loopsResetting
  rw [PerLoop.get_mapLoops, PerLoop.get_ofFn]
  rfl

/-- The detection unit after a loop reset request, where local detection stands as formed (R74, R77). -/
def State.resetDetection (s : State) : Detection :=
  if s.detection.loopReset = .none then { s.detection with
    loopReset := .powerOff s.now
    loops := loopsResetting s.detection.loops
    localState := if s.detection.callPoint.state = .alarm then .alarm else .quiet }
  else s.detection

theorem requestLoopReset_eq {s : State} (h : s.detection.callPoint.state = .alarm → s.detection.localState = .alarm) :
    s.requestLoopReset = s.setDetection s.resetDetection := by
  unfold State.requestLoopReset State.resetDetection
  cases hr : s.detection.loopReset with
  | none =>
    rw [if_pos rfl, ← mapLoops_beginReset]
    dsimp only
    rw [formLocal_of_no_entry]
    · rw [State.setDetection_detection, Detection.formed_mapLoops_beginReset]
      rfl
    · rw [State.setDetection_detection, Detection.formed_mapLoops_beginReset]
      intro halarm
      refine h (by_contra fun hcall => ?_)
      rw [if_neg hcall] at halarm
      cases halarm
  | powerOff => rfl
  | settle => rfl

theorem requestLoopReset_of_formed {s : State} (h : s.detection.localState = s.detection.formed) :
    s.requestLoopReset = s.setDetection s.resetDetection :=
  requestLoopReset_eq fun hcall => h.trans (Detection.formed_of_operated hcall)

/-- The adoption step (R6, R7), where local detection stands as formed. -/
theorem adoptionStep_of_formed {s : State} (h : s.detection.localState = s.detection.formed) (marks : PerZone Byte) :
    s.adoptionStep marks = (s.setDetection (if s.adopts marks s.cfg.smokeZone = true then s.resetDetection else s.detection)).setZones
      (PerZone.ofFn fun z => if s.adopts marks z then s.adoptZone z (marks.get z) else s.zones.records.get z) := by
  unfold State.adoptionStep
  dsimp only
  split
  · rw [requestLoopReset_of_formed (by exact h)]
    rfl
  · rfl

theorem Zone.ofNumber?_eq_some_iff {n : Nat} {z : Zone} : Zone.ofNumber? n = some z ↔ n = z.number := by
  constructor
  · intro h
    unfold Zone.ofNumber? at h
    split at h <;> cases h <;> rfl
  · rintro rfl
    exact Zone.ofNumber?_number z

/-- The origin step (R8). -/
theorem originStep_get (s : State) (a : Nat) (origin : Bool) (n : Nat) (z : Zone) :
    (s.originStep a origin n).zones.records.get z =
      if origin && n = z.number then (s.zones.records.get z).latchPeer a else s.zones.records.get z := by
  unfold State.originStep
  cases hz : Zone.ofNumber? n with
  | none =>
    have hne : n ≠ z.number := fun h => by
      rw [Zone.ofNumber?_eq_some_iff.2 h] at hz
      cases hz
    simp [hne]
  | some y =>
    obtain rfl := Zone.ofNumber?_eq_some_iff.1 hz
    cases origin with
    | false => simp
    | true =>
      by_cases hy : z = y
      · subst hy
        simp
      · have hne : y.number ≠ z.number := fun h => hy (Zone.number_injective h.symm)
        simp [hy, hne]

/-- A zone's record after a report from `a`: adopted, then latched by the origin, then by the latch set (R6 to R9). -/
def State.steppedRecord (s : State) (a : Nat) (r : Report) (z : Zone) : ZoneRecord :=
  let adopted := if s.adopts r.marks z then s.adoptZone z (r.marks.get z) else s.zones.records.get z
  let origin := if r.origin && r.smokeZone = z.number then adopted.latchPeer a else adopted
  if z.isIn r.latchSet && r.marks.get z = origin.mark then origin.latchPeer a else origin

theorem zoneSteps_of_formed {s : State} (h : s.detection.localState = s.detection.formed) (a : Nat) (r : Report) :
    s.zoneSteps a r = (s.setDetection (if s.adopts r.marks s.cfg.smokeZone = true then s.resetDetection else s.detection)).setZones
      (PerZone.ofFn (s.steppedRecord a r)) := by
  obtain ⟨v, hv⟩ := zoneSteps_eq_setZones s a r
  have hrecords : ∀ z, v.get z = s.steppedRecord a r z := by
    intro z
    have hsteps : (s.zoneSteps a r).zones.records.get z = v.get z := by rw [hv, State.setZones_records]
    rw [← hsteps]
    unfold State.zoneSteps State.latchSetStep State.steppedRecord
    rw [State.setZones_records, PerZone.get_ofFn]
    have hadopted : (s.adoptionStep r.marks).zones.records.get z =
        if s.adopts r.marks z then s.adoptZone z (r.marks.get z) else s.zones.records.get z := by
      rw [adoptionStep_of_formed h, State.setZones_records, PerZone.get_ofFn]
    rw [originStep_get, hadopted]
  rw [hv, adoptionStep_of_formed h, PerZone.ext_get fun z => (hrecords z).trans (PerZone.get_ofFn _ z).symm]
  rfl

/-! ### The zones of a report taken -/

theorem adoptZone_state (s : State) (z : Zone) (m : Byte) : (s.adoptZone z m).state =
    adoptedState (s.zones.records.get z).state true (decide (z = s.cfg.smokeZone)) (decide (s.detection.callPoint.state = .alarm)) := by
  unfold State.adoptZone adoptedState
  by_cases hz : z = s.cfg.smokeZone
  · rw [if_pos hz, decide_eq_true hz, if_pos rfl]
    unfold ZoneRecord.standDownSmoke State.callPointOperated
    cases hstate : (s.zones.records.get z).state with
    | latched => cases decide (s.detection.callPoint.state = .alarm) <;> rfl
    | clear => rfl
    | pending => rfl
  · rw [if_neg hz, decide_eq_false hz, if_pos rfl]
    cases (s.zones.records.get z).state <;> rfl

/-- An adopted record that is LATCHED has been so, and keeps its source; another has none (R2, R7). -/
theorem adoptZone_source {s : State} (h : RecordsLawful s) (z : Zone) (m : Byte) :
    (s.adoptZone z m).source = if (s.adoptZone z m).state = .latched then (s.zones.records.get z).source else .none := by
  split
  next hlatched =>
    unfold State.adoptZone at hlatched ⊢
    split at hlatched
    next hz =>
      rw [if_pos hz]
      unfold ZoneRecord.standDownSmoke at hlatched ⊢
      cases hstate : (s.zones.records.get z).state with
      | latched =>
        rw [hstate] at hlatched
        cases hcall : s.callPointOperated with
        | true => rfl
        | false =>
          rw [hcall] at hlatched
          cases hlatched
      | clear => rfl
      | pending => rfl
    next => cases hlatched
  next hnot =>
    by_contra hsource
    exact hnot ((h.adoptZone z m).1.2 hsource)

/-- A record before it is latched by a report: adopted or not (R7). -/
theorem adopted_source {s : State} (h : RecordsLawful s) (z : Zone) (m : Byte) (b : Bool) {x : ZoneRecord}
    (hx : x = if b then s.adoptZone z m else s.zones.records.get z) :
    x.source = if x.state = .latched then (s.zones.records.get z).source else .none := by
  cases b with
  | true =>
    rw [hx]
    exact adoptZone_source h z m
  | false =>
    rw [hx]
    show (s.zones.records.get z).source = if (s.zones.records.get z).state = .latched then _ else _
    split
    · rfl
    next hnot =>
      by_contra hsource
      exact hnot ((h.source z).2 hsource)

/-- What a report that is handed on does to a zone's record: R5 to R9 read together. -/
theorem steppedRecord_spec {s : State} (h : RecordsLawful s) (a : Nat) (r : Report) (z : Zone) :
    let old := s.zones.records.get z
    let new := s.steppedRecord a r z
    let adopted := serialGreater (r.marks.get z) old.mark
    let st1 := adoptedState old.state adopted (decide (z = s.cfg.smokeZone)) (decide (s.detection.callPoint.state = .alarm))
    let st2 := if (r.origin && r.smokeZone = z.number) = true then ZoneState.latched else st1
    let listed := z.isIn r.latchSet && r.marks.get z = new.mark
    new.mark = (if adopted then r.marks.get z else old.mark) ∧
      new.state = (if listed then .latched else st2) ∧
      new.source = (if new.state ≠ .latched then .none else if st1 = .latched then old.source else .peer a) := by
  intro old new adopted st1 st2 listed
  obtain ⟨x, hx⟩ : ∃ x, x = if adopted then s.adoptZone z (r.marks.get z) else old := ⟨_, rfl⟩
  have hstate : x.state = st1 := by
    rw [hx]
    cases hadopted : adopted with
    | true =>
      show (s.adoptZone z (r.marks.get z)).state = _
      rw [adoptZone_state]
      simp only [st1, hadopted]
      rfl
    | false =>
      simp only [st1, hadopted]
      rfl
  have hmark : x.mark = if adopted then r.marks.get z else old.mark := by
    rw [hx]
    cases adopted with
    | true => exact adoptZone_mark s z _
    | false => rfl
  have hsource : x.source = if st1 = .latched then old.source else .none := by
    rw [← hstate]
    exact adopted_source h z (r.marks.get z) adopted hx
  have hlatch (y : ZoneRecord) : (y.latchPeer a).mark = y.mark ∧ (y.latchPeer a).state = .latched ∧
      (y.latchPeer a).source = if y.state = .latched then y.source else .peer a :=
    ⟨y.latchPeer_mark a, y.latchPeer_state a, by unfold ZoneRecord.latchPeer; split <;> rfl⟩
  obtain ⟨y, hy⟩ : ∃ y, y = if r.origin && r.smokeZone = z.number then x.latchPeer a else x := ⟨_, rfl⟩
  have hnew : new = if z.isIn r.latchSet && r.marks.get z = y.mark then y.latchPeer a else y := by
    rw [hy, hx]
    rfl
  have hymark : y.mark = x.mark := by
    rw [hy]
    split
    · exact (hlatch x).1
    · rfl
  have hystate : y.state = st2 := by
    rw [hy]
    simp only [st2]
    split
    · exact (hlatch x).2.1
    · exact hstate
  have hysource : y.source = if st2 ≠ .latched then .none else if st1 = .latched then old.source else .peer a := by
    rw [hy]
    simp only [st2]
    split
    · rw [(hlatch x).2.2, hstate, hsource]
      by_cases h1 : st1 = .latched <;> simp [h1]
    · rw [hsource]
      by_cases h1 : st1 = .latched <;> simp [h1]
  have hnewmark : new.mark = y.mark := by
    rw [hnew]
    split
    · exact (hlatch y).1
    · rfl
  refine ⟨hnewmark.trans (hymark.trans hmark), ?_⟩
  have hlisted : (z.isIn r.latchSet && r.marks.get z = y.mark) = listed := by
    simp only [listed]
    rw [hnewmark]
  rw [hlisted] at hnew
  cases hl : listed with
  | true =>
    have heq : new = y.latchPeer a := by rw [hnew, hl]; rfl
    rw [heq, (hlatch y).2.1, (hlatch y).2.2, hystate, hysource]
    refine ⟨rfl, ?_⟩
    by_cases h2 : st2 = .latched
    · simp [h2]
    · have h1 : st1 ≠ .latched := fun h1 => h2 (by simp [st2, h1])
      simp [h2, h1]
  | false =>
    have heq : new = y := by rw [hnew, hl]; rfl
    rw [heq, hystate, hysource]
    exact ⟨rfl, rfl⟩

/-- The station when a report has been stored and handed to the zone logic, where local detection stands as formed (R56). -/
theorem storeReport_of_formed {s : State} (h : s.detection.localState = s.detection.formed) (a : Nat) (r : Report) (st : PeerStatus) :
    s.storeReport a r st = { s with
      peers := (s.storeReport a r st).peers
      zones := { s.zones with records := PerZone.ofFn (s.steppedRecord a r) }
      detection := if s.adopts r.marks s.cfg.smokeZone = true then s.resetDetection else s.detection } := by
  unfold State.storeReport
  rw [zoneSteps_of_formed (by exact h)]
  rfl

/-- A report that is no duplicate is stored (R56, R57). -/
theorem taking_isSome {st : PeerStatus} {r : Report} (h : st.judge r.sequence ≠ .duplicate) (now : Nat) :
    ∃ new, st.taking r now = some new := by
  unfold PeerStatus.taking
  cases hj : st.judge r.sequence with
  | duplicate => exact absurd hj h
  | initialise => exact ⟨_, rfl⟩
  | admitted gap =>
    cases st with
    | fresh c => exact ⟨_, rfl⟩
    | absent => cases hj
    | lost c => cases hj

/-- GOOD_FRAME_RECEIVED with a report that is no duplicate: it is stored, and the event closes (R56). -/
theorem exec_goodFrameReceived_stored {s : State} {rest f : List Byte} {p : PeerRecord} {st : PeerStatus} (hs : Running s)
    (hready : s.line.ready) (hb : bringsFrame s rest f) (hg : goodFrame f = true)
    (hother : (decodeFrame f).source ≠ s.line.ownAddress) (hp : s.peers.find? (decodeFrame f).source = some p)
    (htaking : p.status.taking (decodeFrame f) s.now = some st) : exec (.goodFrameReceived rest) s =
      .next (((s.setLine (countedGood (frameTaken s))).storeReport (decodeFrame f).source (decodeFrame f) st).close s
        (s.zoneStepsReport (decodeFrame f))).refresh := by
  rw [exec_goodFrameReceived_other hs hready hb hg hother]
  exact congrArg (fun t : State => Host.Outcome.next t.refresh)
    (takeReport_stored (s := s.setLine (countedGood (frameTaken s))) hp htaking)

theorem storeReport_phase (s : State) (a : Nat) (r : Report) (st : PeerStatus) : (s.storeReport a r st).phase = s.phase :=
  (samePeerRecords_storeReport s a r st).phase

/-- Settles O2: the records by `steppedRecord_spec`, the detection unit by the loop reset that an adopted smoke zone requests. -/
theorem goodReportAdoptsAndLatches : Obligations.GoodReportAdoptsAndLatches := by
  rintro s rest f r p hs hzones hready hb hg rfl hother hp
  refine ⟨fun hduplicate => ?_, fun hnot => ?_⟩
  · have hexec : exec (.goodFrameReceived rest) s =
        .next ((s.setLine (countedGood (frameTaken s))).composeDue s false).refresh := by
      rw [exec_goodFrameReceived_other hs hready hb hg hother]
      exact congrArg (fun t : State => Host.Outcome.next t.refresh)
        (takeReport_duplicate (s := s.setLine (countedGood (frameTaken s))) hp (PeerStatus.taking_duplicate hduplicate))
    exact completes_composeDue hexec hs fun t h => h
  · obtain ⟨st, hst⟩ := taking_isSome hnot s.now
    have hexec := exec_goodFrameReceived_stored hs hready hb hg hother hp hst
    refine completes_close hexec ((storeReport_phase _ _ _ _).trans hs) fun t h => ?_
    have heq := storeReport_of_formed (s := s.setLine (countedGood (frameTaken s))) hzones.formedNow (decodeFrame f).source
      (decodeFrame f) st
    obtain ⟨-, -, hrecordsLawful, -⟩ := zonesLawful_iff.1 hzones
    have hrecords (z : Zone) : t.zones.records.get z = s.steppedRecord (decodeFrame f).source (decodeFrame f) z := by
      rw [h.follows.zoneRecords, heq]
      exact PerZone.get_ofFn _ z
    have hdetection : t.detection =
        if s.adopts (decodeFrame f).marks s.cfg.smokeZone = true then s.resetDetection else s.detection := by
      rw [h.follows.detection, heq]
      rfl
    refine ⟨fun z => ?_, ?_, ?_⟩
    · have hspec := steppedRecord_spec hrecordsLawful (decodeFrame f).source (decodeFrame f) z
      rw [← hrecords z] at hspec
      exact hspec
    · rw [hdetection]
      unfold State.resetDetection State.adopts
      by_cases hstood : serialGreater ((decodeFrame f).marks.get s.cfg.smokeZone) (s.zones.records.get s.cfg.smokeZone).mark = true
      · by_cases hnone : s.detection.loopReset = .none <;> simp [hstood, hnone]
      · simp [hstood]
    · have hrec : t.zones.records = PerZone.ofFn (s.steppedRecord (decodeFrame f).source (decodeFrame f)) :=
        PerZone.ext_get fun z => (hrecords z).trans (PerZone.get_ofFn _ z).symm
      have hrequest : s.zoneStepsReport (decodeFrame f) =
          (serialGreater ((decodeFrame f).marks.get s.cfg.smokeZone) (s.zones.records.get s.cfg.smokeZone).mark &&
            decide (s.detection.callPoint.state = .alarm) &&
            decide ((s.zones.records.get s.cfg.smokeZone).state = .latched)) := by
        unfold State.zoneStepsReport State.adoptionReports State.adopts State.callPointOperated
        rw [Bool.and_assoc]
      rw [hrec, hdetection, h.follows.peers, ← hrequest]
      rw [heq] at h
      exact h

/-! ### What the peer table stores -/

/-- The records at other addresses. -/
theorem PeerTable.find?_put_other (t : PeerTable) {a b : Nat} (h : b ≠ a) (st : PeerStatus) : (t.put a st).find? b = t.find? b := by
  unfold PeerTable.find? PeerTable.put
  rw [List.find?_map]
  have hcomp : (fun r : PeerRecord => decide (r.address = b)) ∘
      (fun r => if r.address = a then { r with status := st } else r) = fun r => decide (r.address = b) := by
    funext r
    by_cases hr : r.address = a <;> simp [hr]
  rw [hcomp]
  cases hf : t.records.find? (fun r => decide (r.address = b)) with
  | none => rfl
  | some r =>
    have hb : r.address = b := by simpa using List.find?_some hf
    rw [Option.map_some, if_neg (hb ▸ h)]

theorem PeerTable.find?_congr {t u : PeerTable} (h : t.records = u.records) (a : Nat) : t.find? a = u.find? a := by
  unfold PeerTable.find?
  rw [h]

/-- A FRESH record makes the station not ISOLATED (R66). -/
theorem PeerTable.noneFresh_eq_false {t : PeerTable} {p : PeerRecord} {c : PeerContent} (hp : p ∈ t.records)
    (hc : p.status = .fresh c) : t.noneFresh = false := by
  unfold PeerTable.noneFresh
  rw [List.isEmpty_eq_false_iff]
  refine List.ne_nil_of_mem (a := (p.address, c)) (List.mem_filterMap.2 ⟨p, hp, ?_⟩)
  rw [hc]
  rfl

theorem PeerTable.noneFresh_iff (t : PeerTable) : t.noneFresh = true ↔ ∀ p ∈ t.records, ∀ c, p.status ≠ .fresh c := by
  constructor
  · intro h p hp c hc
    rw [PeerTable.noneFresh_eq_false hp hc] at h
    cases h
  · intro h
    unfold PeerTable.noneFresh
    rw [List.isEmpty_iff, PeerTable.fresh, List.filterMap_eq_nil_iff]
    intro p hp
    have hst := h p hp
    cases hp' : p.status with
    | fresh c => exact absurd hp' (hst c)
    | absent => rfl
    | lost c => rfl

theorem formIsolated_of_fresh {s : State} (h : s.formIsolated.peers.noneFresh = false) : s.formIsolated.peers.isolated = false := by
  have h' : s.peers.noneFresh = false := h
  unfold State.formIsolated
  dsimp only
  rw [h', Bool.and_false]

theorem weatherMoves_iff (o : PeerWeather) (w : WeatherPart) (now : Nat) : weatherMoves o w now = true ↔
    o.speed + 5 ≤ w.speed ∨ w.speed + 5 ≤ o.speed ∨ w.sector ≠ o.sector ∨ o.updated + 30000 ≤ now := by
  have hdist : 5 ≤ distance w.speed o.speed ↔ o.speed + 5 ≤ w.speed ∨ w.speed + 5 ≤ o.speed := by
    unfold distance
    omega
  simp [weatherMoves, hdist, or_assoc]

theorem PeerContent.applyGap_weather (c : PeerContent) (gap : Nat) : (c.applyGap gap).weather = c.weather := by
  unfold PeerContent.applyGap
  split
  · rfl
  · split <;> rfl

/-- The weather held for an admitted report's deadband; none where the record is initialised (R58, R63). -/
def heldWeather (st : PeerStatus) (r : Report) : Option PeerWeather :=
  match st with
  | .fresh c => if st.judge r.sequence = .initialise then none else c.weather
  | .absent => none
  | .lost _ => none

/-- What a record holds of a report stored (R58, R61 to R64). -/
structure StoredParts (c : PeerContent) (r : Report) (held : Option PeerWeather) (now : Nat) : Prop where
  condition : c.condition = r.condition
  flags : c.flags = r.flags
  smokeZone : c.smokeZone = r.smokeZone
  origin : c.origin = r.origin
  latchSet : c.latchSet = r.latchSet
  marks : c.marks = r.marks
  comfort : c.comfort = r.comfort
  overridePart : c.overridePart = r.overridePart
  leaves : c.leaves = r.leaves
  weather : c.weather = storeWeather held r.weather now

theorem taking_stores {st new : PeerStatus} {r : Report} {now : Nat} (h : st.taking r now = some new) :
    ∃ c, new = .fresh c ∧ StoredParts c r (heldWeather st r) now := by
  unfold PeerStatus.taking at h
  cases hj : st.judge r.sequence with
  | duplicate =>
    rw [hj] at h
    cases h
  | initialise =>
    rw [hj] at h
    cases h
    have hheld : heldWeather st r = none := by
      unfold heldWeather
      rw [hj]
      cases st <;> rfl
    rw [hheld]
    refine ⟨_, rfl, rfl, rfl, rfl, rfl, rfl, rfl, rfl, rfl, rfl, ?_⟩
    show r.weather.map _ = _
    cases r.weather <;> rfl
  | admitted gap =>
    rw [hj] at h
    cases st with
    | fresh c =>
      cases h
      have hheld : heldWeather (.fresh c) r = c.weather := if_neg (by rw [hj]; exact nofun)
      rw [hheld, ← c.applyGap_weather gap]
      exact ⟨_, rfl, rfl, rfl, rfl, rfl, rfl, rfl, rfl, rfl, rfl, rfl⟩
    | absent => cases h
    | lost c => cases h

/-- Settles O22. -/
theorem reportPartsStored : Obligations.ReportPartsStored := by
  rintro s rest f r p hs hlaw hready hb hg rfl hother hp hnot
  obtain ⟨st, hst⟩ := taking_isSome hnot s.now
  have hexec := exec_goodFrameReceived_stored hs hready hb hg hother hp hst
  refine completes_close hexec ((storeReport_phase _ _ _ _).trans hs) fun t h => ?_
  obtain ⟨c, rfl, hparts⟩ := taking_stores hst
  have haddress := PeerTable.address_of_find? hp
  have hrecords : t.peers.records = (s.peers.put (decodeFrame f).source (.fresh c)).records := by
    rw [h.follows.peers]
    exact (samePeerRecords_storeReport _ _ _ _).records
  have hfind : t.peers.find? p.address = some { p with status := .fresh c } := by
    rw [PeerTable.find?_congr hrecords]
    conv_lhs => rw [haddress]
    exact PeerTable.find?_put hp _
  refine ⟨⟨c, _, hfind, rfl, hparts.condition, hparts.flags, hparts.smokeZone, hparts.origin, hparts.latchSet, hparts.marks,
    hparts.comfort, hparts.overridePart, hparts.leaves, fun hw => ?_, fun w hw hheld => ?_, fun w o hw hheld => ?_⟩,
    fun a ha => ?_, ?_, h.brigade.trans h.follows.resolution.symm, fun hzones => ?_⟩
  · rw [hparts.weather, hw]
    rfl
  · have hheld' : heldWeather p.status (decodeFrame f) = none := hheld
    rw [hparts.weather, hw, hheld']
    rfl
  · have hheld' : heldWeather p.status (decodeFrame f) = some o := hheld
    rw [hparts.weather, hw, hheld']
    show (if weatherMoves o w s.now then some _ else some _) = _
    rw [← apply_ite some]
    simp only [weatherMoves_iff]
    rfl
  · rw [PeerTable.find?_congr hrecords]
    exact PeerTable.find?_put_other _ (haddress ▸ ha) _
  · rw [h.follows.peers]
    have hmem : { p with status := .fresh c } ∈ t.peers.records := PeerTable.mem_of_find? hfind
    rw [h.follows.peers] at hmem
    exact formIsolated_of_fresh (PeerTable.noneFresh_eq_false hmem rfl)
  · rw [h.follows.peers]
    unfold State.storeReport
    rw [zoneSteps_of_formed (by exact hzones.formedNow)]
    rfl

end Sys2Proof.Machine
end

section
/-! SUPPORT. Silence and ISOLATED (R65, R66); the zone-reset key (R11, R77, R82). -/

namespace Sys2Proof.Machine

/-! ### Silence -/

theorem recordAddresses_nodup (own : Nat) : (recordAddresses own).Nodup := by
  unfold recordAddresses
  split
  · exact List.Nodup.filter _ List.nodup_range'
  · exact List.nodup_range'

/-- The record found at an address is the one that stands there. -/
theorem PeerTable.find?_of_mem {t : PeerTable} (h : (t.records.map PeerRecord.address).Nodup) {p : PeerRecord} (hp : p ∈ t.records) :
    t.find? p.address = some p := by
  unfold PeerTable.find?
  have hpair : t.records.Pairwise fun q r => q.address ≠ r.address := List.pairwise_map.1 h
  generalize t.records = ps at hp hpair
  induction ps with
  | nil => cases hp
  | cons q qs ih =>
    obtain ⟨hq, hqs⟩ := List.pairwise_cons.1 hpair
    obtain rfl | hp := List.mem_cons.1 hp
    · exact List.find?_cons_of_pos (decide_eq_true rfl)
    · rw [List.find?_cons_of_neg (by simpa using hq p hp)]
      exact ih hp hqs

theorem noneFresh_iff_find? {t : PeerTable} (h : (t.records.map PeerRecord.address).Nodup) :
    t.noneFresh = true ↔ ∀ b q c, t.find? b = some q → q.status ≠ .fresh c := by
  rw [PeerTable.noneFresh_iff]
  exact ⟨fun hall b q c hq => hall q (PeerTable.mem_of_find? hq) c,
    fun hall p hp c => hall p.address p c (PeerTable.find?_of_mem h hp)⟩

/-- ISOLATED as it is formed (R66). -/
theorem formIsolated_isolated (s : State) : s.formIsolated.peers.isolated = true ↔
    (∃ settled, s.peers.settledFrom = some settled ∧ settled + 7000 ≤ s.now) ∧ s.peers.noneFresh = true := by
  unfold State.formIsolated
  dsimp only
  rw [Bool.and_eq_true]
  refine and_congr_left fun _ => ?_
  cases s.peers.settledFrom with
  | none => simp
  | some settled =>
    have hover : s.elapsed settled silencePeriod = true ↔ settled + 7000 ≤ s.now := decide_eq_true_iff
    simp [hover]

/-- Settles O23. -/
theorem silenceMakesLostAndIsolated : Obligations.SilenceMakesLostAndIsolated := by
  intro s a p c hs hlaw
  have hnodup : (s.peers.records.map PeerRecord.address).Nodup := by
    rw [hlaw.addresses hs.started]
    exact recordAddresses_nodup _
  refine ⟨fun hp hfresh hover => ?_, fun settled hsettled hover => ?_⟩
  · have hexec : exec (.peerSilenceExpiry a) s =
        .next (({ s with peers := s.peers.put a (.lost c) } : State).formIsolated.close s false).refresh := by
      refine next_act hs.started _ ?_
      rw [hp]
      dsimp only
      rw [hfresh]
      exact if_pos (decide_eq_true hover)
    refine completes_close hexec hs fun t h => ?_
    have hpeers : t.peers = ({ s with peers := s.peers.put a (.lost c) } : State).formIsolated.peers := h.follows.peers
    have hrecords : t.peers.records = (s.peers.put a (.lost c)).records := by rw [hpeers]; rfl
    have hnodup' : ((s.peers.put a (.lost c)).records.map PeerRecord.address).Nodup := by
      rw [PeerTable.map_address_put]
      exact hnodup
    refine ⟨?_, fun b hb => ?_, ?_, h.brigade.trans h.follows.resolution.symm, ?_⟩
    · rw [PeerTable.find?_congr hrecords]
      exact PeerTable.find?_put hp _
    · rw [PeerTable.find?_congr hrecords]
      exact PeerTable.find?_put_other _ hb _
    · have hfind (b : Nat) : t.peers.find? b = (s.peers.put a (.lost c)).find? b := PeerTable.find?_congr hrecords b
      simp only [hfind]
      rw [← noneFresh_iff_find? hnodup', hpeers]
      exact formIsolated_isolated _
    · rw [hpeers]
      exact h
  · have hexec : exec .settledTimeReached s = .next (s.formIsolated.composeDue s false).refresh := by
      refine next_act hs.started _ (if_pos ?_)
      unfold State.timerOver
      rw [hsettled]
      exact decide_eq_true hover
    refine completes_composeDue hexec hs fun t h => ?_
    have hpeers : t.peers = s.formIsolated.peers := by
      rw [h.rest]
      rfl
    refine ⟨?_, ?_⟩
    · rw [← noneFresh_iff_find? hnodup, hpeers, formIsolated_isolated]
      exact and_iff_right ⟨settled, hsettled, hover⟩
    · rw [hpeers]
      exact h

/-! ### The zone-reset key -/

theorem pressDue_iff (c : ContactRecord) (now : Nat) : c.pressDue now = true ↔ pressStands c now := by
  unfold ContactRecord.pressDue pressStands
  rw [Bool.and_eq_true, Bool.not_eq_true']
  refine and_congr_right fun _ => ?_
  cases c.hold with
  | none => simp
  | some since =>
    have hstood : decide (since + holdPeriod ≤ now) = true ↔ since + 50 ≤ now := decide_eq_true_iff
    simpa using hstood

theorem anyLatched_iff (s : State) : s.anyLatched = true ↔ ∃ z, (s.zones.records.get z).state = .latched := by
  unfold State.anyLatched
  simp [Zone.mem_all]

theorem callPointOperated_iff (s : State) : s.callPointOperated = true ↔ s.detection.callPoint.state = .alarm := decide_eq_true_iff

/-- The records after an accepted zone reset request, where the call point does not stand OPERATED (R7, R11). -/
theorem acceptReset_of_not_operated {s : State} (h : s.detection.callPoint.state ≠ .alarm) :
    s.acceptReset = (s.setDetection (if (s.zones.records.get s.cfg.smokeZone).state = .latched then s.resetDetection
      else s.detection)).setZones (PerZone.ofFn fun z => if (s.zones.records.get z).state = .latched
        then ⟨if z = s.cfg.smokeZone then .pending else .clear, s.newMarkOf z, .none⟩ else s.zones.records.get z) := by
  have hrecords : (PerZone.ofFn fun z => if decide ((s.zones.records.get z).state = .latched)
      then s.adoptZone z (s.newMarkOf z) else s.zones.records.get z) =
      PerZone.ofFn fun z => if (s.zones.records.get z).state = .latched
        then ⟨if z = s.cfg.smokeZone then .pending else .clear, s.newMarkOf z, .none⟩ else s.zones.records.get z := by
    refine PerZone.ext_get fun z => ?_
    rw [PerZone.get_ofFn, PerZone.get_ofFn]
    by_cases hz : (s.zones.records.get z).state = .latched
    · rw [if_pos (decide_eq_true hz), if_pos hz]
      have hcall : s.callPointOperated = false := by
        rw [Bool.eq_false_iff]
        exact fun hc => h ((callPointOperated_iff s).1 hc)
      unfold State.adoptZone ZoneRecord.standDownSmoke ZoneRecord.standDown
      rw [hz, hcall]
      split <;> rfl
    · rw [if_neg (by simpa using hz), if_neg hz]
  unfold State.acceptReset
  dsimp only
  rw [hrecords]
  by_cases hsmoke : (s.zones.records.get s.cfg.smokeZone).state = .latched
  · rw [if_pos (decide_eq_true hsmoke), if_pos hsmoke]
    exact requestLoopReset_eq (s := s.setZones _) fun hcall => absurd hcall h
  · rw [if_neg (by simpa using hsmoke), if_neg hsmoke]
    rfl

/-- Settles O3. -/
theorem zoneResetKeyRefusedIgnoredAccepted : Obligations.ZoneResetKeyRefusedIgnoredAccepted := by
  intro s hs pressed operated latched
  let u : State := s.setDetection pressed
  have hcall : u.callPointOperated = true ↔ operated := callPointOperated_iff u
  have hany : u.anyLatched = true ↔ ∃ z, latched z := anyLatched_iff u
  refine ⟨fun hnot => next_act hs.started _ (if_neg fun h => hnot ((pressDue_iff _ _).1 h)), fun hpress => ?_⟩
  have hexec {t : State} (h : (if s.cfg.resetRight then u.resetRequest s else u) = t) : exec .zoneResetKeyPress s = .next t.refresh :=
    next_act hs.started _ ((if_pos ((pressDue_iff _ _).2 hpress)).trans h)
  refine ⟨fun h => hexec ?_, fun hright hop => hexec ?_, fun hright hnot hsome => ?_⟩
  · obtain hright | ⟨hnot, hnone⟩ := h
    · rw [hright]
      rfl
    · have htaking : u.resetTaking = .ignored := by
        unfold State.resetTaking
        rw [if_neg fun h => hnot (hcall.1 h), if_neg fun h => absurd (hany.1 h) (not_exists.2 hnone)]
      unfold State.resetRequest
      rw [htaking]
      exact ite_self _
  · have htaking : u.resetTaking = .refused := if_pos (hcall.2 hop)
    rw [if_pos hright]
    unfold State.resetRequest
    rw [htaking]
    rfl
  · have htaking : u.resetTaking = .accepted := by
      unfold State.resetTaking
      rw [if_neg fun h => hnot (hcall.1 h), if_pos (hany.2 hsome)]
    have hrequest : (if s.cfg.resetRight then u.resetRequest s else u) = u.acceptReset.close s true := by
      rw [if_pos hright]
      unfold State.resetRequest
      rw [htaking]
    have heq := acceptReset_of_not_operated (s := u) hnot
    refine completes_close (hexec hrequest) (by rw [heq]; exact hs) fun t h => ?_
    rw [heq] at h
    have hdetection : t.detection = _ := h.follows.detection
    have hrecords : t.zones.records = _ := h.follows.zoneRecords
    refine ⟨fun z => ?_, fun hsmoke hnone => ?_, fun hneither => ?_, ?_⟩
    · rw [hrecords]
      exact PerZone.get_ofFn _ z
    · have hreset : u.resetDetection = { pressed with
          loopReset := .powerOff s.now, loops := loopsResetting s.detection.loops, localState := .quiet } := by
        unfold State.resetDetection
        exact (if_pos hnone).trans (by rw [if_neg (by exact hnot)]; rfl)
      rw [← hreset]
      exact hdetection.trans (if_pos hsmoke)
    · refine hdetection.trans ?_
      by_cases hsmoke : latched s.cfg.smokeZone
      · have hreset : u.resetDetection = pressed := if_neg fun hnone => hneither ⟨hsmoke, hnone⟩
        exact (if_pos hsmoke).trans hreset
      · exact if_neg hsmoke
    · rw [hrecords, hdetection]
      exact h

end Sys2Proof.Machine
end

section
/-! SUPPORT. Field inputs: samples of the loops and the call point, readings of the switch contacts, service buttons and the BM
input (R70 to R73, R79, R81, R84, R86). -/

namespace Sys2Proof.Machine

/-! ### The parts that the end of an event leaves to `Follows` -/

theorem formWeather_setDrive (s : State) (tables : Four DemandTable) (units : Four UnitRecord) (members : Four MemberRecord)
    (feedback : Four FeedbackRecord) :
    ({ s with tables := tables, units := units, members := members, feedback := feedback } : State).formWeather.weather =
      s.formWeather.weather := by
  unfold State.formWeather
  dsimp only
  split <;> split
  · rfl
  next h k => exact absurd h k
  next h k => exact absurd k h
  · rfl

/-- Of the tables, the leaf records and the feedback records, what an event came to says what `Follows` does. -/
theorem Closes.setDrive {s a t : State} {r : Bool} (h : Closes s a t r) {tables : Four DemandTable} {units : Four UnitRecord}
    {members : Four MemberRecord} {feedback : Four FeedbackRecord}
    (hserviceTarget : ∀ u, (t.tables.get u).serviceTarget = (tables.get u).serviceTarget)
    (hfailureCount : ∀ u, (t.units.get u).failureCount = (units.get u).failureCount)
    (hlastFault : ∀ u, (t.units.get u).lastFault = (units.get u).lastFault)
    (hfeedback : ∀ l, (t.feedback.get l).presence = (feedback.get l).presence ∧ (t.feedback.get l).mode = (feedback.get l).mode ∧
      (t.feedback.get l).count = (feedback.get l).count ∧ (t.feedback.get l).drift = (feedback.get l).drift) :
    Closes s { a with tables := tables, units := units, members := members, feedback := feedback } t r where
  follows := by
    obtain ⟨h1, h2, h3, h4, h5, h6, h7, h8, h9, h10, h11, h12, h13, h14, h15, h16, h17, -, -, -, -, -, -, -, h25⟩ := h.follows
    exact ⟨h1, h2, h3, h4, h5, h6, h7, h8, h9, h10, h11, h12, h13, h14, h15, h16, h17, hserviceTarget,
      fun l => (hfeedback l).1, fun l => (hfeedback l).2.1, fun l => (hfeedback l).2.2.1, fun l => (hfeedback l).2.2.2,
      hfailureCount, hlastFault, h25⟩
  weather := h.weather.trans (formWeather_setDrive a tables units members feedback).symm
  brigade := h.brigade
  slot := ⟨h.slot.due, h.slot.kept⟩

theorem Follows.feedback_get {a t : State} (h : Follows a t) (l : Leaf) :
    (t.feedback.get l).presence = (a.feedback.get l).presence ∧ (t.feedback.get l).mode = (a.feedback.get l).mode ∧
      (t.feedback.get l).count = (a.feedback.get l).count ∧ (t.feedback.get l).drift = (a.feedback.get l).drift :=
  ⟨h.presence l, h.mode l, h.count l, h.drift l⟩

theorem Closes.setTables {s a t : State} {r : Bool} (h : Closes s a t r) : Closes s { a with tables := t.tables } t r :=
  h.setDrive (fun _ => rfl) h.follows.failureCount h.follows.lastFault h.follows.feedback_get

theorem Closes.setUnits {s a t : State} {r : Bool} (h : Closes s a t r) : Closes s { a with units := t.units } t r :=
  h.setDrive h.follows.serviceTarget (fun _ => rfl) (fun _ => rfl) h.follows.feedback_get

theorem Closes.setFeedback {s a t : State} {r : Bool} (h : Closes s a t r) : Closes s { a with feedback := t.feedback } t r :=
  h.setDrive h.follows.serviceTarget h.follows.failureCount h.follows.lastFault fun _ => ⟨rfl, rfl, rfl, rfl⟩

/-! ### Samples -/

theorem bandOf_eq_bandFor (current : Nat) : bandOf current = bandFor current := by
  simp only [bandOf, bandFor, ← Nat.lt_succ_iff]

theorem nextCandidate_eq_candidateFor (held : Option Band) (before : Option Candidate) (measured : Band) (now : Nat) :
    nextCandidate held before measured now = candidateFor held before measured now := by
  unfold nextCandidate candidateFor
  cases before with
  | none => rfl
  | some c => simp

theorem LoopRecord.sample_candidate (r : LoopRecord) (current now : Nat) :
    (r.sample current now).candidate = candidateFor r.heldBand r.candidate (bandFor current) now := by
  rw [← bandOf_eq_bandFor, ← nextCandidate_eq_candidateFor]
  rfl

/-- A sampled loop, where it is powered (R70, R71). -/
theorem sampleLoop_eq_ite (s : State) (l : Loop) (current : Nat) : s.sampleLoop l current =
    if s.loopPowered l then { s.detection.loops.get l with
      current := current
      candidate := candidateFor (s.detection.loops.get l).heldBand (s.detection.loops.get l).candidate (bandFor current) s.now }
    else s.detection.loops.get l := by
  unfold State.sampleLoop
  rw [← LoopRecord.sample_candidate]
  rfl

/-- Settles O25. -/
theorem samplesMoveCandidates : Obligations.SamplesMoveCandidates := by
  intro s d1 d2 cp hs
  refine ⟨⟨_, next_act hs _ rfl, fun l => ?_, rfl⟩, next_act hs _ ?_⟩
  · have hpowered : s.loopPowered l = (decide ((s.detection.loops.get l).state ≠ .disabled) && match s.detection.loopReset with
        | .powerOff _ => false
        | .settle _ => true
        | .none => true) := by
      unfold State.loopPowered LoopReset.powered
      cases s.detection.loopReset <;> rfl
    have hheld : (s.detection.loops.get l).heldBand = match (s.detection.loops.get l).hidden with
        | some b => some b
        | none => match (s.detection.loops.get l).state with
          | .normal => some Band.normal
          | .alarm => some .alarm
          | .opened => some .opened
          | .shorted => some .shorted
          | .disabled => none
          | .resetting => none := by
      unfold LoopRecord.heldBand LoopState.band?
      cases (s.detection.loops.get l).hidden with
      | some b => rfl
      | none => cases (s.detection.loops.get l).state <;> rfl
    cases l
    · refine (sampleLoop_eq_ite s .d1 d1).trans ?_
      rw [hpowered, hheld] <;> rfl
    · refine (sampleLoop_eq_ite s .d2 d2).trans ?_
      rw [hpowered, hheld] <;> rfl
  · rw [← bandOf_eq_bandFor, ← nextCandidate_eq_candidateFor]
    rfl

/-! ### Switch contacts -/

theorem SwitchRecord.read_eq_switchAfter {α : Type} [DecidableEq α] (r : SwitchRecord α) (x : α) (now : Nat) :
    r.read x now = switchAfter r x now := by
  obtain ⟨held, hold⟩ := r
  unfold SwitchRecord.read switchAfter
  by_cases hx : x = held
  · simp [hx]
  · cases hold with
    | none => simp [hx]
    | some p =>
      obtain ⟨y, since⟩ := p
      by_cases hp : y = x <;> simp [hx, hp]

theorem ContactRecord.read_eq_contactAfter (r : ContactRecord) (x : Bool) (now : Nat) :
    r.read x now = contactAfter false r x now := by
  obtain ⟨made, hold⟩ := r
  unfold ContactRecord.read contactAfter holdPeriod
  by_cases hx : x = made
  · simp [hx]
  · cases hold <;> simp [hx]

/-- A contact is read as the first reading after a start, or as a later one (R79). -/
theorem contact_read (later : Bool) (r : ContactRecord) (x : Bool) (now : Nat) :
    (if later then r.read x now else ⟨x, none⟩) = contactAfter (!later) r x now := by
  cases later with
  | true => exact r.read_eq_contactAfter x now
  | false => rfl

/-- Settles O28. -/
theorem switchReadingsAreHeld : Obligations.SwitchReadingsAreHeld := by
  intro s c hs
  refine next_act hs _ ?_
  unfold Detection.readSwitches
  dsimp only
  rw [contact_read, contact_read, contact_read, SwitchRecord.read_eq_switchAfter, SwitchRecord.read_eq_switchAfter] <;> rfl

/-! ### Service buttons, the BM input and the refusal flash -/

/-- A press taken with the key at SERVICE stops the direction in force, or starts its own (R81, R113). -/
theorem takePress_eq (s : State) (b : ServiceButton) : s.takePress b = { s with
    detection := { s.detection with
      direction := if s.detection.direction = buttonDirection b then .none else buttonDirection b }
    tables := Four.ofFn fun w =>
      if s.cfg.isUnit w then { s.tables.get w with
        serviceTarget := if s.detection.direction = buttonDirection b then s.unitPosition w else some (buttonTarget b) }
      else s.tables.get w } := by
  unfold State.takePress
  by_cases hstop : s.detection.direction = buttonDirection b
  · simp only [if_pos hstop]
    rfl
  · simp only [if_neg hstop]
    rfl

/-- Settles O30. -/
theorem serviceButtonSetsTargets : Obligations.ServiceButtonSetsTargets := by
  intro s b hs hdue hkey
  let u := s.setDetection (s.detection.setButton b .pressed)
  have hservice : u.key = .service := by cases b <;> exact congrArg KeyReading.position hkey
  have hdirection : u.detection.direction = s.detection.direction := by cases b <;> rfl
  have hbutton : buttonDirection b = (match (generalizing := false) b with | .openButton => .opening | .closeButton => .closing) := by cases b <;> rfl
  have htarget : buttonTarget b = (match (generalizing := false) b with | .openButton => 1000 | .closeButton => 0) := by cases b <;> rfl
  have hexec : exec (.serviceButtonPress b) s = .next ((u.takePress b).close s false).refresh :=
    next_act hs.started _ ((if_pos hdue).trans (if_pos hservice))
  have hpress := takePress_eq u b
  rw [hdirection, hbutton, htarget] at hpress
  rw [hpress] at hexec
  refine completes_close hexec hs fun t h => ?_
  have hdetection := h.follows.detection
  refine ⟨hdetection, fun w => ?_, ?_⟩
  · rw [h.follows.serviceTarget]
    dsimp only
    rw [Four.get_ofFn]
    exact apply_ite DemandTable.serviceTarget _ _ _
  · rw [hdetection]
    exact h.setTables

/-- Settles O31. -/
theorem heldStepAndFlashEnd : Obligations.HeldStepAndFlashEnd := by
  intro s hs
  refine ⟨fun v henable => ?_, fun since hsince hover => ?_⟩
  · refine completes_close (next_act hs.started _ (if_pos henable)) hs fun t h => ?_
    have hdetection := h.follows.detection
    refine ⟨⟨_, hdetection, Nat.mul_mod_right 5 _, fun p hneg hpos => ?_⟩, ?_⟩
    · unfold bmStep
      obtain hv | hv := le_total v 0
      · rw [hneg hv, Int.toNat_of_nonpos hv] <;> rfl
      · rw [hpos hv]
    · rw [hdetection]
      exact h
  · refine next_act hs.started _ ?_
    rw [hsince]
    exact if_pos (decide_eq_true hover)

end Sys2Proof.Machine
end

section
/-! SUPPORT. Local detection formed in an event: what it is (R74), what an entry to ALARM hands on (R4, R51, R66, R76); a debounced class,
a confirm timer, and the loop reset to its settle end (R71, R75, R77, R78). -/

namespace Sys2Proof.Machine

/-! ### Local detection -/

theorem exists_loop_iff {P : Loop → Prop} : (∃ l, P l) ↔ P .d1 ∨ P .d2 :=
  ⟨fun ⟨l, h⟩ => by cases l; exacts [.inl h, .inr h], fun h => h.elim (⟨_, ·⟩) (⟨_, ·⟩)⟩

theorem formed_cases (d : Detection) : (d.formed = .alarm ∧ alarmStands d) ∨
    (d.formed = .preAlarm ∧ ¬ alarmStands d ∧ ∃ l, (d.loops.get l).state = .alarm) ∨
    (d.formed = .quiet ∧ ¬ alarmStands d ∧ ¬ ∃ l, (d.loops.get l).state = .alarm) := by
  unfold Detection.formed alarmStands
  simp only [exists_loop_iff, LoopRecord.inAlarm, LoopRecord.unableToConfirm, LoopRecord.confirmed, Bool.or_eq_true,
    Bool.and_eq_true, decide_eq_true_eq, List.mem_cons, List.not_mem_nil, or_false, or_assoc]
  split
  next h => exact .inl ⟨rfl, h⟩
  next h =>
    split
    next k => exact .inr (.inl ⟨rfl, h, k⟩)
    next k => exact .inr (.inr ⟨rfl, h, k⟩)

theorem formed_eq_alarm_iff (d : Detection) : d.formed = .alarm ↔ alarmStands d := by
  obtain ⟨h, hstands⟩ | ⟨h, hstands, -⟩ | ⟨h, hstands, -⟩ := formed_cases d <;> simp [h, hstands]

theorem formed_eq_preAlarm_iff (d : Detection) :
    d.formed = .preAlarm ↔ ¬ alarmStands d ∧ ∃ l, (d.loops.get l).state = .alarm := by
  obtain ⟨h, hstands⟩ | ⟨h, hstands⟩ | ⟨h, -, hnone⟩ := formed_cases d
  · simp [h, hstands]
  · exact ⟨fun _ => hstands, fun _ => h⟩
  · rw [h]
    exact ⟨nofun, fun hsome => absurd hsome.2 hnone⟩

/-- Local detection enters ALARM where it is formed (R76). -/
def State.entry (s : State) : Bool := s.detection.formed = .alarm && s.detection.localState ≠ .alarm

theorem formLocal_eq (s : State) : s.formLocal = { s with
    line := if s.entry && decide (s.line.join = .listen)
      then { s.line with join := .running, proving := none, pendingSlot := some true } else s.line
    peers := settledBy s (s.entry && decide (s.line.join = .listen))
    zones := { s.zones with records := if s.entry
      then s.zones.records.set s.cfg.smokeZone (s.zones.records.get s.cfg.smokeZone).latchOwn else s.zones.records }
    detection := { s.detection with localState := s.detection.formed } } := by
  unfold State.formLocal State.enterAlarm State.endListenOnAlarm settledBy
  dsimp only
  show (if s.entry = true then _ else _) = _
  obtain he | he := Bool.eq_false_or_eq_true s.entry
  · rw [he]
    by_cases hj : s.line.join = .listen
    · rw [decide_eq_true hj]
      simp only [if_true, Bool.and_self]
      rw [if_pos (by exact hj)] <;> rfl
    · rw [decide_eq_false hj]
      simp only [if_true, Bool.and_false]
      rw [if_neg (by exact hj)] <;> rfl
  · rw [he]
    rfl

theorem entersAlarm_eq {s t : State} {d : Detection} (hlocal : d.localState = s.detection.localState)
    (ht : t.detection.localState = d.formed) : entersAlarm s t = (s.setDetection d).entry := by
  unfold entersAlarm State.entry
  rw [ht, State.setDetection_detection, hlocal, Bool.and_comm]

/-- The detection unit with other loops, call point and loop reset. -/
def Detection.withInputs (d : Detection) (loops : PerLoop LoopRecord) (callPoint : CallPoint) (loopReset : LoopReset) : Detection :=
  { d with loops := loops, callPoint := callPoint, loopReset := loopReset }

/-- The end of an event in which the loops, the call point or the loop reset changed, local detection was formed, and the zone
records came to `v`. -/
theorem localDetectionFormed_of_closes {s t : State} {loops : PerLoop LoopRecord} {callPoint : CallPoint} {loopReset : LoopReset}
    {v : PerZone ZoneRecord}
    (h : Closes s ((s.setDetection (s.detection.withInputs loops callPoint loopReset)).formLocal.setZones v) t false) :
    localDetectionFormed s t := by
  let d := s.detection.withInputs loops callPoint loopReset
  have hdetection : t.detection = { d with localState := d.formed } := by
    rw [h.follows.detection, State.setZones_detection, formLocal_detection] <;> rfl
  have hrecords : t.zones.records = v := h.follows.zoneRecords
  have hentry : entersAlarm s t = (s.setDetection d).entry := entersAlarm_eq rfl (by rw [hdetection])
  have hstate : t.detection.localState = t.detection.formed := by rw [hdetection] <;> rfl
  rw [formLocal_eq] at h
  refine ⟨hstate ▸ formed_eq_alarm_iff t.detection, hstate ▸ formed_eq_preAlarm_iff t.detection, fun hends => ?_, ?_⟩
  · refine h.follows.urgencyKept ?_
    rw [hentry] at hends
    exact congrArg LineInterface.pendingSlot (if_pos hends)
  · rw [hentry, hrecords, hdetection]
    exact h

/-- A command whose event changes the loops, the call point or the loop reset, forms local detection and closes. -/
theorem completes_formLocal {c : Instr} {s : State} {loops : PerLoop LoopRecord} {callPoint : CallPoint} {loopReset : LoopReset}
    (hs : Running s)
    (hexec : exec c s =
      .next ((s.setDetection (s.detection.withInputs loops callPoint loopReset)).formLocal.close s false).refresh) :
    Completes c s fun t => t.detection.loops = loops ∧ t.detection.callPoint = callPoint ∧ t.detection.loopReset = loopReset ∧
      latchedByAlarm s t ∧ localDetectionFormed s t := by
  refine completes_close hexec ((formLocal_phase _).trans hs) fun t h => ?_
  let d := s.detection.withInputs loops callPoint loopReset
  have hdetection : t.detection = { d with localState := d.formed } := by
    rw [h.follows.detection, formLocal_detection] <;> rfl
  refine ⟨congrArg Detection.loops hdetection, congrArg Detection.callPoint hdetection, congrArg Detection.loopReset hdetection,
    fun z => ?_,
    localDetectionFormed_of_closes (v := (s.setDetection d).formLocal.zones.records) h⟩
  rw [h.follows.zoneRecords, formLocal_get, entersAlarm_eq (d := d) rfl (by rw [hdetection])]
  unfold State.entry
  simp only [Bool.and_eq_true, decide_eq_true_eq]
  rfl

/-! ### Debounce and confirm -/

theorem dueCandidate_loop {s : State} {l : Loop} {c : Candidate} (hstood : c.since + s.cfg.debounce * 1000 ≤ s.now)
    (hpowered : s.loopPowered l = true) (hcandidate : (s.detection.loops.get l).candidate = some c) :
    s.dueCandidate (.loop l) = some c.band := by
  unfold State.dueCandidate
  dsimp only
  rw [if_pos hpowered, hcandidate]
  exact if_pos (decide_eq_true hstood)

theorem Completes.imp {c : Instr} {s : State} {p q : State → Prop} (h : Completes c s p) (hpq : ∀ t, p t → q t) :
    Completes c s q := by
  obtain ⟨t, ht, hp⟩ := h
  exact ⟨t, ht, hpq t hp⟩

theorem LoopRecord.debounced_of_hidden {r : LoopRecord} {b : Band} (h : r.hidden = some b) (c : Band) (now : Nat) :
    r.debounced c now = { r with hidden := some c, candidate := none } := by
  unfold LoopRecord.debounced
  rw [h]

theorem LoopRecord.debounced_of_unhidden {r : LoopRecord} (h : r.hidden = none) (c : Band) (now : Nat) :
    r.debounced c now = r.take c now := by
  unfold LoopRecord.debounced
  rw [h]

theorem takeBand_loop (s : State) (l : Loop) (c : Band) : s.takeBand (.loop l) c = s.setDetection { s.detection with
    loops := s.detection.loops.set l ((s.detection.loops.get l).debounced c s.now) } := rfl

/-- A class taken by the hidden class leaves local detection as it is formed (R78). -/
theorem takeBand_hidden {s : State} {l : Loop} {b : Band} (c : Band) (hformed : s.detection.localState = s.detection.formed)
    (hhidden : (s.detection.loops.get l).hidden = some b) : (s.takeBand (.loop l) c).formLocal = { s with
      detection := { s.detection with
        loops := s.detection.loops.set l { s.detection.loops.get l with hidden := some c, candidate := none } } } := by
  have htaken : s.takeBand (.loop l) c = s.setDetection { s.detection with
      loops := s.detection.loops.set l { s.detection.loops.get l with hidden := some c, candidate := none } } := by
    rw [takeBand_loop, LoopRecord.debounced_of_hidden hhidden]
  have hkept (k : Loop) : ((s.detection.loops.set l { s.detection.loops.get l with hidden := some c, candidate := none }).get k).state =
      (s.detection.loops.get k).state ∧
      ((s.detection.loops.set l { s.detection.loops.get l with hidden := some c, candidate := none }).get k).confirm =
      (s.detection.loops.get k).confirm := by
    rw [PerLoop.get_set]
    split
    next h => rw [h] <;> exact ⟨rfl, rfl⟩
    · exact ⟨rfl, rfl⟩
  have hsame : (s.takeBand (.loop l) c).detection.formed = s.detection.formed := by
    rw [htaken]
    exact Detection.formed_congr rfl (fun k => (hkept k).1) fun k => (hkept k).2
  have hlocal : (s.takeBand (.loop l) c).detection.localState = s.detection.formed := by
    rw [htaken]
    exact hformed
  rw [formLocal_of_no_entry (by rw [hsame, hlocal]; exact id), hsame, ← hlocal, htaken] <;> rfl

/-- Settles O26. -/
theorem debouncedClassIsTaken : Obligations.DebouncedClassIsTaken := by
  intro s c hs hzones
  refine ⟨fun l since hrunning hover => ?_, fun hstood l hreset hable hhidden hcandidate => ?_, fun hstood hcandidate => ?_,
    fun hstood l since b hreset hable hhidden hcandidate => ?_⟩
  · have hdue : s.confirmOver l = true := by
      unfold State.confirmOver
      rw [hrunning]
      exact decide_eq_true hover
    let loops := s.detection.loops.set l { s.detection.loops.get l with confirm := .expired }
    have hexec : exec (.confirmTimerExpiry l) s = .next ((s.setDetection (s.detection.withInputs loops
        s.detection.callPoint s.detection.loopReset)).formLocal.close s false).refresh :=
      next_act hs.started _ (if_pos hdue)
    refine (completes_formLocal hs hexec).imp fun t ⟨hloops, hcall, hreset, hlatched, hformed⟩ => ?_
    exact ⟨fun k => by rw [hloops]; exact PerLoop.get_set _ _ _ _, hcall, hreset, hlatched, hformed⟩
  · have hdue := dueCandidate_loop hstood (loopPowered_iff.2 ⟨hable, by rw [hreset]; rfl⟩) hcandidate
    have hexec : exec (.debounceExpiry (.loop l)) s = .next (((s.takeBand (.loop l) c.band).formLocal).close s false).refresh := by
      refine next_act hs.started _ ?_
      rw [hdue]
    refine (completes_formLocal hs hexec).imp fun t ⟨hloops, hcall, hresetKept, hlatched, hformed⟩ => ?_
    refine ⟨fun k => ?_, hcall, hresetKept, hlatched, hformed⟩
    rw [hloops, PerLoop.get_set, LoopRecord.debounced_of_unhidden hhidden]
    rfl
  · have hdue : s.dueCandidate .callPoint = some c.band := by
      unfold State.dueCandidate
      rw [hcandidate]
      exact if_pos (decide_eq_true hstood)
    have hexec : exec (.debounceExpiry .callPoint) s = .next (((s.takeBand .callPoint c.band).formLocal).close s false).refresh := by
      refine next_act hs.started _ ?_
      rw [hdue]
    refine (completes_formLocal hs hexec).imp fun t ⟨hloops, hcall, hreset, hlatched, hformed⟩ => ?_
    exact ⟨hcall, hloops, hreset, hlatched, hformed⟩
  · have hdue := dueCandidate_loop hstood (loopPowered_iff.2 ⟨hable, by rw [hreset]; rfl⟩) hcandidate
    have hexec : exec (.debounceExpiry (.loop l)) s = .next (((s.takeBand (.loop l) c.band).formLocal).close s false).refresh := by
      refine next_act hs.started _ ?_
      rw [hdue]
    rw [takeBand_hidden c.band hzones.formedNow hhidden] at hexec
    exact completes_close hexec hs fun t h => h

/-! ### The loop reset -/

theorem endSettle_eq (r : LoopRecord) (now : Nat) : r.endSettle now = match r.hidden with
    | some b => { r with state := b.loopState, hidden := none, confirm := if b = .alarm then .running now else .cleared }
    | none => r := by
  unfold LoopRecord.endSettle
  cases r.hidden <;> rfl

/-- The smoke zone's record under the settle end's verdict (R10), an entry to ALARM latched before it (R4). -/
theorem latched_settleEnd (r : ZoneRecord) (entered verdict : Bool) :
    (if entered then r.latchOwn else r).settleEnd verdict =
      if entered then ⟨.latched, r.mark, .own⟩
      else if r.state = .pending then (if verdict then ⟨.latched, r.mark, .own⟩ else ⟨.clear, r.mark, .none⟩) else r := by
  cases entered with
  | true => rfl
  | false =>
    unfold ZoneRecord.settleEnd
    cases hstate : r.state <;> cases verdict <;> simp [hstate]

/-- The zone records at the settle end (R4, R10). -/
theorem deliverVerdict_formLocal_get (s : State) (z : Zone) : s.formLocal.deliverVerdict.zones.records.get z =
    if z = s.cfg.smokeZone then
      if s.entry then ⟨.latched, (s.zones.records.get z).mark, .own⟩
      else if (s.zones.records.get z).state = .pending then
        (if s.detection.formed = .alarm then ⟨.latched, (s.zones.records.get z).mark, .own⟩
          else ⟨.clear, (s.zones.records.get z).mark, .none⟩)
      else s.zones.records.get z
    else s.zones.records.get z := by
  unfold State.deliverVerdict
  dsimp only
  have hentry : (s.detection.formed = .alarm ∧ s.detection.localState ≠ .alarm) ↔ s.entry = true := by
    unfold State.entry
    simp
  rw [State.setZones_records, PerZone.get_set, formLocal_cfg]
  by_cases hz : z = s.cfg.smokeZone
  · rw [if_pos hz, if_pos hz, hz, formLocal_get, formLocal_detection]
    simp only [hentry, and_true]
    rw [latched_settleEnd]
    simp only [decide_eq_true_eq]
  · rw [if_neg hz, if_neg hz, formLocal_get, if_neg fun h => hz h.2]

/-- Settles O27. -/
theorem loopResetRunsToSettleEnd : Obligations.LoopResetRunsToSettleEnd := by
  intro s since hs hzones
  refine ⟨fun hreset hover => ?_, fun hreset hover => ?_⟩
  · have hloops : (PerLoop.ofFn fun l =>
        let r := s.detection.loops.get l
        if r.state = .disabled then r else { r with candidate := none, hidden := some .normal }) =
        PerLoop.mapLoops LoopRecord.beginSettle s.detection.loops :=
      PerLoop.ext_get fun l => by rw [PerLoop.get_ofFn, PerLoop.get_mapLoops] <;> rfl
    refine next_act hs.started _ ?_
    rw [hreset, hloops]
    exact if_pos (decide_eq_true hover)
  · let x := s.setDetection (s.detection.withInputs
      (PerLoop.mapLoops (fun r => r.endSettle s.now) s.detection.loops) s.detection.callPoint .none)
    have hexec : exec .settleEnd s = .next (x.formLocal.deliverVerdict.close s false).refresh := by
      refine next_act hs.started _ ?_
      rw [hreset]
      exact if_pos (decide_eq_true hover)
    refine completes_close hexec ((formLocal_phase x).trans hs) fun t h => ?_
    have hdetection : t.detection = { x.detection with localState := x.detection.formed } :=
      h.follows.detection.trans (formLocal_detection x)
    have hentry : entersAlarm s t = x.entry := entersAlarm_eq rfl (congrArg Detection.localState hdetection)
    refine ⟨congrArg Detection.loopReset hdetection, (congrArg Detection.callPoint hdetection).trans rfl, fun l => ?_, fun z => ?_,
      localDetectionFormed_of_closes (v := x.formLocal.deliverVerdict.zones.records) h⟩
    · rw [hdetection]
      exact (PerLoop.get_mapLoops _ _ l).trans (endSettle_eq _ _)
    · rw [h.follows.zoneRecords, deliverVerdict_formLocal_get, hentry, hdetection]
      rfl

end Sys2Proof.Machine
end

section
/-! SUPPORT. The weather unit: the measurement second and the rain (R89 to R95), the governing wind and rain (R97 to R100), the storm
guard (R101) and the side classes (R105). -/

namespace Sys2Proof.Machine

/-! ### Readings -/

theorem vaneSector_eq_sectorFor (v : VaneSample) : vaneSector v = sectorFor v := by
  obtain ⟨⟨h3, n3⟩, ⟨h2, n2⟩, ⟨h1, n1⟩, ⟨h0, n0⟩⟩ := v
  unfold vaneSector sectorFor vaneBit? supervisionOpen
  by_cases hopen : n3 < 20 ∨ n2 < 20 ∨ n1 < 20 ∨ n0 < 20
  · rw [if_pos hopen]
    obtain h | h | h | h := hopen <;> simp [h]
  · rw [if_neg hopen]
    simp only [not_or] at hopen
    obtain ⟨k3, k2, k1, k0⟩ := hopen
    simp only [k3, k2, k1, k0, decide_false, Bool.false_eq_true, if_false]
    cases h3 <;> cases h2 <;> cases h1 <;> cases h0 <;> rfl

/-- Settles O32. -/
theorem measurementSecondTaken : Obligations.MeasurementSecondTaken := by
  intro s v current hs hreporter
  refine ⟨next_act hs.started _ (if_pos hreporter), next_act hs.started _ ?_, fun hover => ?_⟩
  · rw [hreporter, Bool.true_and]
    unfold supervisionOpen
    by_cases h : current < 20
    · rw [decide_eq_true h, Bool.or_true]
      rfl
    · rw [decide_eq_false h, Bool.or_false]
      rfl
  · have hexec : exec (.anemometerWindowEnd v) s =
        .next ((s.setWeather ((s.weather.endWindow s.cfg.anemoK).vaneSample (vaneSector v))).close s false).refresh := by
      refine next_act hs.started _ (if_pos ?_)
      rw [hreporter, Bool.true_and]
      exact decide_eq_true hover
    refine completes_close hexec hs fun t h => ?_
    have hweather : (s.weather.endWindow s.cfg.anemoK).vaneSample (vaneSector v) = { s.weather with
        windowStart := s.weather.windowStart + 1000
        windowCount := 0
        windowOpen := false
        anemoFault := s.weather.windowOpen
        speedWindow := if s.weather.windowOpen then []
          else newestKept 3 s.weather.speedWindow (min 600 (s.weather.windowCount * s.cfg.anemoK / 10))
        vaneFault := (sectorFor v).isNone
        sectorWindow := match (generalizing := false) sectorFor v with
          | some d => newestKept 8 s.weather.sectorWindow d
          | none => [] } := by
      rw [vaneSector_eq_sectorFor]
      unfold Weather.endWindow
      cases s.weather.windowOpen <;> cases sectorFor v <;> rfl
    rw [hweather] at h
    exact h

/-- Settles O33. -/
theorem rainReadAndDriedOff : Obligations.RainReadAndDriedOff := by
  intro s r hs
  refine ⟨fun hreporter => ?_, fun since hsince hover => ?_⟩
  · have hexec : exec (.rainReading r) s = .next ((s.setWeather (s.weather.readRain r s.now)).close s false).refresh :=
      next_act hs.started _ (if_pos hreporter)
    refine completes_close hexec hs fun t h => ?_
    cases r with
    | wet => exact h
    | circuitOpen => exact h
    | dry =>
      have hread : s.weather.readRain .dry s.now = { s.weather with
          rainFault := false
          dryOffSince := if s.weather.rainState = .dry then s.weather.dryOffSince
            else some (s.weather.dryOffSince.getD s.now) } := by
        unfold Weather.readRain
        by_cases h : s.weather.rainState = .dry <;> simp [h]
      rw [hread] at h
      exact h
  · refine completes_close (a := s.setWeather { s.weather with rainState := .dry, dryOffSince := none })
      (next_act hs.started _ ?_) hs fun t h => h
    rw [hsince]
    exact if_pos (decide_eq_true hover)

/-! ### Candidates -/

/-- A peer's weather of the reliability asked is a candidate (R97). -/
def isPeerCandidate (s : State) (reliable : Bool) (c : WeatherCandidate) : Prop :=
  ∃ a p w, (a, p) ∈ s.peers.fresh ∧ p.reliable = reliable ∧ p.weather = some w ∧ c = ⟨a, w.speed, w.sector, w.rain⟩

/-- The own weather is a candidate (R97). -/
def isOwnCandidate (s : State) (c : WeatherCandidate) : Prop :=
  ∃ w, s.ownWeather = some w ∧ c = ⟨s.line.ownAddress, w.speed, w.sector, w.rain⟩

theorem mem_peerCandidates_iff {s : State} {reliable : Bool} {c : WeatherCandidate} :
    c ∈ (s.peers.fresh.filter fun p => p.2.reliable = reliable).filterMap peerCandidate ↔ isPeerCandidate s reliable c := by
  unfold isPeerCandidate peerCandidate
  simp only [List.mem_filterMap, List.mem_filter, decide_eq_true_eq, Option.map_eq_some_iff, Prod.exists]
  constructor
  · rintro ⟨a, p, ⟨hp, hreliable⟩, w, hw, rfl⟩
    exact ⟨a, p, w, hp, hreliable, hw, rfl⟩
  · rintro ⟨a, p, w, hp, hreliable, hw, rfl⟩
    exact ⟨a, p, ⟨hp, hreliable⟩, w, hw, rfl⟩

theorem mem_primaryCandidates_iff {s : State} {c : WeatherCandidate} :
    c ∈ s.primaryCandidates ↔ isOwnCandidate s c ∨ isPeerCandidate s true c := by
  have hpeers : (s.peers.fresh.filter fun p => p.2.reliable) = s.peers.fresh.filter fun p => p.2.reliable = true := by simp
  unfold State.primaryCandidates State.ownCandidates
  rw [List.mem_append, hpeers, mem_peerCandidates_iff]
  refine or_congr_left ?_
  rw [Option.mem_toList, Option.map_eq_some_iff]
  exact exists_congr fun w => and_congr_right fun _ => eq_comm

theorem mem_fallbackCandidates_iff {s : State} {c : WeatherCandidate} :
    c ∈ s.fallbackCandidates ↔ isPeerCandidate s false c := by
  have hpeers : (s.peers.fresh.filter fun p => !p.2.reliable) = s.peers.fresh.filter fun p => p.2.reliable = false := by simp
  unfold State.fallbackCandidates
  rw [hpeers, mem_peerCandidates_iff]

theorem candidateSet_cases (s : State) :
    (s.candidateSet = (s.primaryCandidates, .primary) ∧ s.primaryCandidates ≠ []) ∨
      (s.candidateSet = (s.fallbackCandidates, .fallback) ∧ s.primaryCandidates = [] ∧ s.fallbackCandidates ≠ []) ∨
      (s.candidateSet = ([], .none) ∧ s.primaryCandidates = [] ∧ s.fallbackCandidates = []) := by
  unfold State.candidateSet
  cases hp : s.primaryCandidates with
  | cons c cs => exact .inl ⟨rfl, nofun⟩
  | nil =>
    cases hf : s.fallbackCandidates with
    | cons c cs => exact .inr (.inl ⟨rfl, rfl, nofun⟩)
    | nil => exact .inr (.inr ⟨rfl, rfl, rfl⟩)

theorem mem_candidateSet_iff {s : State} {c : WeatherCandidate} : c ∈ s.candidateSet.1 ↔
    c ∈ s.primaryCandidates ∨ ((∀ d, d ∉ s.primaryCandidates) ∧ c ∈ s.fallbackCandidates) := by
  obtain ⟨hset, hprimary⟩ | ⟨hset, hprimary, hfallback⟩ | ⟨hset, hprimary, hfallback⟩ := candidateSet_cases s
  · rw [hset]
    exact ⟨.inl, fun h => h.resolve_right fun hno => hprimary (List.eq_nil_iff_forall_not_mem.2 hno.1)⟩
  · rw [hset, hprimary]
    simp
  · rw [hset, hprimary, hfallback]
    simp

theorem candidateSet_basis (s : State) : (s.candidateSet.2 = .primary ↔ ∃ c, c ∈ s.primaryCandidates) ∧
    (s.candidateSet.2 = .fallback ↔ (∀ c, c ∉ s.primaryCandidates) ∧ ∃ c, c ∈ s.fallbackCandidates) := by
  have hne (cs : List WeatherCandidate) : (∃ c, c ∈ cs) ↔ cs ≠ [] :=
    ⟨fun ⟨_, hc⟩ => List.ne_nil_of_mem hc, List.exists_mem_of_ne_nil cs⟩
  rw [← List.eq_nil_iff_forall_not_mem, hne, hne]
  obtain ⟨hset, hprimary⟩ | ⟨hset, hprimary, hfallback⟩ | ⟨hset, hprimary, hfallback⟩ := candidateSet_cases s
  · rw [hset]
    simp [hprimary]
  · rw [hset, hprimary]
    simp [hfallback]
  · rw [hset, hprimary]
    simp [hfallback]

theorem governingOf_eq_none_iff {cs : List WeatherCandidate} : governingOf cs = none ↔ cs = [] := by
  cases cs with
  | nil => exact ⟨fun _ => rfl, fun _ => rfl⟩
  | cons c cs => exact ⟨nofun, nofun⟩

theorem governingRainOf_eq_wet_iff {cs : List WeatherCandidate} : governingRainOf cs = .wet ↔ ∃ c ∈ cs, c.rain = .wet := by
  unfold governingRainOf
  split
  next h => simpa using h
  next h => split <;> simpa using h

theorem governingRainOf_eq_dry_iff {cs : List WeatherCandidate} :
    governingRainOf cs = .dry ↔ (∀ c ∈ cs, c.rain ≠ .wet) ∧ ∃ c ∈ cs, c.rain = .dry := by
  unfold governingRainOf
  split
  next h =>
    refine ⟨nofun, fun ⟨hno, _⟩ => ?_⟩
    obtain ⟨c, hc, hwet⟩ := List.any_eq_true.1 h
    exact absurd (of_decide_eq_true hwet) (hno c hc)
  next h =>
    have hno : ∀ c ∈ cs, c.rain ≠ .wet := by simpa using h
    split
    next hdry => exact ⟨fun _ => ⟨hno, by simpa using hdry⟩, fun _ => rfl⟩
    next hdry => exact ⟨nofun, fun ⟨_, hsome⟩ => absurd (by simpa using hsome) hdry⟩

/-- Settles O35. -/
theorem candidatesFormGoverningWindAndRain : Obligations.CandidatesFormGoverningWindAndRain := by
  intro s
  obtain ⟨hgoverning, hbasis, hrain⟩ := formWeather_governing s
  obtain ⟨hprimary, hfallback⟩ := candidateSet_basis s
  dsimp only
  rw [hgoverning, hbasis, hrain, hprimary, hfallback, governingRainOf_eq_wet_iff, governingRainOf_eq_dry_iff,
    governingOf_eq_none_iff, List.eq_nil_iff_forall_not_mem]
  have hused (c : WeatherCandidate) := mem_candidateSet_iff (s := s) (c := c)
  simp only [mem_primaryCandidates_iff, mem_fallbackCandidates_iff] at hused
  simp only [mem_primaryCandidates_iff, mem_fallbackCandidates_iff, hused]
  refine ⟨Iff.rfl, Iff.rfl, Iff.rfl, fun g hg => ?_, Iff.rfl, Iff.rfl⟩
  have hne : s.candidateSet.1 ≠ [] := fun h => by
    rw [h] at hg
    cases hg
  obtain ⟨b, hb, hgoverns, hover⟩ := governingOf_of_ne_nil hne
  rw [hgoverns] at hg
  cases hg
  exact ⟨⟨b, (hused b).1 hb, rfl, rfl, rfl⟩, fun c hc => (hover c ((hused c).2 hc)).speed_le⟩

/-! ### The storm guard and the side classes -/

/-- The governing wind changes, in itself or in its basis (R99). -/
def windChanges (s : State) : Prop :=
  s.formWeather.weather.governing ≠ s.weather.governing ∨ s.formWeather.weather.basis ≠ s.weather.basis

/-- The weather unit with the governing wind and rain of its candidates (R98, R100). -/
def State.governed (s : State) : Weather := { s.weather with
  governing := governingOf s.candidateSet.1
  basis := s.candidateSet.2
  governingRain := governingRainOf s.candidateSet.1 }

theorem formSides_get (s : State) (u : Leaf) : s.formSides.weather.sides.get u = if s.cfg.isUnit u
    then (s.weather.sides.get u).takeClass (computedClass s.weather.governing (s.cfg.facing.get u)) s.now
    else s.weather.sides.get u := Four.get_ofFn _ u

theorem Weather.judgeGuard_sides (w : Weather) (a b n : Nat) : (w.judgeGuard a b n).sides = w.sides := by
  unfold Weather.judgeGuard
  split
  · rfl
  · split <;> rfl
  · rfl
  · split <;> rfl

theorem formWeather_cases (s : State) :
    (¬ windChanges s ∧ s.formWeather.weather = s.governed) ∨
    (windChanges s ∧ s.formWeather.weather =
      { s.governed.judgeGuard s.cfg.stormThreshold s.cfg.clearLimit s.now with sides := s.formWeather.weather.sides } ∧
      ∀ u, s.formWeather.weather.sides.get u = if s.cfg.isUnit u
        then (s.weather.sides.get u).takeClass (computedClass (governingOf s.candidateSet.1) (s.cfg.facing.get u)) s.now
        else s.weather.sides.get u) := by
  obtain ⟨hgoverning, hbasis, -⟩ := formWeather_governing s
  unfold windChanges
  rw [hgoverning, hbasis]
  unfold State.formWeather
  dsimp only
  by_cases h : governingOf s.candidateSet.1 = s.weather.governing ∧ s.candidateSet.2 = s.weather.basis
  · rw [if_pos (by simpa using h)]
    exact .inl ⟨by simp [h.1, h.2], rfl⟩
  · rw [if_neg (by simpa using h)]
    refine .inr ⟨not_and_or.1 h, rfl, fun u => ?_⟩
    obtain ⟨hgoverned, -, -⟩ := s.governed.judgeGuard_governing s.cfg.stormThreshold s.cfg.clearLimit s.now
    have hsides := s.governed.judgeGuard_sides s.cfg.stormThreshold s.cfg.clearLimit s.now
    refine (formSides_get (s.setWeather (s.governed.judgeGuard s.cfg.stormThreshold s.cfg.clearLimit s.now)) u).trans ?_
    rw [State.setWeather_weather, hgoverned, hsides]
    rfl

/-- Nothing is formed anew where the governing wind and rain stand as their candidates give them. -/
theorem formWeather_of_formed {s : State} (h : WeatherFormed s) : s.formWeather.weather = s.weather := by
  obtain ⟨hgoverning, hbasis, hrain⟩ := h
  unfold State.formWeather
  dsimp only
  rw [if_pos (by simp [hgoverning, hbasis]), hgoverning, hbasis, hrain]
  rfl

/-- The guard judged while it is not ACTIVE (R101). -/
theorem judgeGuard_inactive {w : Weather} (h : w.stormActive = false) (threshold limit now : Nat) :
    w.judgeGuard threshold limit now = if ∃ g, w.governing = some g ∧ g.speed < threshold then w
      else { w with stormActive := true, clearSince := none } := by
  unfold Weather.judgeGuard
  rw [h]
  cases hg : w.governing with
  | none => simp
  | some g => by_cases hspeed : threshold ≤ g.speed <;> simp [hspeed]

/-- The guard judged while it is ACTIVE (R101). -/
theorem judgeGuard_active {w : Weather} (h : w.stormActive = true) (threshold limit now : Nat) :
    w.judgeGuard threshold limit now = if ∃ g, w.governing = some g ∧ g.speed < limit
      then { w with clearSince := some (w.clearSince.getD now) } else { w with clearSince := none } := by
  unfold Weather.judgeGuard
  rw [h]
  cases hg : w.governing with
  | none => simp
  | some g => by_cases hspeed : limit ≤ g.speed <;> simp [hspeed]

/-- Settles O36. -/
theorem stormGuardJudged : Obligations.StormGuardJudged := by
  refine ⟨fun s => ?_, fun s since hs hformed hsince hover => ?_⟩
  · intro t changed below
    have hbelow (x : Nat) : below x ↔ ∃ g, s.governed.governing = some g ∧ g.speed < x := by
      simp only [below, t]
      rw [(formWeather_governing s).1] <;> rfl
    obtain ⟨hsame, hweather⟩ | ⟨hchanged, hweather, -⟩ := formWeather_cases s
    · have hnot {p : Prop} (h : changed) : p := absurd h hsame
      exact ⟨fun _ => by rw [hweather]; exact ⟨rfl, rfl⟩, hnot, hnot, hnot⟩
    · have hguard : t.weather.stormActive = (s.governed.judgeGuard s.cfg.stormThreshold s.cfg.clearLimit s.now).stormActive ∧
          t.weather.clearSince = (s.governed.judgeGuard s.cfg.stormThreshold s.cfg.clearLimit s.now).clearSince := by
        simp only [t]
        rw [hweather]
        exact ⟨rfl, rfl⟩
      rw [hguard.1, hguard.2, hbelow, hbelow]
      refine ⟨fun h => absurd hchanged h, fun _ hstorm hlow => ?_, fun _ hstorm hhigh => ?_, fun _ hstorm => ?_⟩
      · rw [judgeGuard_inactive (w := s.governed) hstorm, if_pos hlow]
        exact ⟨hstorm, rfl⟩
      · rw [judgeGuard_inactive (w := s.governed) hstorm, if_neg hhigh]
        exact ⟨rfl, rfl⟩
      · rw [judgeGuard_active (w := s.governed) hstorm]
        by_cases hlow : ∃ g, s.governed.governing = some g ∧ g.speed < s.cfg.clearLimit
        · rw [if_pos hlow]
          exact ⟨hstorm, fun h => absurd hlow h, fun _ => rfl⟩
        · rw [if_neg hlow]
          exact ⟨hstorm, fun _ => rfl, fun h => absurd h hlow⟩
  · let a := s.setWeather { s.weather with stormActive := false, clearSince := none }
    have hexec : exec .clearHoldExpiry s = .next (a.close s false).refresh := by
      refine next_act hs.started _ ?_
      rw [hsince]
      exact if_pos (decide_eq_true hover)
    have hkept : WeatherFormed a := hformed
    refine completes_close hexec hs fun t h => ?_
    have hweather : t.weather = a.weather := h.weather.trans (formWeather_of_formed hkept)
    refine ⟨hweather, ?_⟩
    rw [hweather]
    exact h

/-- Settles O38. -/
theorem sideClassHeldThenApplied : Obligations.SideClassHeldThenApplied := by
  refine ⟨fun r c now => ⟨fun h => if_pos h, fun hne hun => ?_, fun hne hr hc => ⟨fun since hsince => ?_, fun hno => ?_⟩⟩,
    fun s u => ?_, fun s l c since hs hformed hsince hover => ?_⟩
  · exact (if_neg hne).trans (if_pos (by simpa using hun))
  · refine (if_neg hne).trans ((if_neg (by simp [hr, hc])).trans (if_pos ?_))
    unfold SideRecord.isPending
    rw [hsince]
    exact decide_eq_true rfl
  · refine (if_neg hne).trans ((if_neg (by simp [hr, hc])).trans (if_neg fun hpending => ?_))
    unfold SideRecord.isPending at hpending
    cases hp : r.pendingClass with
    | none =>
      rw [hp] at hpending
      cases hpending
    | some p =>
      rw [hp] at hpending
      exact hno p.2 (hp.trans (by rw [← of_decide_eq_true hpending]))
  · intro t changed
    obtain ⟨hsame, hweather⟩ | ⟨hchanged, -, hsides⟩ := formWeather_cases s
    · refine ⟨fun h => absurd h hsame, fun _ => ?_⟩
      simp only [t]
      rw [hweather]
      rfl
    · simp only [t]
      rw [(formWeather_governing s).1, hsides]
      refine ⟨fun _ hunit => if_pos hunit, fun h => if_neg ?_⟩
      rw [h.resolve_left fun hno => hno hchanged]
      decide
  · let a := s.setWeather { s.weather with sides := s.weather.sides.set (s.cfg.leader l) ⟨c, none⟩ }
    have hexec : exec (.classHoldExpiry l) s = .next (a.close s false).refresh := by
      refine next_act hs.started _ ?_
      dsimp only
      rw [hsince]
      exact if_pos (decide_eq_true hover)
    have hkept : WeatherFormed a := hformed
    refine completes_close hexec hs fun t h => ?_
    have hweather : t.weather = a.weather := h.weather.trans (formWeather_of_formed hkept)
    refine ⟨hweather, ?_⟩
    rw [hweather]
    exact h

/-! ### The slots of a demand table -/

theorem key_eq_service_iff (s : State) : s.key = .service ↔ s.detection.key.held = .service := by
  unfold State.key
  cases s.detection.key.held <;> decide

theorem key_eq_lockout_iff (s : State) : s.key = .lockout ↔ s.detection.key.held = .lockout := by
  unfold State.key
  cases s.detection.key.held <;> decide

theorem fire_iff (s : State) :
    s.fire = true ↔ ∃ z, z.isIn s.cfg.answerSet = true ∧ (s.zones.records.get z).state ≠ .clear := by
  unfold State.fire
  simp [Zone.mem_all]

/-- Settles O39. -/
theorem slotsFollowTheirSources : Obligations.SlotsFollowTheirSources := by
  intro s u v
  have hcomfort : v.comfort = s.comfortSlot := rfl
  have hfire : v.fire = if s.fire then some (s.cfg.fireValue (s.weather.sides.get u).applied) else none := rfl
  refine ⟨?_, ?_, fun x hx => ?_, ?_, ?_, fun h0 hown => ?_, fun p c h0 hown hp hc => ?_, fun h0 hown hno => ?_, rfl, rfl⟩
  · show s.zones.brigade.map OverrideAction.target = _
    cases s.zones.brigade with
    | none => rfl
    | some a => cases a <;> rfl
  · rw [hfire]
    have hstate (z : Zone) : (s.zones.records.get z).state ≠ .clear ↔
        ((s.zones.records.get z).state = .latched ∨ (s.zones.records.get z).state = .pending) := by
      cases (s.zones.records.get z).state <;> decide
    simp only [← hstate]
    rw [← fire_iff]
    cases s.fire <;> simp
  · rw [hfire] at hx
    obtain h | h := Bool.eq_false_or_eq_true s.fire
    · rw [if_pos h] at hx
      rw [← Option.some.inj hx]
      unfold Settings.fireValue
      cases (s.weather.sides.get u).applied <;> rfl
    · rw [if_neg (by rw [h]; decide)] at hx
      cases hx
  · show (if s.key = .service then _ else _) = _
    simp only [key_eq_service_iff]
  · rw [hcomfort]
    unfold State.comfortSlot
    split
    next h => simp [h]
    next h => split <;> simp [h]
  · rw [hcomfort]
    exact (if_neg h0).trans (if_pos hown)
  · rw [hcomfort]
    refine (if_neg h0).trans ((if_neg hown).trans ?_)
    unfold PeerTable.comfortOf
    rw [hp]
    dsimp only
    rw [hc] <;> rfl
  · rw [hcomfort]
    refine (if_neg h0).trans ((if_neg hown).trans ?_)
    unfold PeerTable.comfortOf
    cases hp : s.peers.find? s.cfg.comfortSource with
    | none => rfl
    | some p =>
      cases hst : p.status with
      | fresh c => exact absurd hst (hno p c hp)
      | absent => simp only [hst]; rfl
      | lost c => simp only [hst]; rfl

end Sys2Proof.Machine
end

section
/-! SUPPORT. The laws hold before the first start. -/

namespace Sys2Proof.Machine

theorem phase_reset : State.reset.phase = .off := rfl

theorem zonesLawful_reset : ZonesLawful .reset where
  formedNow := rfl
  alarmLatched := fun h => absurd h (by decide)
  source := fun z => by cases z <;> decide
  pendingSmoke := fun z h => absurd h (by cases z <;> decide)
  resetting := fun h => absurd rfl h
  hidden := fun _ h => absurd h nofun
  hiddenOnly := fun l h => absurd h (by cases l <;> decide)

theorem lineLawful_reset : LineLawful .reset where
  counter := by decide
  run := by decide
  full := by decide
  empty := by decide
  good := by decide
  bad := by decide
  sent := by decide
  collisions := by decide
  failures := by decide
  proving := fun h => absurd phase_reset h
  period := nofun
  sends := nofun
  attempt := nofun
  backoff := nofun
  held := fun h => absurd rfl h
  heldBytes := by decide

theorem peersLawful_reset : PeersLawful .reset where
  addresses := fun h => absurd phase_reset h
  score := fun _ hp => absurd hp List.not_mem_nil

theorem status_reset (u : Leaf) : (State.reset.units.get u).status = .rest := by cases u <;> rfl

theorem driveLawful_reset : DriveLawful .reset where
  slots := by decide
  members := fun u r h => by
    rw [status_reset] at h
    cases h
  formed := fun h => absurd phase_reset h
  weather := nofun
  brigade := nofun
  pairs := nofun
  lockedUnits := fun h => absurd phase_reset h
  lockedProbes := fun h => absurd phase_reset h
  lockedOutputs := fun h => absurd phase_reset h

/-- Settles O60. -/
theorem allLawsHoldAtReset : Obligations.AllLawsHoldAtReset :=
  ⟨zonesLawful_reset, lineLawful_reset, peersLawful_reset, driveLawful_reset⟩

end Sys2Proof.Machine
end

section
/-! SUPPORT. A report composed from the state as it stands (R20 to R26): the sector of the sector window (R93), the own weather (R96),
the latch set and the leaf entries. -/

namespace Sys2Proof.Machine

/-! ### The sector of the sector window -/

/-- Of two entries of a list, the one that occurs more often, the first on a tie. -/
def moreFrequent (l : List Nat) (best : Option Nat) (x : Nat) : Option Nat :=
  match best with
  | none => some x
  | some b => if l.count b < l.count x then some x else some b

theorem mostFrequent_eq (l : List Nat) : mostFrequent l = l.foldl (moreFrequent l) none := rfl

/-- The entry occurs no less often in the list than those among `seen`, and before those that occur as often. -/
def FirstMostFrequent (l seen : List Nat) (d : Nat) : Prop :=
  d ∈ seen ∧ ∀ x ∈ seen, x ≠ d → l.count x < l.count d ∨ (l.count x = l.count d ∧ l.idxOf d < l.idxOf x)

theorem foldl_moreFrequent {l : List Nat} (rest : List Nat) {seen : List Nat} {b : Nat} (hl : l = seen ++ rest)
    (hb : FirstMostFrequent l seen b) :
    ∃ d, rest.foldl (moreFrequent l) (some b) = some d ∧ FirstMostFrequent l l d := by
  induction rest generalizing seen b with
  | nil =>
    rw [List.append_nil] at hl
    exact ⟨b, rfl, hl ▸ hb⟩
  | cons y rest ih =>
    obtain ⟨hmem, hmost⟩ := hb
    have hl' : l = (seen ++ [y]) ++ rest := by rw [hl, List.append_assoc, List.singleton_append]
    rw [List.foldl_cons]
    by_cases hmore : l.count b < l.count y
    · rw [show moreFrequent l (some b) y = some y from if_pos hmore]
      refine ih hl' ⟨by simp, fun x hx hne => .inl ?_⟩
      obtain hx | hx := List.mem_append.1 hx
      · by_cases hxb : x = b
        · rw [hxb]
          exact hmore
        · obtain h | ⟨h, -⟩ := hmost x hx hxb <;> omega
      · exact absurd (List.mem_singleton.1 hx) hne
    · rw [show moreFrequent l (some b) y = some b from if_neg hmore]
      refine ih hl' ⟨by simp [hmem], fun x hx hne => ?_⟩
      by_cases hseen : x ∈ seen
      · exact hmost x hseen hne
      · obtain rfl : x = y := by simpa [hseen] using hx
        obtain h | h := Nat.lt_or_eq_of_le (Nat.le_of_not_lt hmore)
        · exact .inl h
        · refine .inr ⟨h, ?_⟩
          have hbound : l.idxOf b < seen.length := by
            rw [hl, List.idxOf_append_of_mem hmem]
            exact List.idxOf_lt_length_iff.2 hmem
          have hx : seen.length ≤ l.idxOf x := by
            rw [hl, List.idxOf_append_of_notMem hseen]
            exact Nat.le_add_right _ _
          omega

theorem mostFrequent_spec {l : List Nat} (h : l ≠ []) : ∃ d, mostFrequent l = some d ∧ FirstMostFrequent l l d := by
  cases l with
  | nil => exact absurd rfl h
  | cons y rest =>
    rw [mostFrequent_eq, List.foldl_cons]
    exact foldl_moreFrequent rest (seen := [y]) rfl ⟨by simp, fun x hx hne => absurd (List.mem_singleton.1 hx) hne⟩

theorem reportedSector_spec {w : List Nat} (h : w ≠ []) : ∃ d, reportedSector w = some d ∧ reportsSector w d := by
  obtain ⟨d, hd, hmem, hmost⟩ := mostFrequent_spec (l := w.reverse) (by simpa using h)
  refine ⟨d, hd, List.mem_reverse.1 hmem, fun x hx hne => ?_⟩
  have := hmost x (List.mem_reverse.2 hx) hne
  rwa [List.count_reverse, List.count_reverse] at this

/-! ### The parts of a report -/

theorem ownWeather_of_not_offered {s : State} (h : ¬ offersWeather s) : s.ownWeather = none := by
  unfold State.ownWeather
  split
  next hfault =>
    simp only [Bool.and_eq_true, Bool.not_eq_true'] at hfault
    obtain ⟨⟨hreporter, hanemo⟩, hvane⟩ := hfault
    unfold reportedSpeed reportedSector
    by_cases hspeed : s.weather.speedWindow = []
    · simp [hspeed]
    · have hsector : s.weather.sectorWindow = [] :=
        by_contra fun hsector => h ⟨hreporter, hanemo, hvane, hspeed, hsector⟩
      rw [hsector]
      cases (if s.weather.speedWindow.isEmpty then none else _ : Option Nat) <;> rfl
  · rfl

theorem ownWeather_of_offered {s : State} (h : offersWeather s) : ∃ d, reportsSector s.weather.sectorWindow d ∧
    s.ownWeather = some ⟨s.weather.speedWindow.sum / s.weather.speedWindow.length, d, s.weather.rainState⟩ := by
  obtain ⟨hreporter, hanemo, hvane, hspeed, hsector⟩ := h
  obtain ⟨d, hd, hreports⟩ := reportedSector_spec hsector
  have hmean : reportedSpeed s.weather.speedWindow = some (s.weather.speedWindow.sum / s.weather.speedWindow.length) :=
    if_neg (by simpa using hspeed)
  refine ⟨d, hreports, ?_⟩
  unfold State.ownWeather
  rw [hreporter, hanemo, hvane, hmean, hd]
  rfl

theorem Zone.isIn_foldl_iff (p : Zone → Bool) (z : Zone) (zs : List Zone) (acc : Byte) :
    z.isIn (zs.foldl (fun acc y => if p y then acc ||| y.bit else acc) acc) = true ↔
      z.isIn acc = true ∨ (z ∈ zs ∧ p z = true) := by
  induction zs generalizing acc with
  | nil => simp
  | cons y ys ih =>
    rw [List.foldl_cons, ih]
    cases hp : p y with
    | true =>
      rw [if_pos rfl, Zone.isIn_or_bit, List.mem_cons]
      constructor
      · rintro ((h | rfl) | ⟨hz, h⟩)
        · exact .inl h
        · exact .inr ⟨.inl rfl, hp⟩
        · exact .inr ⟨.inr hz, h⟩
      · rintro (h | ⟨rfl | hz, h⟩)
        · exact .inl (.inl h)
        · exact .inl (.inr rfl)
        · exact .inr ⟨hz, h⟩
    | false =>
      rw [if_neg (by decide), List.mem_cons]
      constructor
      · rintro (h | ⟨hz, h⟩)
        · exact .inl h
        · exact .inr ⟨.inr hz, h⟩
      · rintro (h | ⟨rfl | hz, h⟩)
        · exact .inl h
        · rw [hp] at h
          cases h
        · exact .inr ⟨hz, h⟩

theorem Zone.isIn_setOf_iff (p : Zone → Bool) (z : Zone) : z.isIn (Zone.setOf p) = true ↔ p z = true := by
  have hzero : z.isIn 0#8 = false := by cases z <;> rfl
  unfold Zone.setOf
  rw [Zone.isIn_foldl_iff, hzero]
  simp [Zone.mem_all]

theorem hasEntry_iff (s : State) (l : Leaf) :
    s.hasEntry l = true ↔ s.cfg.mapped l = true ∧ (s.feedback.get l).presence = .present := by
  unfold State.hasEntry
  rw [Bool.and_eq_true, decide_eq_true_eq]

theorem mem_leafEntries_iff {s : State} {e : LeafEntry} :
    e ∈ s.leafEntries ↔ ∃ l, s.hasEntry l = true ∧ s.leafEntry l = e := by
  unfold State.leafEntries
  simp only [List.mem_map, List.mem_filter, N4.mem_all, true_and]

/-- Settles O9. -/
theorem reportCarriesStateAsItStands : Obligations.ReportCarriesStateAsItStands := by
  intro s q r
  refine ⟨rfl, rfl, ?_, fire_iff s, rfl, rfl, ?_, decide_eq_true_iff, ?_, rfl, decide_eq_true_iff, fun z => ⟨?_, ?_⟩, rfl,
    ownWeather_of_not_offered, ownWeather_of_offered, rfl, rfl, fun l => ?_, fun e he => ?_⟩
  · rw [← key_eq_service_iff]
    show (if s.key = .service then Condition.atService else .running) = .atService ↔ _
    split
    next h => exact ⟨fun _ => h, fun _ => rfl⟩
    next h => exact ⟨nofun, fun k => absurd k h⟩
  · show (decide _ || decide _) = true ↔ _
    cases s.supply.state <;> decide
  · rw [← key_eq_lockout_iff]
    exact decide_eq_true_iff
  · exact (Zone.isIn_setOf_iff _ z).trans decide_eq_true_iff
  · exact PerZone.get_ofFn _ z
  · constructor
    · rintro ⟨e, he, rfl⟩
      obtain ⟨l, hl, rfl⟩ := mem_leafEntries_iff.1 he
      exact (hasEntry_iff s l).1 hl
    · intro h
      exact ⟨_, mem_leafEntries_iff.2 ⟨l, (hasEntry_iff s l).2 h, rfl⟩, rfl⟩
  · obtain ⟨l, hl, rfl⟩ := mem_leafEntries_iff.1 he
    refine ⟨rfl, rfl, rfl, decide_eq_true_iff, rfl, ?_⟩
    show (s.motion l).summary = match s.motion l with
      | .unref => .unref
      | .idle => .idle
      | .waiting | .starting | .running | .rundown | .probing => .moving
      | .absent | .outOfService => .out
    cases s.motion l <;> rfl

end Sys2Proof.Machine
end

section
/-! SUPPORT. The layout of a frame (R27): its first sixteen bytes, the parts, and the check word (R28). -/

namespace Sys2Proof.Machine

/-! ### Single bytes -/

theorem word16Bytes_eq_twoBytes (n : Nat) : word16Bytes n = twoBytes n := by
  unfold word16Bytes twoBytes
  have hhigh : highByte (BitVec.ofNat 16 n) = BitVec.ofNat 8 (n / 256) := by
    refine BitVec.eq_of_toNat_eq ?_
    unfold highByte
    simp only [BitVec.extractLsb'_toNat, BitVec.toNat_ofNat, Nat.shiftRight_eq_div_pow]
    omega
  have hlow : lowByte (BitVec.ofNat 16 n) = BitVec.ofNat 8 n := by
    refine BitVec.eq_of_toNat_eq ?_
    unfold lowByte
    simp only [BitVec.extractLsb'_toNat, BitVec.toNat_ofNat, Nat.shiftRight_eq_div_pow]
    omega
  rw [hhigh, hlow]

theorem flagBits (a b c d e f g : Bool) :
    BitVec.ofNat 8 (bitOf a 7 + bitOf b 5 + bitOf c 4 + bitOf d 3 + bitOf e 2 + bitOf f 1 + bitOf g 0) =
      BitVec.ofBool a ++ 0#1 ++ BitVec.ofBool b ++ BitVec.ofBool c ++ BitVec.ofBool d ++ BitVec.ofBool e ++
        BitVec.ofBool f ++ BitVec.ofBool g := by
  revert a b c d e f g
  decide

theorem originBits : ∀ a : Bool, ∀ n < 16, BitVec.ofNat 8 (bitOf a 7 + n) = BitVec.ofBool a ++ 0#3 ++ BitVec.ofNat 4 n := by
  decide

theorem presenceBits : ∀ a b c : Bool, ∀ n < 8, BitVec.ofNat 8 (bitOf a 7 + bitOf b 6 + bitOf c 5 + n) =
    BitVec.ofBool a ++ BitVec.ofBool b ++ BitVec.ofBool c ++ 0#2 ++ BitVec.ofNat 3 n := by
  decide

theorem stateBits : ∀ m < 4, ∀ n < 8, ∀ a b c : Bool, BitVec.ofNat 8 (m * 64 + n * 8 + bitOf a 2 + bitOf b 1 + bitOf c 0) =
    BitVec.ofNat 2 m ++ BitVec.ofNat 3 n ++ BitVec.ofBool a ++ BitVec.ofBool b ++ BitVec.ofBool c := by
  decide

/-! ### The parts -/

/-- The bytes of the weather part. -/
def weatherPartBytes (r : Report) : List Byte := (r.weather.map weatherBytes).getD []

/-- The byte of the comfort part. -/
def comfortPartBytes (r : Report) : List Byte := (r.comfort.map fun c => [BitVec.ofNat 8 c]).getD []

/-- The bytes of the override part. -/
def overridePartBytes (r : Report) : List Byte := (r.overridePart.map overrideBytes).getD []

/-- The bytes of the leaf entries. -/
def leafPartBytes (r : Report) : List Byte := (r.leaves.map leafBytes).flatten

theorem stateByte_eq (e : LeafEntry) : e.stateByte = BitVec.ofNat 2 e.summary.code ++ BitVec.ofNat 3 e.slot.code ++
    BitVec.ofBool e.atTarget ++ BitVec.ofBool e.estimated ++ BitVec.ofBool e.lastRunFailed := by
  have hsummary : e.summary.code < 4 := by cases e.summary <;> decide
  have hslot : e.slot.code < 8 := by cases e.slot <;> decide
  exact stateBits _ hsummary _ hslot _ _ _

theorem partBytes_eq (r : Report) :
    partBytes r = weatherPartBytes r ++ comfortPartBytes r ++ overridePartBytes r ++ leafPartBytes r := by
  unfold partBytes weatherPartBytes comfortPartBytes overridePartBytes leafPartBytes
  refine congrArg₂ (· ++ ·) (congrArg₂ (· ++ ·) (congrArg₂ (· ++ ·) ?_ ?_) ?_) (congrArg List.flatten (List.map_congr_left fun e _ => ?_))
  · cases r.weather with
    | none => rfl
    | some w =>
      obtain ⟨speed, sector, rain⟩ := w
      show _ = word16Bytes speed ++ _
      rw [word16Bytes_eq_twoBytes]
      cases rain <;> rfl
  · cases r.comfort <;> rfl
  · cases r.overridePart with
    | none => rfl
    | some o =>
      obtain ⟨action, zoneSet, epoch⟩ := o
      show _ = [BitVec.ofNat 8 action.code, zoneSet] ++ word16Bytes epoch
      rw [word16Bytes_eq_twoBytes]
      cases action <;> rfl
  · obtain ⟨leaf, position, summary, slot, atTarget, estimated, lastRunFailed⟩ := e
    unfold leafBytes positionCode
    rw [word16Bytes_eq_twoBytes, stateByte_eq]
    cases summary <;> cases slot <;> rfl

theorem length_weatherPartBytes (r : Report) : (weatherPartBytes r).length = if r.weather.isSome then 4 else 0 := by
  unfold weatherPartBytes
  cases r.weather <;> rfl

theorem length_comfortPartBytes (r : Report) : (comfortPartBytes r).length = if r.comfort.isSome then 1 else 0 := by
  unfold comfortPartBytes
  cases r.comfort <;> rfl

theorem length_overridePartBytes (r : Report) : (overridePartBytes r).length = if r.overridePart.isSome then 4 else 0 := by
  unfold overridePartBytes
  cases r.overridePart <;> rfl

theorem length_leafPartBytes (r : Report) : (leafPartBytes r).length = 4 * r.leaves.length := by
  unfold leafPartBytes
  induction r.leaves with
  | nil => rfl
  | cons e es ih =>
    rw [List.map_cons, List.flatten_cons, List.length_append, ih, List.length_cons]
    have hentry : (leafBytes e).length = 4 := rfl
    omega

theorem length_partBytes (r : Report) : (partBytes r).length = (if r.weather.isSome then 4 else 0) +
    (if r.comfort.isSome then 1 else 0) + (if r.overridePart.isSome then 4 else 0) + 4 * r.leaves.length := by
  rw [partBytes_eq, List.length_append, List.length_append, List.length_append, length_weatherPartBytes,
    length_comfortPartBytes, length_overridePartBytes, length_leafPartBytes]

/-! ### The frame -/

/-- The first bytes of a frame's body, up to byte 15 of the frame. -/
def bodyHeader (r : Report) : List Byte :=
  [BitVec.ofNat 8 r.source, r.sequence, r.flagByte, BitVec.ofNat 8 (bitOf r.origin 7 + r.smokeZone), r.latchSet, r.marks.z1,
    r.marks.z2, r.marks.z3, r.marks.z4, r.marks.z5, r.marks.z6, r.marks.z7, r.marks.z8, r.presenceByte]

/-- The first sixteen bytes of a frame. -/
def header (r : Report) : List Byte := delimiter :: BitVec.ofNat 8 r.body.length :: bodyHeader r

/-- The two bytes of the check word, over length and body (R28). -/
def checkBytes (r : Report) : List Byte :=
  let word := crc16 (BitVec.ofNat 8 r.body.length :: r.body)
  [highByte word, lowByte word]

theorem body_eq (r : Report) : r.body = bodyHeader r ++ partBytes r := by
  rw [partBytes_eq, ← List.append_assoc, ← List.append_assoc, ← List.append_assoc]
  rfl

theorem encodeFrame_eq (r : Report) : encodeFrame r = header r ++ (partBytes r ++ checkBytes r) := by
  have hcounted : BitVec.ofNat 8 r.body.length :: r.body = BitVec.ofNat 8 r.body.length :: (bodyHeader r ++ partBytes r) :=
    congrArg (BitVec.ofNat 8 r.body.length :: ·) (body_eq r)
  refine (congrArg (fun counted => delimiter :: counted ++ checkBytes r) hcounted).trans ?_
  rw [← List.append_assoc]
  rfl

theorem length_body (r : Report) : r.body.length = 14 + (partBytes r).length := by
  rw [body_eq, List.length_append]
  rfl

theorem length_encodeFrame (r : Report) : (encodeFrame r).length = 18 + (partBytes r).length := by
  rw [encodeFrame_eq, List.length_append, List.length_append]
  have hheader : (header r).length = 16 := rfl
  have hcheck : (checkBytes r).length = 2 := rfl
  omega

/-- At most four leaves have an entry. -/
theorem Report.wf.length_leaves {r : Report} (h : r.wf) : r.leaves.length ≤ 4 := by
  have hsub : r.leaves.map LeafEntry.leaf ⊆ N4.all := fun l _ => N4.mem_all l
  simpa [N4.all] using (h.leaves.subperm hsub).length_le

theorem Report.wf.length_partBytes_le {r : Report} (h : r.wf) : (partBytes r).length ≤ 25 := by
  have hleaves := h.length_leaves
  rw [length_partBytes]
  split <;> split <;> split <;> omega

theorem flagByte_eq (r : Report) : r.flagByte = BitVec.ofBool (decide (r.condition = .atService)) ++ 0#1 ++
    BitVec.ofBool r.flags.fire ++ BitVec.ofBool r.flags.isolated ++ BitVec.ofBool r.flags.degraded ++
    BitVec.ofBool r.flags.battery ++ BitVec.ofBool r.flags.low ++ BitVec.ofBool r.flags.lockout := flagBits _ _ _ _ _ _ _

theorem Report.wf.presenceByte_eq {r : Report} (h : r.wf) : r.presenceByte = BitVec.ofBool r.weather.isSome ++
    BitVec.ofBool r.comfort.isSome ++ BitVec.ofBool r.overridePart.isSome ++ 0#2 ++ BitVec.ofNat 3 r.leaves.length :=
  presenceBits _ _ _ _ (Nat.lt_of_le_of_lt h.length_leaves (by decide))

theorem Report.wf.originByte_eq {r : Report} (h : r.wf) :
    BitVec.ofNat 8 (bitOf r.origin 7 + r.smokeZone) = BitVec.ofBool r.origin ++ 0#3 ++ BitVec.ofNat 4 r.smokeZone :=
  originBits _ _ (Nat.lt_of_le_of_lt h.smokeZone.2 (by decide))

theorem getElem?_encodeFrame (r : Report) {i : Nat} (h : i < 16) : (encodeFrame r)[i]? = (header r)[i]? := by
  rw [encodeFrame_eq]
  exact List.getElem?_append_left h

/-- Settles O11. -/
theorem frameBytesAndCheckWord : Obligations.FrameBytesAndCheckWord := by
  refine ⟨fun r hr => ?_, rfl, fun bytes b => ?_, by decide +kernel⟩
  · intro f
    have hlength : f.length = 18 + (partBytes r).length := length_encodeFrame r
    have hat {i : Nat} (h : i < 16) : f[i]? = (header r)[i]? := getElem?_encodeFrame r h
    refine ⟨hat (by decide), (hat (by decide)).trans ?_, hat (by decide), hat (by decide), hat (by decide), fun z => ?_,
      (hat (by decide)).trans (congrArg some (flagByte_eq r)), (hat (by decide)).trans (congrArg some hr.originByte_eq),
      (hat (by decide)).trans (congrArg some hr.presenceByte_eq), ?_, BitVec.ofNat 8 r.body.length :: r.body, ?_⟩
    · have hbody : r.body.length = f.length - 4 := by
        rw [length_body, hlength]
        omega
      rw [← hbody]
      rfl
    · cases z <;> exact hat (by decide)
    · have hdrop : f.drop 16 = partBytes r ++ checkBytes r := by
        show (encodeFrame r).drop 16 = _
        rw [encodeFrame_eq]
        rfl
      rw [hdrop, hlength, Nat.add_sub_cancel_left]
      exact List.take_left
    · rfl
  · unfold crc16
    rw [List.foldl_append]
    rfl

end Sys2Proof.Machine
end

section
/-! SUPPORT. A frame composed from a report's values is good, and is taken as that report (R27 to R29, R41). -/

namespace Sys2Proof.Machine

/-! ### Bytes at an offset -/

theorem byteAt_add (f : List Byte) (n i : Nat) : byteAt f (n + i) = byteAt (f.drop n) i := by
  unfold byteAt
  rw [List.getD_eq_getElem?_getD, List.getD_eq_getElem?_getD, List.getElem?_drop]

theorem fromBytes_word16 {n : Nat} (h : n ≤ 65535) :
    ∃ a b, word16Bytes n = [a, b] ∧ fromBytes a b = n := by
  refine ⟨_, _, rfl, ?_⟩
  unfold fromBytes highByte lowByte
  simp only [BitVec.extractLsb'_toNat, BitVec.toNat_ofNat, Nat.shiftRight_eq_div_pow]
  omega

/-! ### The header -/

theorem flagBits_read : ∀ a b c d e f g : Bool,
    let x := BitVec.ofBool a ++ 0#1 ++ BitVec.ofBool b ++ BitVec.ofBool c ++ BitVec.ofBool d ++ BitVec.ofBool e ++
      BitVec.ofBool f ++ BitVec.ofBool g
    x.getLsbD 7 = a ∧ takeFlags x = ⟨b, c, d, e, f, g⟩ := by
  decide

theorem originBits_read : ∀ a : Bool, ∀ n < 16,
    let x := BitVec.ofBool a ++ 0#3 ++ BitVec.ofNat 4 n
    x.getLsbD 7 = a ∧ x.toNat % 16 = n := by
  decide

theorem presenceBits_read : ∀ a b c : Bool, ∀ n < 8,
    let x : Byte := BitVec.ofBool a ++ BitVec.ofBool b ++ BitVec.ofBool c ++ 0#2 ++ BitVec.ofNat 3 n
    hasWeather x = a ∧ hasComfort x = b ∧ hasOverride x = c ∧ entryCount x = n := by
  decide

theorem stateBits_read : ∀ m < 4, ∀ n < 8, ∀ a b c : Bool,
    let x : Byte := BitVec.ofNat 2 m ++ BitVec.ofNat 3 n ++ BitVec.ofBool a ++ BitVec.ofBool b ++ BitVec.ofBool c
    x.toNat / 64 = m ∧ x.toNat / 8 % 8 = n ∧ x.getLsbD 2 = a ∧ x.getLsbD 1 = b ∧ x.getLsbD 0 = c := by
  decide

/-! ### The parts -/

theorem takeWeather_weatherBytes {w : WeatherPart} (hspeed : w.speed ≤ 600) (hsector : w.sector ≤ 15) :
    ∃ a b c d, weatherBytes w = [a, b, c, d] ∧ takeWeather a b c d = some w := by
  obtain ⟨a, b, hword, hspeed'⟩ := fromBytes_word16 (n := w.speed) (by omega)
  refine ⟨a, b, BitVec.ofNat 8 w.sector, BitVec.ofNat 8 w.rain.code, by unfold weatherBytes; rw [hword] <;> rfl, ?_⟩
  have hsectorByte : (BitVec.ofNat 8 w.sector).toNat = w.sector := by
    rw [BitVec.toNat_ofNat]
    exact Nat.mod_eq_of_lt (by omega)
  have hrain : rainOf (BitVec.ofNat 8 w.rain.code) = w.rain := by cases w.rain <;> decide
  unfold takeWeather
  rw [hsectorByte, if_pos hsector, hspeed', Nat.min_eq_left hspeed, hrain]

theorem takeOverride_overrideBytes {o : Override} (hlow : 1 ≤ o.epoch) (hhigh : o.epoch ≤ 65535) :
    ∃ a b c d, overrideBytes o = [a, b, c, d] ∧ takeOverride a b c d = some o := by
  obtain ⟨c, d, hword, hepoch⟩ := fromBytes_word16 hhigh
  refine ⟨BitVec.ofNat 8 o.action.code, o.zoneSet, c, d, by unfold overrideBytes; rw [hword] <;> rfl, ?_⟩
  unfold takeOverride
  rw [hepoch, if_neg (by omega)]
  obtain ⟨action, zoneSet, epoch⟩ := o
  cases action <;> rfl

theorem takeLeaf_leafBytes {e : LeafEntry} (hposition : ∀ p, e.position = some p → p ≤ 1000) :
    ∃ a b c d, leafBytes e = [a, b, c, d] ∧ takeLeaf a b c d = some e := by
  have hcode : positionCode e.position ≤ 65535 := by
    unfold positionCode
    cases hp : e.position with
    | none => exact Nat.le_refl _
    | some p => exact (hposition p hp).trans (by decide)
  obtain ⟨b, c, hword, hvalue⟩ := fromBytes_word16 hcode
  refine ⟨BitVec.ofNat 8 e.leaf.number, b, c, e.stateByte, by unfold leafBytes; rw [hword] <;> rfl, ?_⟩
  have hnumber : N4.ofNumber? (BitVec.ofNat 8 e.leaf.number).toNat = some e.leaf := by cases e.leaf <;> rfl
  have htaken : takePosition b c = e.position := by
    unfold takePosition
    rw [hvalue]
    unfold positionCode
    cases hp : e.position with
    | none => rfl
    | some p => exact if_pos (hposition p hp)
  have hsummary : e.summary.code < 4 := by cases e.summary <;> decide
  have hslot : e.slot.code < 8 := by cases e.slot <;> decide
  obtain ⟨h1, h2, h3, h4, h5⟩ := stateBits_read _ hsummary _ hslot e.atTarget e.estimated e.lastRunFailed
  have hsummaryOf : summaryOf e.summary.code = e.summary := by cases e.summary <;> rfl
  have hslotOf : slotOf e.slot.code = e.slot := by cases e.slot <;> rfl
  unfold takeLeaf
  rw [hnumber, htaken, stateByte_eq, h1, h2, h3, h4, h5, hsummaryOf, hslotOf] <;> rfl

/-- The leaf entries are taken in frame order (R27, R29). -/
theorem takeLeaves_flatten {es acc : List LeafEntry} (rest : List Byte) (hposition : ∀ e ∈ es, ∀ p, e.position = some p → p ≤ 1000)
    (hnodup : ((acc ++ es).map LeafEntry.leaf).Nodup) :
    takeLeaves es.length ((es.map leafBytes).flatten ++ rest) acc = acc ++ es := by
  induction es generalizing acc with
  | nil =>
    rw [List.append_nil]
    unfold takeLeaves
    rfl
  | cons e es ih =>
    obtain ⟨a, b, c, d, hbytes, htaken⟩ := takeLeaf_leafBytes (hposition e List.mem_cons_self)
    have hnew : (acc.any fun x => x.leaf = e.leaf) = false := by
      rw [List.any_eq_false]
      intro x hx hsame
      have hdisjoint := (List.nodup_append.1 (List.map_append ▸ hnodup)).2.2 x.leaf (List.mem_map_of_mem hx) e.leaf
        (List.mem_map_of_mem List.mem_cons_self)
      exact hdisjoint (of_decide_eq_true hsame)
    have hall : acc ++ e :: es = (acc ++ [e]) ++ es := by rw [List.append_assoc, List.singleton_append]
    rw [hall] at hnodup ⊢
    rw [← ih (fun x hx => hposition x (.tail _ hx)) hnodup]
    rw [List.map_cons, List.flatten_cons, hbytes]
    show takeLeaves (es.length + 1) (a :: b :: c :: d :: ((es.map leafBytes).flatten ++ rest)) acc = _
    rw [takeLeaves, htaken]
    dsimp only
    rw [hnew] <;> rfl

/-! ### The frame taken -/

section
variable {r : Report} (h : r.wf)

theorem drop_encodeFrame (r : Report) : (encodeFrame r).drop 16 = weatherPartBytes r ++ (comfortPartBytes r ++
    (overridePartBytes r ++ (leafPartBytes r ++ checkBytes r))) := by
  rw [encodeFrame_eq, partBytes_eq]
  simp only [List.append_assoc]
  rfl

theorem byteAt_encodeFrame (r : Report) {i : Nat} (h : i < 16) : byteAt (encodeFrame r) i = byteAt (header r) i := by
  unfold byteAt
  rw [List.getD_eq_getElem?_getD, getElem?_encodeFrame r h, ← List.getD_eq_getElem?_getD]

theorem byteAt_of_drop {f rest : List Byte} {n : Nat} {a : Byte} (h : f.drop n = a :: rest) : byteAt f n = a := by
  rw [← Nat.add_zero n, byteAt_add, h]
  rfl

theorem byteAt_of_drop_four {f rest : List Byte} {n : Nat} {a b c d : Byte} (h : f.drop n = a :: b :: c :: d :: rest) :
    byteAt f n = a ∧ byteAt f (n + 1) = b ∧ byteAt f (n + 2) = c ∧ byteAt f (n + 3) = d := by
  refine ⟨byteAt_of_drop h, ?_, ?_, ?_⟩ <;>
    · rw [byteAt_add, h]
      rfl

theorem fromBytes_check (w : BitVec 16) : fromBytes (highByte w) (lowByte w) = w.toNat := by
  unfold fromBytes highByte lowByte
  simp only [BitVec.extractLsb'_toNat, Nat.shiftRight_eq_div_pow]
  have hw : w.toNat < 2 ^ 16 := w.isLt
  omega

/-- The check word of a composed frame is the one it carries (R28). -/
theorem checkWord_encode {n : Nat} (hn : n = r.body.length) :
    (crc16 (((encodeFrame r).drop 1).take (n + 1))).toNat =
      fromBytes (byteAt (encodeFrame r) (n + 2)) (byteAt (encodeFrame r) (n + 3)) := by
  have hframe : (encodeFrame r).drop 1 = (BitVec.ofNat 8 r.body.length :: r.body) ++ checkBytes r := rfl
  have hcovered : ((encodeFrame r).drop 1).take (n + 1) = BitVec.ofNat 8 r.body.length :: r.body := by
    rw [hframe, hn]
    exact List.take_left' rfl
  have hcheck : (encodeFrame r).drop (n + 2) = checkBytes r := by
    rw [show n + 2 = 1 + (n + 1) by omega, ← List.drop_drop, hframe, hn]
    exact List.drop_left' rfl
  rw [hcovered, byteAt_of_drop hcheck, show n + 3 = n + 2 + 1 by omega, byteAt_add, hcheck]
  exact (fromBytes_check _).symm

theorem flagByte_read (r : Report) :
    (if r.flagByte.getLsbD 7 then Condition.atService else .running) = r.condition ∧ takeFlags r.flagByte = r.flags := by
  obtain ⟨hcondition, hflags⟩ := flagBits_read (decide (r.condition = .atService)) r.flags.fire r.flags.isolated
    r.flags.degraded r.flags.battery r.flags.low r.flags.lockout
  rw [flagByte_eq, hcondition, hflags]
  cases r.condition <;> exact ⟨rfl, rfl⟩

include h

theorem Report.wf.presence_read : hasWeather r.presenceByte = r.weather.isSome ∧ hasComfort r.presenceByte = r.comfort.isSome ∧
    hasOverride r.presenceByte = r.overridePart.isSome ∧ entryCount r.presenceByte = r.leaves.length := by
  rw [h.presenceByte_eq]
  exact presenceBits_read _ _ _ _ (Nat.lt_of_le_of_lt h.length_leaves (by decide))

theorem Report.wf.weather_read {f rest : List Byte} {n : Nat} (hf : f.drop n = weatherPartBytes r ++ rest) :
    (if r.weather.isSome then takeWeather (byteAt f n) (byteAt f (n + 1)) (byteAt f (n + 2)) (byteAt f (n + 3)) else none) =
      r.weather := by
  cases hw : r.weather with
  | none => rfl
  | some w =>
    obtain ⟨hspeed, hsector⟩ := h.weather w hw
    obtain ⟨a, b, c, d, hbytes, htaken⟩ := takeWeather_weatherBytes hspeed hsector
    have hpart : weatherPartBytes r = [a, b, c, d] := by
      unfold weatherPartBytes
      rw [hw]
      exact hbytes
    rw [hpart] at hf
    obtain ⟨h0, h1, h2, h3⟩ := byteAt_of_drop_four hf
    rw [h0, h1, h2, h3]
    exact htaken

theorem Report.wf.comfort_read {f rest : List Byte} {n : Nat} (hf : f.drop n = comfortPartBytes r ++ rest) :
    (if r.comfort.isSome then some (min (byteAt f n).toNat 100) else none) = r.comfort := by
  cases hc : r.comfort with
  | none => rfl
  | some c =>
    have hbound := h.comfort c hc
    have hpart : comfortPartBytes r = [BitVec.ofNat 8 c] := by
      unfold comfortPartBytes
      rw [hc] <;> rfl
    rw [hpart] at hf
    rw [byteAt_of_drop hf, BitVec.toNat_ofNat, Nat.mod_eq_of_lt (by omega), Nat.min_eq_left hbound] <;> rfl

theorem Report.wf.override_read {f rest : List Byte} {n : Nat} (hf : f.drop n = overridePartBytes r ++ rest) :
    (if r.overridePart.isSome then takeOverride (byteAt f n) (byteAt f (n + 1)) (byteAt f (n + 2)) (byteAt f (n + 3))
      else none) = r.overridePart := by
  cases ho : r.overridePart with
  | none => rfl
  | some o =>
    obtain ⟨hlow, hhigh⟩ := h.epoch o ho
    obtain ⟨a, b, c, d, hbytes, htaken⟩ := takeOverride_overrideBytes hlow hhigh
    have hpart : overridePartBytes r = [a, b, c, d] := by
      unfold overridePartBytes
      rw [ho]
      exact hbytes
    rw [hpart] at hf
    obtain ⟨h0, h1, h2, h3⟩ := byteAt_of_drop_four hf
    rw [h0, h1, h2, h3]
    exact htaken

theorem Report.wf.leaves_read (rest : List Byte) : takeLeaves r.leaves.length (leafPartBytes r ++ rest) [] = r.leaves :=
  takeLeaves_flatten rest h.position h.leaves

theorem Report.wf.source_read : (BitVec.ofNat 8 r.source).toNat = r.source := by
  obtain ⟨-, hhigh⟩ := h.source
  rw [BitVec.toNat_ofNat]
  exact Nat.mod_eq_of_lt (by omega)

theorem Report.wf.origin_read : (BitVec.ofNat 8 (bitOf r.origin 7 + r.smokeZone)).getLsbD 7 = r.origin ∧
    (BitVec.ofNat 8 (bitOf r.origin 7 + r.smokeZone)).toNat % 16 = r.smokeZone := by
  rw [h.originByte_eq]
  exact originBits_read _ _ (Nat.lt_of_le_of_lt h.smokeZone.2 (by decide))

/-- A frame composed from a report's values is taken as that report. -/
theorem Report.wf.decode_encode : decodeFrame (encodeFrame r) = r := by
  have hat {i : Nat} (hi : i < 16) : byteAt (encodeFrame r) i = byteAt (header r) i := byteAt_encodeFrame r hi
  have hpresence : byteAt (encodeFrame r) 15 = r.presenceByte := hat (by decide)
  obtain ⟨hweather, hcomfort, hoverride, hcount⟩ := h.presence_read
  obtain ⟨hcondition, hflags⟩ := flagByte_read r
  obtain ⟨horigin, hsmoke⟩ := h.origin_read
  have hdrop0 := drop_encodeFrame r
  have hdrop1 : (encodeFrame r).drop (16 + if r.weather.isSome then 4 else 0) = comfortPartBytes r ++
      (overridePartBytes r ++ (leafPartBytes r ++ checkBytes r)) := by
    rw [← length_weatherPartBytes, ← List.drop_drop, hdrop0, List.drop_left]
  have hdrop2 : (encodeFrame r).drop ((16 + if r.weather.isSome then 4 else 0) + if r.comfort.isSome then 1 else 0) =
      overridePartBytes r ++ (leafPartBytes r ++ checkBytes r) := by
    rw [← length_comfortPartBytes, ← List.drop_drop, hdrop1, List.drop_left]
  have hdrop3 : (encodeFrame r).drop (((16 + if r.weather.isSome then 4 else 0) + if r.comfort.isSome then 1 else 0) +
      if r.overridePart.isSome then 4 else 0) = leafPartBytes r ++ checkBytes r := by
    rw [← length_overridePartBytes, ← List.drop_drop, hdrop2, List.drop_left]
  unfold decodeFrame
  dsimp only
  rw [hpresence, hweather, hcomfort, hoverride, hcount, h.weather_read hdrop0, h.comfort_read hdrop1, h.override_read hdrop2,
    hdrop3, h.leaves_read]
  have h2 : byteAt (encodeFrame r) 2 = BitVec.ofNat 8 r.source := hat (by decide)
  have h3 : byteAt (encodeFrame r) 3 = r.sequence := hat (by decide)
  have h4 : byteAt (encodeFrame r) 4 = r.flagByte := hat (by decide)
  have h5 : byteAt (encodeFrame r) 5 = BitVec.ofNat 8 (bitOf r.origin 7 + r.smokeZone) := hat (by decide)
  have h6 : byteAt (encodeFrame r) 6 = r.latchSet := hat (by decide)
  have hmarks : (⟨byteAt (encodeFrame r) 7, byteAt (encodeFrame r) 8, byteAt (encodeFrame r) 9, byteAt (encodeFrame r) 10,
      byteAt (encodeFrame r) 11, byteAt (encodeFrame r) 12, byteAt (encodeFrame r) 13, byteAt (encodeFrame r) 14⟩ : PerZone Byte) =
      r.marks :=
    PerZone.ext_get fun z => by
      cases z
      exacts [hat (i := 7) (by decide), hat (i := 8) (by decide), hat (i := 9) (by decide), hat (i := 10) (by decide),
        hat (i := 11) (by decide), hat (i := 12) (by decide), hat (i := 13) (by decide), hat (i := 14) (by decide)]
  rw [h2, h3, h4, h5, h6, hmarks, h.source_read, hcondition, hflags, horigin, hsmoke]

theorem Report.wf.good_encode : goodFrame (encodeFrame r) = true := by
  have hat {i : Nat} (hi : i < 16) : byteAt (encodeFrame r) i = byteAt (header r) i := byteAt_encodeFrame r hi
  have hlength := length_encodeFrame r
  have hbody := length_body r
  have hparts := h.length_partBytes_le
  have hbyte : (byteAt (encodeFrame r) 1).toNat = r.body.length := by
    rw [hat (by decide)]
    refine (BitVec.toNat_ofNat _ _).trans (Nat.mod_eq_of_lt ?_)
    omega
  have hcomplete : frameComplete (encodeFrame r) = true := (frameComplete_iff _).2 (by omega)
  refine (goodFrame_iff _).2 ⟨hcomplete, by omega, (badFinding_map_cleanByte_eq_none_iff _).2
    ⟨fun _ => hat (by decide), fun _ => by omega, fun _ => ⟨?_, ?_⟩, fun _ => ?_, fun _ => ?_⟩⟩
  · have hpresence : byteAt (encodeFrame r) 15 = r.presenceByte := hat (by decide)
    obtain ⟨hweather, hcomfort, hoverride, hcount⟩ := h.presence_read
    rw [hbyte, hbody, length_partBytes, hpresence]
    unfold consistentLength
    rw [hweather, hcomfort, hoverride, hcount]
    omega
  · have hpresence : byteAt (encodeFrame r) 15 = r.presenceByte := hat (by decide)
    rw [hpresence, h.presence_read.2.2.2]
    exact h.length_leaves
  · exact checkWord_encode hbyte
  · have hsource : byteAt (encodeFrame r) 2 = BitVec.ofNat 8 r.source := hat (by decide)
    rw [hsource, h.source_read]
    exact h.source

end

/-- Settles O10. -/
theorem frameRoundTrip : Obligations.FrameRoundTrip := by
  intro r h
  have hlength := length_encodeFrame r
  have hparts := h.length_partBytes_le
  exact ⟨h.decode_encode, h.good_encode, by omega, by omega⟩

end Sys2Proof.Machine
end

section
/-! SUPPORT. The pins formed at the end of every command (R35, R85 to R87, R130, R137, R170, R178 to R182). -/

namespace Sys2Proof.Machine

/-! ### Causes of the fault relay -/

theorem LoopRecord.faulted_iff (r : LoopRecord) : r.faulted = true ↔ r.state = .opened ∨ r.state = .shorted := by
  simp [LoopRecord.faulted]

theorem leafFault_iff (s : State) : s.leafFault = true ↔
    ∃ l, s.cfg.mapped l = true ∧ (s.motion l = .absent ∨ s.motion l = .outOfService) := by
  simp [State.leafFault, N4.mem_all]

theorem LineInterface.muted_iff (x : LineInterface) : x.muted = true ↔ ∃ reason, x.join = .mute reason := by
  unfold LineInterface.muted
  cases x.join <;> simp

theorem faultCauses_any_iff (s : State) : s.faultCauses.any = true ↔ faultStands s := by
  have hloops : (∃ l, (s.detection.loops.get l).state = .opened ∨ (s.detection.loops.get l).state = .shorted) ↔
      s.detection.loops.d1.faulted = true ∨ s.detection.loops.d2.faulted = true := by
    rw [LoopRecord.faulted_iff, LoopRecord.faulted_iff]
    exact exists_loop_iff
  unfold FaultCauses.any faultStands
  rw [hloops, ← leafFault_iff, ← LineInterface.muted_iff]
  simp only [State.faultCauses, Bool.or_eq_true, Bool.and_eq_true, decide_eq_true_eq, or_assoc, and_or_left]

/-! ### The confirmation relay -/

theorem LeafEntry.commanded_iff (e : LeafEntry) : e.commanded = true ↔ e.slot = .fire ∨ e.slot = .brigade := by
  simp [LeafEntry.commanded]

theorem PeerStatus.freshContent?_eq_some_iff {st : PeerStatus} {c : PeerContent} : st.freshContent? = some c ↔ st = .fresh c := by
  cases st <;> simp [PeerStatus.freshContent?]

theorem PeerTable.mem_fresh_iff {t : PeerTable} {a : Nat} {c : PeerContent} :
    (a, c) ∈ t.fresh ↔ ∃ p ∈ t.records, p.status = .fresh c ∧ p.address = a := by
  unfold PeerTable.fresh
  rw [List.mem_filterMap]
  refine exists_congr fun p => and_congr_right fun _ => ?_
  simp only [Option.map_eq_some_iff, PeerStatus.freshContent?_eq_some_iff, Prod.mk.injEq]
  constructor
  · rintro ⟨c', h, ha, rfl⟩
    exact ⟨h, ha⟩
  · rintro ⟨h, ha⟩
    exact ⟨c, h, ha, rfl⟩

theorem mem_peerEntries_iff {s : State} {e : LeafEntry} : e ∈ s.peerEntries ↔
    ∃ p ∈ s.peers.records, ∃ c, p.status = .fresh c ∧ c.smokeZone = s.cfg.smokeZone.number ∧ e ∈ c.leaves := by
  unfold State.peerEntries
  simp only [List.mem_flatten, List.mem_map, List.mem_filter, decide_eq_true_eq]
  constructor
  · rintro ⟨_, ⟨⟨a, c⟩, ⟨hfresh, hsmoke⟩, rfl⟩, he⟩
    obtain ⟨p, hp, hst, -⟩ := PeerTable.mem_fresh_iff.1 hfresh
    exact ⟨p, hp, c, hst, hsmoke, he⟩
  · rintro ⟨p, hp, c, hst, hsmoke, he⟩
    exact ⟨_, ⟨(p.address, c), ⟨PeerTable.mem_fresh_iff.2 ⟨p, hp, hst, rfl⟩, hsmoke⟩, rfl⟩, he⟩

theorem mem_confirmationSet_iff {s : State} {e : LeafEntry} : e ∈ s.confirmationSet ↔ inConfirmationSet s e := by
  unfold State.confirmationSet inConfirmationSet
  rw [List.mem_filter, List.mem_append, mem_peerEntries_iff, LeafEntry.commanded_iff, and_comm]

theorem confirmed_iff (s : State) : s.confirmed = true ↔ s.fire = true ∧ (∃ e, inConfirmationSet s e) ∧
    ∀ e, inConfirmationSet s e → e.atTarget = true := by
  have hsome : (∃ e, e ∈ s.confirmationSet) ↔ s.confirmationSet.isEmpty = false := by
    rw [List.isEmpty_eq_false_iff_exists_mem]
  unfold State.confirmed
  simp only [← mem_confirmationSet_iff]
  rw [hsome, Bool.and_eq_true, Bool.and_eq_true, Bool.not_eq_true', List.all_eq_true, and_assoc]

/-! ### Lamps and outputs -/

/-- A flashing lamp is lit in every other of its halves. -/
theorem litAt_flashing {half since k d : Nat} (h : d < half) :
    (Lamp.flashing half since).litAt (since + 2 * k * half + d) = true ∧
      (Lamp.flashing half since).litAt (since + (2 * k + 1) * half + d) = false := by
  have hdiv (n : Nat) : (since + n * half + d - since) / half = n := by
    rw [Nat.add_assoc, Nat.add_sub_cancel_left, Nat.add_comm, Nat.add_mul_div_right _ _ (by omega), Nat.div_eq_of_lt h,
      Nat.zero_add]
  unfold Lamp.litAt
  dsimp only
  rw [hdiv, hdiv]
  exact ⟨decide_eq_true (by omega), decide_eq_false (by omega)⟩

theorem lampOf_eq_lit_iff (b : Bool) : lampOf b = .lit ↔ b = true := by cases b <;> decide

theorem LineInterface.transmitting_iff (x : LineInterface) :
    x.transmitting = true ↔ ∃ y n, x.series = some y ∧ y.phase = .transmitting n := by
  unfold LineInterface.transmitting
  cases hx : x.series with
  | none => simp
  | some y => cases hp : y.phase <;> simp [hp]

/-- A leaf's output is driven by its run alone where no probe is in progress. -/
theorem runDrive_eq_driven_iff {s : State} {l : Leaf} {d : Dir} : State.driveOf.runDrive s l = .driven d ↔
    ∃ r, (s.unitOf l).status = .inFlight r ∧ l ∈ r.members ∧ r.stage = .running ∧ (s.members.get l).motorOn = true ∧
      r.direction = d := by
  unfold State.driveOf.runDrive
  cases hst : (s.unitOf l).status with
  | rest => simp
  | waiting e => simp
  | inFlight r =>
    unfold Run.drive
    by_cases hl : l ∈ r.members <;> cases hstage : r.stage <;> cases hmotor : (s.members.get l).motorOn <;> simp [hl, hstage]

/-- Settles O55. -/
theorem outputsFollowState : Obligations.OutputsFollowState := by
  intro s
  refine ⟨fun hoff => if_pos hoff, fun hs => ?_⟩
  have hpins : s.refresh.pins = s.formPins := rfl
  have hrelays : s.relaysOn = true ↔ Running s := decide_eq_true_iff
  rw [hpins]
  unfold State.formPins
  rw [if_neg hs]
  dsimp only
  refine ⟨?_, ?_, ?_, ?_, ?_, ?_, ?_, fun half since k d h => litAt_flashing h, fun l => ?_, LineInterface.transmitting_iff _,
    fun o ho => ?_, fun o l hl => ⟨fun due hp => ?_, fun due hp => ?_, fun hp d => ?_⟩⟩
  · rw [Bool.and_eq_true, hrelays, fire_iff]
  · rw [Bool.and_eq_true, hrelays, Bool.not_eq_true', ← faultCauses_any_iff, Bool.not_eq_true]
  · rw [Bool.and_eq_true, hrelays, confirmed_iff, fire_iff]
  · unfold LocalDetection.lamp
    cases s.detection.localState <;> rfl
  · cases (s.relaysOn && !s.faultCauses.any) <;> rfl
  · rw [lampOf_eq_lit_iff, fire_iff]
  · unfold Detection.resetLamp
    cases s.detection.flashSince with
    | some t => rfl
    | none => cases s.detection.loopReset <;> rfl
  · rw [PerLoop.get_ofFn, loopPowered_iff]
    refine and_congr_right fun _ => ?_
    cases s.detection.loopReset <;> simp [LoopReset.powered]
  · rw [Four.get_ofFn]
    unfold State.outputDrive
    rw [ho]
  all_goals
    rw [Four.get_ofFn]
    unfold State.outputDrive
    rw [hl]
    dsimp only
    unfold State.driveOf
  · rw [hp]
  · rw [hp]
  · obtain hp | hp := hp <;>
      · rw [hp]
        exact runDrive_eq_driven_iff

end Sys2Proof.Machine
end

section
/-! SUPPORT. The service port: what its reading commands reply with, and when a command is discarded (R69, R107, R126, R157, R173, R186,
R187, R192). -/

namespace Sys2Proof.Machine

/-! ### Replies -/

theorem portIdle_iff (s : State) : s.portIdle = true ↔ atPort s := by
  unfold State.portIdle atPort
  cases s.port.sending <;> simp

/-- What a command at the idle port answers, from what it does. -/
theorem next_service {s : State} (h : atPort s) (f : State → State) {t : State} (hf : f s = t) :
    Host.Outcome.next (φ := Fault) (ρ := Refusal) (s.service f) = .next t.refresh := by
  rw [State.service_idle ((portIdle_iff s).2 h), hf]

theorem exec_fromPort_busy {s : State} (hs : s.phase ≠ .off) (hbusy : ¬ atPort s) {c : Instr} (hc : fromPort c = true) :
    exec c s = .next s.refresh := by
  have hidle : s.portIdle = false := by
    rw [Bool.eq_false_iff]
    exact fun h => hbusy ((portIdle_iff s).1 h)
  have hdiscarded (f : State → State) : Host.Outcome.next (φ := Fault) (ρ := Refusal) (s.service f) = .next s.refresh := by
    rw [State.service_busy hs hidle]
  cases c with
  | restart => exact hdiscarded _
  | status => exact hdiscarded _
  | peer n => exact hdiscarded _
  | zones => exact hdiscarded _
  | leaf n => exact hdiscarded _
  | wind => exact hdiscarded _
  | settings => exact hdiscarded _
  | writeSetting name v => exact hdiscarded _
  | move n v => exact hdiscarded _
  | stopAll => exact hdiscarded _
  | reference n => exact hdiscarded _
  | clearCounters => exact hdiscarded _
  | unknownCommand => exact hdiscarded _
  | _ => cases hc

/-! ### Leaf numbers -/

theorem serviceLeaf?_eq_some_iff {s : State} {n : Nat} {l : Leaf} : s.serviceLeaf? n = some l ↔ names s n l := by
  unfold State.serviceLeaf? names
  cases hn : N4.ofNumber? n with
  | none =>
    have hne : l.number ≠ n := fun h => by
      rw [N4.ofNumber?_eq_some_iff.2 h.symm] at hn
      cases hn
    simp [hne]
  | some m =>
    obtain rfl := N4.ofNumber?_eq_some_iff.1 hn
    dsimp only
    constructor
    · intro h
      split at h
      next hm =>
        cases h
        exact ⟨rfl, hm⟩
      next => cases h
    · rintro ⟨hnumber, hm⟩
      obtain rfl := N4.number_injective hnumber
      exact if_pos hm

theorem serviceLeaf?_eq_none_iff {s : State} {n : Nat} : s.serviceLeaf? n = none ↔ ∀ l, ¬ names s n l := by
  rw [Option.eq_none_iff_forall_not_mem]
  exact forall_congr' fun l => not_congr serviceLeaf?_eq_some_iff

/-! ### The data shown -/

theorem faultCauses_shown (s : State) : s.faultCauses = (statusShown s).causes := by
  have hleaf : s.leafFault =
      N4.all.any fun l => s.cfg.mapped l && decide (s.motion l = .absent ∨ s.motion l = .outOfService) := by
    unfold State.leafFault
    simp only [Bool.decide_or]
  have hmute : s.line.muted = (match s.line.join with
      | .mute _ => true
      | .listen | .running => false) := by
    unfold LineInterface.muted
    cases s.line.join <;> rfl
  unfold State.faultCauses statusShown
  dsimp only
  rw [hleaf, hmute] <;> rfl

theorem statusData_eq (s : State) : s.statusData = statusShown s := by
  have hproving : s.left (s.line.proving.map Proving.due) = s.line.proving.map fun p => p.due - s.now := by
    cases s.line.proving <;> rfl
  unfold State.statusData
  rw [faultCauses_shown, hproving] <;> rfl

theorem sideData_eq (s : State) (u : Leaf) : s.sideData u = sideShown s u := rfl

theorem slotCount_eq (x : Supply) : x.slotCount = (match x.state with
    | .mains => 3
    | .battery => 2
    | .low => 1) := by
  unfold Supply.slotCount
  cases x.state <;> rfl

theorem comfortRecord_eq (s : State) : s.comfortRecord =
    if s.cfg.comfortSource = 0 ∨ s.cfg.comfortSource = s.line.ownAddress then none
    else (s.peers.find? s.cfg.comfortSource).map fun p => match p.status with
      | .absent => .absent
      | .fresh _ => .fresh
      | .lost _ => .lost := by
  have hname : (fun r : PeerRecord => r.status.name) = fun p => match p.status with
      | .absent => .absent
      | .fresh _ => .fresh
      | .lost _ => .lost := by
    funext p
    unfold PeerStatus.name
    cases p.status <;> rfl
  unfold State.comfortRecord
  rw [hname]
  simp only [Bool.or_eq_true, decide_eq_true_eq] <;> rfl

theorem leafData_eq (s : State) (l : Leaf) : s.leafData l = leafShown s l := by
  have hretry : s.left ((s.unitOf l).retryHold.map fun h => h.since + h.period) =
      (s.unitOf l).retryHold.map fun h => h.since + h.period - s.now := by
    cases (s.unitOf l).retryHold <;> rfl
  have hperiod : s.ran ((s.feedback.get l).period.map Period.since) = (s.feedback.get l).period.map fun p => s.now - p.since := by
    cases (s.feedback.get l).period <;> rfl
  unfold State.leafData
  rw [hretry, hperiod, comfortRecord_eq, slotCount_eq, sideData_eq] <;> rfl

theorem reporterData_eq (s : State) :
    s.reporterData = reporterShown s (reportedSector s.weather.sectorWindow) s.ownWeather.isSome := by
  have hspeed : reportedSpeed s.weather.speedWindow = if s.weather.speedWindow = [] then none
      else some (s.weather.speedWindow.sum / s.weather.speedWindow.length) := by
    unfold reportedSpeed
    simp only [List.isEmpty_iff]
  unfold State.reporterData
  rw [hspeed] <;> rfl

theorem windData_eq (s : State) : s.windData = windShown s (if s.cfg.weatherReporter
    then some (reporterShown s (reportedSector s.weather.sectorWindow) s.ownWeather.isSome) else none) := by
  unfold State.windData windShown
  rw [reporterData_eq]
  cases s.weather.governing <;> rfl

/-- Settles O56. -/
theorem serviceReadsReplyAndChangeNothing : Obligations.ServiceReadsReplyAndChangeNothing := by
  refine fun s => ⟨fun h => ?_, fun hbusy hs c hc => exec_fromPort_busy hs (fun h => ?_) hc⟩
  · refine ⟨?_, fun n p hp => ?_, rfl, fun c => ⟨rfl, rfl⟩, fun n hn => ?_, next_service h _ rfl, fun n l hl => ?_, fun n hn => ?_,
      fun hno => ?_, fun hreporter => ?_, next_service h _ rfl, next_service h _ rfl⟩
    · rw [← statusData_eq]
      exact next_service h _ rfl
    · refine next_service h _ ?_
      rw [hp]
      rfl
    · have hnone : s.peers.find? n = none := by
        unfold PeerTable.find?
        rw [List.find?_eq_none]
        exact fun p hp haddress => hn p hp (of_decide_eq_true haddress)
      refine next_service h _ ?_
      rw [hnone]
      rfl
    · rw [← leafData_eq]
      refine next_service h _ ?_
      rw [serviceLeaf?_eq_some_iff.2 hl]
      rfl
    · refine next_service h _ ?_
      rw [serviceLeaf?_eq_none_iff.2 hn]
      rfl
    · have hdata := windData_eq s
      rw [hno, if_neg (by decide)] at hdata
      rw [← hdata]
      exact next_service h _ rfl
    · have hdata := windData_eq s
      rw [hreporter, if_pos rfl] at hdata
      refine ⟨_, s.ownWeather.isSome, ?_, fun hempty => ?_, reportedSector_spec, ?_⟩
      · rw [← hdata]
        exact next_service h _ rfl
      · rw [hempty]
        rfl
      · constructor
        · intro hsome
          by_contra hno
          rw [ownWeather_of_not_offered hno] at hsome
          cases hsome
        · intro hoffers
          obtain ⟨d, -, hd⟩ := ownWeather_of_offered hoffers
          rw [hd]
          rfl
  · obtain ⟨hrunning, hsending⟩ := h
    obtain hbusy | hbusy := hbusy
    · exact hbusy hsending
    · rw [hrunning] at hbusy
      cases hbusy

end Sys2Proof.Machine
end

section
/-! SUPPORT. The operations of a run in flight, leaf by leaf: what a motor switched on or off and a pass to RUNDOWN write. -/

namespace Sys2Proof.Machine

theorem Four.set_set {α : Type} (v : Four α) (i : N4) (x y : α) : (v.set i x).set i y = v.set i y :=
  Four.ext_get fun j => by
    simp only [Four.get_set]
    split <;> rfl

theorem Slot.fireClass_iff {x : Slot} : x.fireClass = true ↔ x = .fire ∨ x = .brigade := by
  cases x <;> simp [Slot.fireClass]

theorem Slot.fireClass_eq_false {x : Slot} (hfire : x ≠ .fire) (hbrigade : x ≠ .brigade) : x.fireClass = false :=
  Bool.eq_false_iff.2 fun h => (Slot.fireClass_iff.1 h).elim hfire hbrigade

/-! ### What an operation leaves outside the drive -/

/-- All but the tables, the unit and leaf records, the feedback records and the outputs formed. -/
structure SameOutside (s t : State) : Prop where
  now : t.now = s.now
  phase : t.phase = s.phase
  pending : t.pending = s.pending
  draws : t.draws = s.draws
  store : t.store = s.store
  line : t.line = s.line
  composer : t.composer = s.composer
  peers : t.peers = s.peers
  detection : t.detection = s.detection
  zones : t.zones = s.zones
  weather : t.weather = s.weather
  supply : t.supply = s.supply
  port : t.port = s.port

theorem SameOutside.refl (s : State) : SameOutside s s := ⟨rfl, rfl, rfl, rfl, rfl, rfl, rfl, rfl, rfl, rfl, rfl, rfl, rfl⟩

theorem SameOutside.trans {s t u : State} (h : SameOutside s t) (k : SameOutside t u) : SameOutside s u where
  now := k.now.trans h.now
  phase := k.phase.trans h.phase
  pending := k.pending.trans h.pending
  draws := k.draws.trans h.draws
  store := k.store.trans h.store
  line := k.line.trans h.line
  composer := k.composer.trans h.composer
  peers := k.peers.trans h.peers
  detection := k.detection.trans h.detection
  zones := k.zones.trans h.zones
  weather := k.weather.trans h.weather
  supply := k.supply.trans h.supply
  port := k.port.trans h.port

theorem Driven.sameOutside {s t : State} (h : Driven s t) : SameOutside s t :=
  ⟨h.now, h.phase, h.pending, h.draws, h.store, h.line, h.composer, h.peers, h.detection, h.zones, h.weather, h.supply, h.port⟩

theorem sameOutside_setFeedback (s : State) (l : Leaf) (x : FeedbackRecord) : SameOutside s (s.setFeedback l x) :=
  ⟨rfl, rfl, rfl, rfl, rfl, rfl, rfl, rfl, rfl, rfl, rfl, rfl, rfl⟩

/-- What is formed does not depend on the outputs before. -/
theorem refresh_outputs (s : State) (pins : Pins) (arbiter : Arbiter) (views : Four LeafView) :
    ({ s with pins := pins, arbiter := arbiter, views := views } : State).refresh = s.refresh := by
  have hinsert (u : Leaf) (q : List Leaf) :
      ({ s with pins := pins, arbiter := arbiter, views := views } : State).insertEntry u q = s.insertEntry u q := by
    induction q with
    | nil => rfl
    | cons v vs ih =>
      show (if s.queueBefore u v then u :: v :: vs else v :: State.insertEntry _ u vs) = _
      rw [ih]
      rfl
  have hqueue : ({ s with pins := pins, arbiter := arbiter, views := views } : State).startQueue = s.startQueue := by
    unfold State.startQueue
    rw [funext fun u => funext (hinsert u)]
    rfl
  unfold State.refresh State.formArbiter
  rw [hqueue]
  rfl

theorem SameOutside.refresh_eq {s t : State} (h : SameOutside s t) : t.refresh =
    ({ s with tables := t.tables, units := t.units, members := t.members, feedback := t.feedback } : State).refresh := by
  obtain ⟨now, phase, pending, draws, store, line, composer, peers, detection, zones, weather, supply, port⟩ := h
  rw [← refresh_outputs { s with tables := t.tables, units := t.units, members := t.members, feedback := t.feedback }
    t.pins t.arbiter t.views]
  refine congrArg State.refresh ?_
  cases t
  cases s
  subst now phase pending draws store line composer peers detection zones weather supply port
  rfl

/-- Nothing but the motion of the leaves follows, where the records keep what `Follows` says. -/
theorem SameOutside.follows {s t : State} (h : SameOutside s t)
    (hservice : ∀ u, (t.tables.get u).serviceTarget = (s.tables.get u).serviceTarget)
    (hfeedback : ∀ l, SameFeedback (s.feedback.get l) (t.feedback.get l)) (hfaults : SameFaults s t) : Follows s t.refresh where
  now := h.now
  phase := h.phase
  pending := h.pending
  draws := h.draws
  store := h.store
  line := congrArg LineInterface.unslotted h.line
  slotKept := by
    rw [← h.line]
    exact id
  urgencyKept := by
    rw [← h.line]
    exact id
  composer := h.composer
  peers := h.peers
  detection := h.detection
  zoneRecords := congrArg ZoneLogic.records h.zones
  ownOverride := congrArg ZoneLogic.ownOverride h.zones
  remembered := congrArg ZoneLogic.remembered h.zones
  measured := congrArg Weather.measured h.weather
  supply := h.supply
  port := h.port
  serviceTarget := hservice
  presence := fun l => (hfeedback l).1
  mode := fun l => (hfeedback l).2.1
  count := fun l => (hfeedback l).2.2.1
  drift := fun l => (hfeedback l).2.2.2
  failureCount := fun u => (hfaults u).1
  lastFault := fun u => (hfaults u).2
  formed := State.refresh_refresh t

theorem Driven.sameFeedback {s t : State} (h : Driven s t) (l : Leaf) : SameFeedback (s.feedback.get l) (t.feedback.get l) :=
  ⟨h.presence l, h.mode l, h.count l, h.drift l⟩

theorem Driven.motionOnly {s t : State} (h : Driven s t) (hfaults : SameFaults s t) : MotionOnly s t.refresh :=
  ⟨h.sameOutside.follows h.serviceTarget h.sameFeedback hfaults, h.sameOutside.refresh_eq⟩

/-- The same, where the feedback records are given. -/
theorem SameOutside.motionOnly_feedback {s t : State} (h : SameOutside s t)
    (hservice : ∀ u, (t.tables.get u).serviceTarget = (s.tables.get u).serviceTarget) (hfaults : SameFaults s t) :
    MotionOnly { s with feedback := t.refresh.feedback } t.refresh := by
  obtain ⟨now, phase, pending, draws, store, line, composer, peers, detection, zones, weather, supply, port⟩ := h
  have h' : SameOutside { s with feedback := t.refresh.feedback } t :=
    ⟨now, phase, pending, draws, store, line, composer, peers, detection, zones, weather, supply, port⟩
  exact ⟨h'.follows hservice (fun _ => ⟨rfl, rfl, rfl, rfl⟩) hfaults, h'.refresh_eq⟩

/-! ### Motors -/

theorem FeedbackRecord.beginPeriod_eq (f : FeedbackRecord) (now : Nat) (v : Speed) :
    f.beginPeriod now v = { f with period := periodFrom f now v } := by
  unfold FeedbackRecord.beginPeriod periodFrom
  cases f.mode <;> cases f.estimate <;> rfl

theorem switchOn_eq (s : State) (l : Leaf) (v : Speed) : s.switchOn l v = { s with
    members := s.members.set l (switchedOnAt (s.members.get l) s.now)
    feedback := s.feedback.set l { s.feedback.get l with period := periodFrom (s.feedback.get l) s.now v } } := by
  unfold State.switchOn State.beginPeriod
  rw [FeedbackRecord.beginPeriod_eq]
  rfl

theorem formEstimate_eq (s : State) (l : Leaf) : s.formEstimate l = s.setFeedback l { s.feedback.get l with
    estimate := formedEstimate s l ((s.drivenDirection l).getD .closing) } := by
  unfold State.formEstimate
  congr 1
  unfold formedEstimate
  generalize (s.drivenDirection l).getD .closing = dir
  generalize s.feedback.get l = f
  obtain ⟨presence, mode, count, estimate, lastLine, watchdog, period, drift, probe⟩ := f
  cases mode <;> cases period <;> cases estimate <;> rfl

/-- The record of a leaf whose motor-on period has ended. -/
def State.endedRecord (s : State) (l : Leaf) : FeedbackRecord := { s.feedback.get l with
  estimate := formedEstimate s l ((s.drivenDirection l).getD .closing)
  period := none }

theorem endPeriod_eq (s : State) (l : Leaf) : s.endPeriod l = s.setFeedback l (s.endedRecord l) := by
  unfold State.endPeriod
  rw [formEstimate_eq]
  simp only [State.setFeedback, Four.set_set, Four.get_set, if_true]
  rfl

/-- The record of a leaf whose motor has been switched off. -/
def State.offRecord (s : State) (l : Leaf) : FeedbackRecord := { s.endedRecord l with watchdog := none }

def MemberRecord.switchedOff (x : MemberRecord) : MemberRecord := { x with motorOn := false, checks := .off, slice := none }

theorem switchOff_eq (s : State) (l : Leaf) : s.switchOff l = { s with
    members := s.members.set l (s.members.get l).switchedOff
    feedback := s.feedback.set l (s.offRecord l) } := by
  unfold State.switchOff
  rw [endPeriod_eq]
  simp only [State.setFeedback, State.setMember, Four.set_set, Four.get_set, if_true]
  rfl

theorem drivenDirection_congr {s t : State} {l : Leaf} (hcfg : t.cfg = s.cfg) (hunits : t.units = s.units)
    (hprobe : (t.feedback.get l).probe = (s.feedback.get l).probe) : t.drivenDirection l = s.drivenDirection l := by
  have hrun : t.runOf l = s.runOf l := by
    unfold State.runOf State.unitOf
    rw [hcfg, hunits]
  unfold State.drivenDirection State.drivenDirection.runDirection
  rw [hprobe, hrun]

theorem formedEstimate_of_no_period {s : State} {l : Leaf} (h : (s.feedback.get l).period = none) (dir : Dir) :
    formedEstimate s l dir = (s.feedback.get l).estimate := by
  unfold formedEstimate
  generalize s.feedback.get l = f at h
  obtain ⟨presence, mode, count, estimate, lastLine, watchdog, period, drift, probe⟩ := f
  obtain rfl : period = none := h
  cases mode <;> rfl

theorem formedEstimate_congr {s t : State} {l : Leaf} (hcfg : t.cfg = s.cfg) (hnow : t.now = s.now)
    (hfeedback : t.feedback.get l = s.feedback.get l) (dir : Dir) : formedEstimate t l dir = formedEstimate s l dir := by
  unfold formedEstimate
  rw [hcfg, hnow, hfeedback]

theorem offRecord_congr {s t : State} {l : Leaf} (hcfg : t.cfg = s.cfg) (hnow : t.now = s.now) (hunits : t.units = s.units)
    (hfeedback : t.feedback.get l = s.feedback.get l) : t.offRecord l = s.offRecord l := by
  unfold State.offRecord State.endedRecord
  rw [drivenDirection_congr hcfg hunits (congrArg FeedbackRecord.probe hfeedback), formedEstimate_congr hcfg hnow hfeedback,
    hfeedback]

theorem switchOff_offRecord (s : State) (k l : Leaf) : (s.switchOff k).offRecord l = s.offRecord l := by
  by_cases h : l = k
  · subst h
    have hget : (s.switchOff l).feedback.get l = s.offRecord l := by
      rw [switchOff_eq]
      simp
    show { { (s.switchOff l).feedback.get l with
      estimate := formedEstimate (s.switchOff l) l (((s.switchOff l).drivenDirection l).getD .closing)
      period := none } with watchdog := none } = _
    rw [formedEstimate_of_no_period (by rw [hget]; rfl), hget]
    rfl
  · refine offRecord_congr rfl rfl rfl ?_
    rw [switchOff_eq]
    simp [h]

/-- Motors switched off, one after the other. -/
theorem foldl_switchOff (ls : List Leaf) (s : State) : ls.foldl State.switchOff s = { s with
    members := Four.ofFn fun m => if m ∈ ls then (s.members.get m).switchedOff else s.members.get m
    feedback := Four.ofFn fun m => if m ∈ ls then s.offRecord m else s.feedback.get m } := by
  induction ls generalizing s with
  | nil =>
    have hmembers : (Four.ofFn fun m => s.members.get m) = s.members := Four.ext_get fun m => by simp
    have hfeedback : (Four.ofFn fun m => s.feedback.get m) = s.feedback := Four.ext_get fun m => by simp
    simp only [List.foldl_nil, List.not_mem_nil, if_false, hmembers, hfeedback]
  | cons k ls ih =>
    rw [List.foldl_cons, ih]
    have hmembers : (Four.ofFn fun m => if m ∈ ls then ((s.switchOff k).members.get m).switchedOff else (s.switchOff k).members.get m)
        = Four.ofFn fun m => if m ∈ k :: ls then (s.members.get m).switchedOff else s.members.get m := by
      refine Four.ext_get fun m => ?_
      simp only [Four.get_ofFn, switchOff_eq, Four.get_set, List.mem_cons]
      by_cases hm : m = k <;> by_cases hl : m ∈ ls <;> simp [hm, hl, MemberRecord.switchedOff]
    have hfeedback : (Four.ofFn fun m => if m ∈ ls then (s.switchOff k).offRecord m else (s.switchOff k).feedback.get m)
        = Four.ofFn fun m => if m ∈ k :: ls then s.offRecord m else s.feedback.get m := by
      refine Four.ext_get fun m => ?_
      simp only [Four.get_ofFn, switchOff_offRecord, List.mem_cons]
      rw [switchOff_eq, Four.get_set]
      by_cases hm : m = k <;> by_cases hl : m ∈ ls <;> simp [hm, hl]
    rw [hmembers, hfeedback, switchOff_eq]

/-- The pass to RUNDOWN. -/
theorem toRundown_eq (s : State) (u : Leaf) (r : Run) (e : Ending) : s.toRundown u r e = { s with
    units := s.units.set u
      { s.units.get u with status := .inFlight { r with stage := .rundown (s.now + 150) e, timeoutDue := none } }
    members := Four.ofFn fun m => if m ∈ r.members then (s.members.get m).switchedOff else s.members.get m
    feedback := Four.ofFn fun m => if m ∈ r.members then s.offRecord m else s.feedback.get m } := by
  unfold State.toRundown
  rw [foldl_switchOff]
  rfl

theorem drivenDirection_of_running {s : State} {m : Leaf} {r : Run} (hr : s.runOf m = some r) (hst : r.stage = .running) :
    (s.drivenDirection m).getD .closing = waysOf s r m := by
  have hrun : State.drivenDirection.runDirection s m = some r.direction := by
    unfold State.drivenDirection.runDirection
    rw [hr, Option.bind_some, hst]
    rfl
  unfold State.drivenDirection waysOf
  cases (s.feedback.get m).probe <;> simp [hrun]

/-- A run stops: every member's motor is off, and the unit passes to RUNDOWN. -/
theorem stopsInRundown_toRundown {s : State} {l : Leaf} {r : Run} (hst : r.stage = .running) (e : Ending) :
    stopsInRundown s (s.toRundown (s.cfg.leader l) r e).refresh l r e := by
  refine ⟨?_, fun m hm => ?_, ?_, (driven_toRundown s _ r e).motionOnly (sameFaults_toRundown s _ r e)⟩
  · show ((s.toRundown (s.cfg.leader l) r e).units.get ((s.toRundown (s.cfg.leader l) r e).cfg.leader l)).status = _
    rw [toRundown_eq]
    show ((s.units.set (s.cfg.leader l) _).get (s.cfg.leader l)).status = _
    rw [Four.get_set, if_pos rfl]
  · have hmember : (s.toRundown (s.cfg.leader l) r e).members.get m = (s.members.get m).switchedOff := by
      rw [toRundown_eq]
      simp [hm]
    have hfeedback : (s.toRundown (s.cfg.leader l) r e).feedback.get m = s.offRecord m := by
      rw [toRundown_eq]
      simp [hm]
    refine ⟨congrArg MemberRecord.motorOn hmember, congrArg MemberRecord.checks hmember, fun hr => ?_⟩
    rw [← drivenDirection_of_running hr hst]
    exact hfeedback
  · show (s.toRundown (s.cfg.leader l) r e).tables = _
    rw [toRundown_eq]

end Sys2Proof.Machine
end

section
/-! SUPPORT. The start of a run's movement, the findings that end it, and the ends of travel (R137, R140, R144 to R148, R165 to R167). -/

namespace Sys2Proof.Machine

/-! ### The entry to RUNNING -/

/-- The record of a leaf whose motor has been switched on at the entry to RUNNING: last line none, and a period in TIMED mode. -/
def FeedbackRecord.entered (f : FeedbackRecord) (now : Nat) (v : Speed) : FeedbackRecord :=
  { f with lastLine := none, period := periodFrom f now v }

theorem switchedOnAt_idem (x : MemberRecord) (now : Nat) : switchedOnAt (switchedOnAt x now) now = switchedOnAt x now := rfl

theorem FeedbackRecord.entered_idem (f : FeedbackRecord) (now : Nat) (v : Speed) :
    (f.entered now v).entered now v = f.entered now v := rfl

/-- Motors switched on, one after the other. -/
theorem foldl_enter (ls : List Leaf) (v : Speed) (s : State) :
    ls.foldl (fun t l => (t.setFeedback l { t.feedback.get l with lastLine := none }).switchOn l v) s = { s with
      members := Four.ofFn fun m => if m ∈ ls then switchedOnAt (s.members.get m) s.now else s.members.get m
      feedback := Four.ofFn fun m => if m ∈ ls then (s.feedback.get m).entered s.now v else s.feedback.get m } := by
  induction ls generalizing s with
  | nil =>
    have hmembers : (Four.ofFn fun m => s.members.get m) = s.members := Four.ext_get fun m => by simp
    have hfeedback : (Four.ofFn fun m => s.feedback.get m) = s.feedback := Four.ext_get fun m => by simp
    simp only [List.foldl_nil, List.not_mem_nil, if_false, hmembers, hfeedback]
  | cons k ls ih =>
    have hone : (s.setFeedback k { s.feedback.get k with lastLine := none }).switchOn k v = { s with
        members := s.members.set k (switchedOnAt (s.members.get k) s.now)
        feedback := s.feedback.set k ((s.feedback.get k).entered s.now v) } := by
      rw [switchOn_eq]
      simp only [State.setFeedback, Four.set_set, Four.get_set, if_true]
      rfl
    rw [List.foldl_cons, hone, ih]
    congr 1
    · refine Four.ext_get fun m => ?_
      simp only [Four.get_ofFn, Four.get_set, List.mem_cons]
      by_cases hm : m = k <;> by_cases hl : m ∈ ls <;> simp [hm, hl, switchedOnAt_idem]
    · refine Four.ext_get fun m => ?_
      simp only [Four.get_ofFn, Four.get_set, List.mem_cons]
      by_cases hm : m = k <;> by_cases hl : m ∈ ls <;> simp [hm, hl, FeedbackRecord.entered_idem]

theorem enterRunning_eq (s : State) (u : Leaf) (r : Run) : s.enterRunning u r = { s with
    units := s.units.set u
      { s.units.get u with status := .inFlight { r with stage := .running, timeoutDue := some (s.now + s.runTimeout u r) } }
    members := Four.ofFn fun m => if m ∈ r.members then switchedOnAt (s.members.get m) s.now else s.members.get m
    feedback := Four.ofFn fun m => if m ∈ r.members then (s.feedback.get m).entered s.now r.speed else s.feedback.get m } := by
  unfold State.enterRunning
  dsimp only
  rw [foldl_enter]
  rfl

theorem unitRun_eq_some_iff {s : State} {l : Leaf} {r : Run} : s.unitRun l = some r ↔ (s.unitOf l).status = .inFlight r :=
  UnitRecord.run?_eq_some_iff

/-- Settles O41. -/
theorem startingEndsAndBlankingEnds : Obligations.StartingEndsAndBlankingEnds := by
  intro s l o r due hs hdue
  refine ⟨fun hr hst => ?_, fun hl hchecks => ?_⟩
  · have hexec : exec (.startingEnd l) s = .next (s.enterRunning (s.cfg.leader l) r).refresh := by
      refine next_act hs _ ?_
      rw [unitRun_eq_some_iff.2 hr]
      dsimp only
      rw [hst]
      exact if_pos hdue
    have heq := enterRunning_eq s (s.cfg.leader l) r
    have htimeout : s.runTimeout (s.cfg.leader l) r = match r.kind, s.unitPosition (s.cfg.leader l) with
        | .normal, some p => s.cfg.strokeTime (s.cfg.leader l) r.speed * (max p r.target - min p r.target) / 1000 * 5 / 4 + 2000
        | _, _ => s.cfg.strokeTime (s.cfg.leader l) r.speed * 5 / 4 + 2000 := by
      unfold State.runTimeout timeoutLength wholeStrokeTimeout
      dsimp only
      cases r.kind <;> cases s.unitPosition (s.cfg.leader l) <;> simp only [distance_eq_max_sub_min]
    refine ⟨_, hexec, ?_, fun m hm => ?_, fun m hm => ?_, fun v hv => ?_, ?_,
      (driven_enterRunning s _ r).motionOnly (SameFaults.trans (t := { s with
        members := (s.enterRunning (s.cfg.leader l) r).members, feedback := (s.enterRunning (s.cfg.leader l) r).feedback })
        (SameFaults.of_units rfl) ?_)⟩
    · rw [heq]
      show ((s.units.set (s.cfg.leader l) _).get (s.cfg.leader l)).status = _
      rw [Four.get_set, if_pos rfl]
      exact congrArg (fun n => UnitStatus.inFlight { r with stage := .running, timeoutDue := some (s.now + n) }) htimeout
    · have hmember : (s.enterRunning (s.cfg.leader l) r).members.get m = switchedOnAt (s.members.get m) s.now := by
        simp [heq, hm]
      have hfeedback : (s.enterRunning (s.cfg.leader l) r).feedback.get m = (s.feedback.get m).entered s.now r.speed := by
        simp [heq, hm]
      exact ⟨congrArg MemberRecord.motorOn hmember, congrArg MemberRecord.hold hmember, congrArg MemberRecord.checks hmember,
        congrArg MemberRecord.switchedOn hmember, hfeedback⟩
    · simp [heq, hm]
    · rw [heq]
      simp only [State.refresh_units, Four.get_set, if_neg hv]
    · rw [heq]
      rfl
    · rw [heq]
      exact sameFaults_setStatus { s with members := _, feedback := _ } (s.cfg.leader l) _
  · refine next_act hs _ ?_
    rw [hl]
    dsimp only
    rw [hchecks]
    exact if_pos hdue

/-! ### Findings -/

theorem checksApplied_iff {s : State} {l : Leaf} {period : Nat} :
    s.checksApplied l period = true ↔ ∃ since, (s.members.get l).checks = .applied since ∧ since + period ≤ s.now := by
  unfold State.checksApplied State.elapsed
  cases (s.members.get l).checks <;> simp

theorem checksApplied_of_lessThan {s : State} {l : Leaf} {period : Nat} (h : checkedLessThan s l period) :
    s.checksApplied l period = false := by
  rw [Bool.eq_false_iff]
  intro happlied
  obtain ⟨since, hchecks, hsince⟩ := checksApplied_iff.1 happlied
  exact absurd hsince (Nat.not_le.2 (h since hchecks))

theorem checkedLessThan_of_blanking {s : State} {l : Leaf} {due : Nat} (h : (s.members.get l).checks = .blanking due)
    (period : Nat) : checkedLessThan s l period := fun since hsince => by
  rw [h] at hsince
  cases hsince

theorem runningAt_eq_none {s : State} {o : Output} (h : ∀ l r, ¬ driving s o l r) : s.runningAt o = none :=
  Option.eq_none_iff_forall_not_mem.2 fun x hx => h x.1 x.2 (runningAt_eq_some_iff.1 hx)

theorem pinchApplies_iff {s : State} {l : Leaf} {r : Run} : s.pinchApplies l r = true ↔ r.direction = .closing ∧ r.kind = .normal ∧
    r.backoff = false ∧ r.slot ≠ .fire ∧ r.slot ≠ .brigade ∧ (s.members.get l).slice = none ∧ r.pinchFrom + 100 ≤ s.now ∧
    ∃ p, s.position l = some p ∧ 20 < p := by
  have hfire : r.slot.fireClass = false ↔ r.slot ≠ .fire ∧ r.slot ≠ .brigade := by
    rw [Bool.eq_false_iff, ne_eq, Slot.fireClass_iff, not_or]
  unfold State.pinchApplies State.elapsed pinchPeriod
  cases s.position l <;> simp [hfire, and_assoc]

/-- Settles O42. -/
theorem faultFindingsStopTheRun : Obligations.FaultFindingsStopTheRun := by
  intro s o l r current since due hs hd
  have hat : s.runningAt o = some (l, r) := runningAt_eq_some_iff.2 hd
  obtain ⟨hl, hr, hst, -⟩ := hd
  have hstops {c : Instr} {e : Ending} (hexec : exec c s = .next (s.toRundown (s.cfg.leader l) r e).refresh) :
      Completes c s fun t => stopsInRundown s t l r e := ⟨_, hexec, stopsInRundown_toRundown hst e⟩
  refine ⟨fun hlimit hprobe => hstops (next_act hs _ ?_), fun hlimit hchecks hsince => hstops (next_act hs _ ?_),
    fun p hlimit hchecks hsince hdir hkind hback hfire hbrigade hslice hfrom hp hfar => hstops (next_act hs _ ?_),
    fun htimeout hdue => hstops (next_act hs _ ?_), fun n hslice hdue => ⟨fun hn => next_act hs _ ?_, fun hn => ?_⟩⟩
  · rw [if_pos (show overcurrentLimit ≤ current from hlimit), hl]
    dsimp only
    rw [hprobe, if_neg (by decide), hat]
    rfl
  · rw [hat]
    refine if_pos ?_
    rw [show s.checksApplied l stallPeriod = true from checksApplied_iff.2 ⟨since, hchecks, hsince⟩, Bool.and_true]
    exact decide_eq_true hlimit
  · rw [hat]
    refine if_pos ?_
    rw [show s.checksApplied l pinchPeriod = true from checksApplied_iff.2 ⟨since, hchecks, hsince⟩,
      pinchApplies_iff.2 ⟨hdir, hkind, hback, hfire, hbrigade, hslice, hfrom, p, hp, hfar⟩, Bool.and_true, Bool.and_true]
    exact decide_eq_true hlimit
  · rw [unitRun_eq_some_iff.2 (runOf_eq_some_iff.1 hr).1]
    dsimp only
    rw [htimeout]
    refine if_pos ?_
    rw [hst]
    exact decide_eq_true hdue
  · rw [hat]
    dsimp only
    rw [hslice]
    dsimp only
    rw [if_pos hdue, if_pos hn]
    rfl
  · refine ⟨_, next_act hs _ ?_, stopsInRundown_toRundown hst _⟩
    rw [hat]
    dsimp only
    rw [hslice]
    dsimp only
    rw [if_pos hdue, if_neg (by omega)]
    unfold State.findFault unconfirmed
    cases r.direction <;> rfl

/-- Settles O43. -/
theorem findingsOutsideTheirChecksStopNothing : Obligations.FindingsOutsideTheirChecksStopNothing := by
  intro s o current hs nothing
  have hstays {c : Instr} {f : State → State} (hc : exec c s = .next (s.act f)) (hf : f s = s) : nothing c := by
    show exec c s = _
    rw [hc]
    exact next_act hs f hf
  refine ⟨fun hlow => hstays rfl (if_neg ?_), fun hnone => ?_, fun l r hd => ?_⟩
  · exact Nat.not_le.2 hlow
  · have hat := runningAt_eq_none hnone
    refine ⟨hstays rfl ?_, hstays rfl ?_, hstays rfl ?_, fun hprobe => hstays rfl ?_⟩
    · rw [hat]
    · rw [hat]
    · rw [hat]
    · split
      next hlimit =>
        split
        next l hl =>
          have hpulsing : (s.feedback.get l).probe.pulsing = false := by
            cases hp : (s.feedback.get l).probe with
            | pulse due => exact absurd hp (hprobe l due hl)
            | none | requested | settle => rfl
          rw [hpulsing, if_neg (by decide), hat]
        next => rfl
      next => rfl
  · have hat : s.runningAt o = some (l, r) := runningAt_eq_some_iff.2 hd
    have hstall (h : current < s.cfg.stall.get l ∨ checkedLessThan s l 300) : nothing (.stall o current) := by
      refine hstays rfl ?_
      rw [hat]
      refine if_neg fun hcond => ?_
      obtain ⟨hlimit, happlied⟩ := Bool.and_eq_true_iff.1 hcond
      obtain h | h := h
      · exact absurd (of_decide_eq_true hlimit) (Nat.not_le.2 h)
      · rw [show s.checksApplied l stallPeriod = false from checksApplied_of_lessThan h] at happlied
        cases happlied
    have hcut (h : 1 ≤ current ∨ checkedLessThan s l 200) : nothing (.endCutOut o current) := by
      refine hstays rfl ?_
      rw [hat]
      refine if_neg fun hcond => ?_
      obtain ⟨hdraws, happlied⟩ := Bool.and_eq_true_iff.1 hcond
      obtain h | h := h
      · rw [show drawsCurrent current = true from decide_eq_true h] at hdraws
        cases hdraws
      · rw [show s.checksApplied l cutOutPeriod = false from checksApplied_of_lessThan h] at happlied
        cases happlied
    have hpinch (h : current < s.cfg.pinch.get l ∨ checkedLessThan s l 100 ∨ s.pinchApplies l r = false) :
        nothing (.pinch o current) := by
      refine hstays rfl ?_
      rw [hat]
      refine if_neg fun hcond => ?_
      obtain ⟨hfirst, happlied⟩ := Bool.and_eq_true_iff.1 hcond
      obtain ⟨hlimit, happlies⟩ := Bool.and_eq_true_iff.1 hfirst
      obtain h | h | h := h
      · exact absurd (of_decide_eq_true hlimit) (Nat.not_le.2 h)
      · rw [show s.checksApplied l pinchPeriod = false from checksApplied_of_lessThan h] at happlied
        cases happlied
      · rw [h] at happlies
        cases happlies
    refine ⟨hstall, hcut, fun h => hpinch (h.imp_right .inl), fun h => hpinch (.inr (.inr ?_)), fun due hchecks => ?_⟩
    · rw [Bool.eq_false_iff]
      intro happlies
      obtain ⟨hdir, hkind, hback, hfire, hbrigade, hslice, hfrom, p, hp, hfar⟩ := pinchApplies_iff.1 happlies
      obtain h | h | h | h | h | h | h | ⟨q, hq, h⟩ | h := h
      · rw [hdir] at h
        cases h
      · rw [hback] at h
        cases h
      · exact h hkind
      · exact hfire h
      · exact hbrigade h
      · exact h hslice
      · rw [hp] at h
        cases h
      · rw [hp] at hq
        cases hq
        omega
      · omega
    · have hless (period : Nat) : checkedLessThan s l period := checkedLessThan_of_blanking hchecks period
      exact ⟨hstall (.inr (hless _)), hpinch (.inr (.inl (hless _))), hcut (.inr (hless _))⟩

end Sys2Proof.Machine
end

section
/-! SUPPORT. The ends of travel: a member held at its end, and the position fixed there (R144, R145, R152, R165 to R167). -/

namespace Sys2Proof.Machine

/-! ### A member held at its arrival or end -/

theorem offRecord_of_ended {s : State} {l : Leaf} (hperiod : (s.feedback.get l).period = none)
    (hwatchdog : (s.feedback.get l).watchdog = none) : s.offRecord l = s.feedback.get l := by
  unfold State.offRecord State.endedRecord
  rw [formedEstimate_of_no_period hperiod]
  generalize s.feedback.get l = f at hperiod hwatchdog
  obtain ⟨presence, mode, count, estimate, lastLine, watchdog, period, drift, probe⟩ := f
  obtain rfl : period = none := hperiod
  obtain rfl : watchdog = none := hwatchdog
  rfl

/-- The leaf's motor off, and the member held at its arrival or end. -/
def State.held (s : State) (l : Leaf) (hold : MemberHold) : State := { s with
  members := s.members.set l { (s.members.get l).switchedOff with hold := hold }
  feedback := s.feedback.set l (s.offRecord l) }

theorem held_eq (s : State) (l : Leaf) (hold : MemberHold) :
    (s.switchOff l).setMember l { (s.switchOff l).members.get l with hold := hold } = s.held l hold := by
  rw [switchOff_eq]
  simp only [State.setMember, Four.set_set, Four.get_set, if_true]
  rfl

theorem finishMember_eq (s : State) (u : Leaf) (r : Run) (l : Leaf) : s.finishMember u r l =
    if (r.members.all fun m => ((s.held l .done).members.get m).finished) then (s.held l .done).toRundown u r r.arrivalEnding
    else (s.held l .done).settleTimeout u r := by
  unfold State.finishMember
  dsimp only
  rw [held_eq]

theorem settleTimeout_members (s : State) (u : Leaf) (r : Run) : (s.settleTimeout u r).members = s.members := by
  unfold State.settleTimeout
  split <;> rfl

theorem settleTimeout_feedback (s : State) (u : Leaf) (r : Run) : (s.settleTimeout u r).feedback = s.feedback := by
  unfold State.settleTimeout
  split <;> rfl

theorem finishMember_member (s : State) (u : Leaf) (r : Run) (l : Leaf) :
    (s.finishMember u r l).members.get l = { (s.members.get l).switchedOff with hold := .done } := by
  have hheld : (s.held l .done).members.get l = { (s.members.get l).switchedOff with hold := .done } := by
    simp [State.held]
  rw [finishMember_eq]
  split
  · rw [toRundown_eq]
    simp only [Four.get_ofFn, hheld]
    split <;> rfl
  · rw [settleTimeout_members, hheld]

theorem finishMember_feedback (s : State) (u : Leaf) (r : Run) (l : Leaf) :
    (s.finishMember u r l).feedback.get l = s.offRecord l := by
  have hheld : (s.held l .done).feedback.get l = s.offRecord l := by simp [State.held]
  have hoff : (s.held l .done).offRecord l = s.offRecord l := by
    rw [offRecord_of_ended (by rw [hheld]; rfl) (by rw [hheld]; rfl), hheld]
  rw [finishMember_eq]
  split
  · rw [toRundown_eq]
    simp only [Four.get_ofFn, hheld, hoff, ite_self]
  · rw [settleTimeout_feedback, hheld]

/-- The last member held takes the unit to RUNDOWN. -/
theorem finishMember_single {s : State} {u : Leaf} {r : Run} {l : Leaf} (hmembers : r.members = [l]) :
    ((s.finishMember u r l).units.get u).status =
      .inFlight { r with stage := .rundown (s.now + 150) r.arrivalEnding, timeoutDue := none } := by
  rw [finishMember_eq, if_pos, toRundown_eq]
  · simp only [Four.get_set, if_true]
    rfl
  · simp [hmembers, State.held, MemberRecord.finished]

/-! ### Synchronisation leaves a member that is done -/

/-- The leaf's own records are the same. -/
def SameLeaf (l : Leaf) (s t : State) : Prop := t.members.get l = s.members.get l ∧ t.feedback.get l = s.feedback.get l

theorem sameLeaf_switchOn {s : State} {l m : Leaf} (h : l ≠ m) (v : Speed) : SameLeaf l s (s.switchOn m v) := by
  rw [switchOn_eq]
  simp [SameLeaf, h]

theorem syncPair_of_done {s : State} {r : Run} {a b l : Leaf} (hl : l = a ∨ l = b) (hdone : (s.members.get l).hold = .done) :
    s.syncPair r a b = s ∨ ∃ m, m ≠ l ∧ (s.members.get m).hold = .syncHeld ∧ s.syncPair r a b = s.switchOn m r.speed := by
  have hne (m : Leaf) (hm : (s.members.get m).hold = .syncHeld) : m ≠ l := fun h => by
    rw [h, hdone] at hm
    cases hm
  unfold State.syncPair
  split
  · dsimp only
    split
    next ha =>
      split
      · exact .inr ⟨a, hne a ha, ha, rfl⟩
      · exact .inl rfl
    split
    next hb =>
      split
      · exact .inr ⟨b, hne b hb, hb, rfl⟩
      · exact .inl rfl
    have hbusy : ¬ ((s.members.get a).hold = .driving ∧ (s.members.get b).hold = .driving) := by
      rintro ⟨ha, hb⟩
      obtain rfl | rfl := hl
      · rw [hdone] at ha
        cases ha
      · rw [hdone] at hb
        cases hb
    rw [if_neg fun h => hbusy (by simp at h; exact h.1.1.1), if_neg fun h => hbusy (by simp at h; exact h.1.1.1)]
    exact .inl rfl
  · exact .inl rfl

theorem syncGang_of_done {s : State} {l : Leaf} (hdone : (s.members.get l).hold = .done) :
    s.syncGang l = s ∨ ∃ m v, m ≠ l ∧ s.syncGang l = s.switchOn m v := by
  unfold State.syncGang
  split
  next r hr =>
    split
    · split
      next a b hmembers =>
        have hl : l = a ∨ l = b := by simpa [hmembers] using (runOf_eq_some_iff.1 hr).2
        obtain h | ⟨m, hm, -, h⟩ := syncPair_of_done (r := r) hl hdone
        · exact .inl h
        · exact .inr ⟨m, _, hm, h⟩
      · exact .inl rfl
    · exact .inl rfl
  · exact .inl rfl

theorem syncGang_done_sameLeaf {s : State} {l : Leaf} (hdone : (s.members.get l).hold = .done) :
    SameLeaf l s (s.syncGang l) ∧ (s.syncGang l).units = s.units := by
  obtain h | ⟨m, v, hm, h⟩ := syncGang_of_done hdone
  · rw [h]
    exact ⟨⟨rfl, rfl⟩, rfl⟩
  · rw [h]
    exact ⟨sameLeaf_switchOn hm.symm v, rfl⟩

/-! ### The position fixed -/

theorem FeedbackRecord.closedDrift_iff (f : FeedbackRecord) (stroke : Nat) : f.closedDrift stroke = true ↔
    f.mode = .pulse ∧ ∃ n, f.count = some n ∧ 10 < n * 1000 / stroke := by
  unfold FeedbackRecord.closedDrift positionOfCount
  cases f.count <;> simp

theorem FeedbackRecord.openDrift_iff (f : FeedbackRecord) (stroke : Nat) : f.openDrift stroke = true ↔
    f.mode = .pulse ∧ ∃ n, f.count = some n ∧ stroke * 30 / 1000 < max n stroke - min n stroke := by
  unfold FeedbackRecord.openDrift
  cases f.count with
  | none => simp
  | some n =>
    have : distance stroke n = max n stroke - min n stroke := by
      rw [distance_eq_max_sub_min, max_comm, min_comm]
    simp [this]

theorem FeedbackRecord.countDrift_drift (f : FeedbackRecord) (b : Bool) (h : f.drift ≤ 65535) :
    (f.countDrift b).drift = if b = true then min 65535 (f.drift + 1) else f.drift := by
  unfold FeedbackRecord.countDrift
  split
  · exact fieldSucc_eq_min h
  · rfl

/-- The position fixed in a record at an end. -/
theorem FeedbackRecord.fixAt_spec (f : FeedbackRecord) (count position now : Nat) :
    (f.mode = .pulse → (f.fixAt count position now).count = some count) ∧
    (f.mode = .timed → (f.fixAt count position now).estimate = some position ∧
      ∀ p, (f.fixAt count position now).period = some p → p.base = position ∧ p.since = now) ∧
    (f.fixAt count position now).mode = f.mode ∧ (f.fixAt count position now).drift = f.drift := by
  obtain ⟨presence, mode, count, estimate, lastLine, watchdog, period, drift, probe⟩ := f
  cases mode with
  | pulse => exact ⟨fun _ => rfl, nofun, rfl, rfl⟩
  | timed =>
    refine ⟨nofun, fun _ => ⟨rfl, fun p hp => ?_⟩, rfl, rfl⟩
    cases period with
    | none => cases hp
    | some q =>
      cases hp
      exact ⟨rfl, rfl⟩

/-- An estimate fixed in this event at an end is as it was fixed when its period ends. -/
theorem formedEstimate_fixed {s : State} {l : Leaf} {position : Nat} {dir : Dir}
    (hestimate : (s.feedback.get l).estimate = some position)
    (hperiod : ∀ p, (s.feedback.get l).period = some p → p.base = position ∧ p.since = s.now) (hle : position ≤ 1000) :
    formedEstimate s l dir = some position := by
  unfold formedEstimate
  generalize s.feedback.get l = f at hestimate hperiod
  obtain ⟨presence, mode, count, estimate, lastLine, watchdog, period, drift, probe⟩ := f
  obtain rfl : estimate = some position := hestimate
  cases mode with
  | pulse => rfl
  | timed =>
    cases period with
    | none => rfl
    | some p =>
      obtain ⟨hbase, hsince⟩ := hperiod p rfl
      cases dir <;> simp [hbase, hsince, hle]

/-- What a feedback record at an end says, in the count or the estimate. -/
structure FixedAt (f : FeedbackRecord) (mode : FeedbackMode) (count position drift : Nat) : Prop where
  pulse : mode = .pulse → f.count = some count
  timed : mode = .timed → f.estimate = some position
  drift : f.drift = drift

/-- The leaf's record after its position has been fixed and its motor switched off. -/
theorem fixedAt_offRecord {s : State} {l : Leaf} {f : FeedbackRecord} {count position : Nat} (hle : position ≤ 1000)
    (hf : s.feedback.get l = f.fixAt count position s.now) : FixedAt (s.offRecord l) f.mode count position f.drift := by
  obtain ⟨hpulse, htimed, -, hdrift⟩ := f.fixAt_spec count position s.now
  rw [← hf] at hpulse htimed hdrift
  refine ⟨hpulse, fun hmode => ?_, hdrift⟩
  obtain ⟨hestimate, hperiod⟩ := htimed hmode
  exact formedEstimate_fixed hestimate hperiod hle

/-- The state in which a run's member has met its end, and what the event leaves in it: the position fixed, the motor off. -/
structure EndMet (s t : State) (l : Leaf) (count position drift : Nat) : Prop where
  fixed : FixedAt (t.feedback.get l) (s.feedback.get l).mode count position drift
  motor : (t.members.get l).motorOn = false
  others : ∀ m, m ≠ l → (t.feedback.get m).count = (s.feedback.get m).count ∧ (t.feedback.get m).drift = (s.feedback.get m).drift
  tables : t.tables = s.tables
  motion : MotionOnly { s with feedback := t.feedback } t

/-- The position of a leaf is fixed at an end: all that has changed so far are its own records. -/
structure Fixes (s a : State) (l : Leaf) (count position drift : Nat) : Prop where
  outside : SameOutside s a
  tables : a.tables = s.tables
  units : a.units = s.units
  others : ∀ m, m ≠ l → a.feedback.get m = s.feedback.get m
  own : ∃ f : FeedbackRecord, f.mode = (s.feedback.get l).mode ∧ f.drift = drift ∧ a.feedback.get l = f.fixAt count position s.now

/-- The position of `l` fixed, the motors follow. -/
theorem Fixes.endMet {s a t : State} {l : Leaf} {count position drift : Nat} (h : Fixes s a l count position drift)
    (hle : position ≤ 1000) (hd : Driven a t) (htables : t.tables = a.tables) (hfaults : SameFaults a t)
    (hmotor : (t.members.get l).motorOn = false) (hfeedback : t.feedback.get l = a.offRecord l) :
    EndMet s t.refresh l count position drift where
  fixed := by
    obtain ⟨f, hmode, rfl, hf⟩ := h.own
    rw [← hmode]
    show FixedAt (t.feedback.get l) _ _ _ _
    rw [hfeedback]
    exact fixedAt_offRecord hle (by rw [hf, h.outside.now])
  motor := hmotor
  others := fun m hm => by
    rw [← h.others m hm]
    exact ⟨hd.count m, hd.drift m⟩
  tables := htables.trans h.tables
  motion := (h.outside.trans hd.sameOutside).motionOnly_feedback (fun u => by rw [htables, h.tables])
    ((SameFaults.of_units h.units).trans hfaults)

theorem sameFaults_syncGang_of_done {s : State} {l : Leaf} (hdone : (s.members.get l).hold = .done) :
    SameFaults s (s.syncGang l) := SameFaults.of_units (syncGang_done_sameLeaf hdone).2

theorem syncGang_tables (s : State) (l : Leaf) : (s.syncGang l).tables = s.tables := (moved_syncGang s l).tables

/-- A member is held at its end, and the gang synchronised. -/
theorem Fixes.finish {s a : State} {l : Leaf} {r : Run} {count position drift : Nat} (h : Fixes s a l count position drift)
    (hle : position ≤ 1000) (hr : s.runOf l = some r) :
    let t := ((a.finishMember (s.cfg.leader l) r l).syncGang l).refresh
    EndMet s t l count position drift ∧ (t.members.get l).switchMade = (a.members.get l).switchMade ∧
      (r.members = [l] → (t.unitOf l).status = .inFlight { r with
        stage := .rundown (s.now + 150) (if r.backoff then .fault .pinch else .clean), timeoutDue := none }) := by
  have hmember := finishMember_member a (s.cfg.leader l) r l
  have hdone : ((a.finishMember (s.cfg.leader l) r l).members.get l).hold = .done := by rw [hmember]
  obtain ⟨⟨hsyncMember, hsyncFeedback⟩, hsyncUnits⟩ := syncGang_done_sameLeaf hdone
  have hcfg : a.cfg = s.cfg := congrArg SettingsStore.inForce h.outside.store
  have hstatus : (a.units.get (s.cfg.leader l)).status = .inFlight r := by
    rw [h.units]
    exact (runOf_eq_some_iff.1 hr).1
  have hd := (driven_finishMember a (s.cfg.leader l) r l).trans (driven_syncGang _ l)
  refine ⟨h.endMet hle hd ?_ ?_ ?_ ?_, ?_, fun hmembers => ?_⟩
  · rw [syncGang_tables]
    exact (moved_finishMember hstatus l).tables
  · exact (sameFaults_finishMember a _ r l).trans (sameFaults_syncGang_of_done hdone)
  · rw [hsyncMember, hmember]
    rfl
  · rw [hsyncFeedback]
    exact finishMember_feedback a _ r l
  · show (((a.finishMember (s.cfg.leader l) r l).syncGang l).members.get l).switchMade = _
    rw [hsyncMember, hmember]
    rfl
  · show (((a.finishMember (s.cfg.leader l) r l).syncGang l).units.get
      (((a.finishMember (s.cfg.leader l) r l).syncGang l).cfg.leader l)).status = _
    rw [hsyncUnits, show ((a.finishMember (s.cfg.leader l) r l).syncGang l).cfg = s.cfg from
      (congrArg SettingsStore.inForce hd.store).trans hcfg, finishMember_single hmembers, h.outside.now]
    rfl

theorem fixes_setFeedback (s : State) (l : Leaf) {f : FeedbackRecord} {count position drift : Nat}
    (hmode : f.mode = (s.feedback.get l).mode) (hdrift : f.drift = drift) :
    Fixes s (s.setFeedback l (f.fixAt count position s.now)) l count position drift where
  outside := sameOutside_setFeedback s l _
  tables := rfl
  units := rfl
  others := fun m hm => by simp [hm]
  own := ⟨f, hmode, hdrift, by simp⟩

theorem Fixes.setMember {s a : State} {l : Leaf} {count position drift : Nat} (h : Fixes s a l count position drift)
    (x : MemberRecord) : Fixes s (a.setMember l x) l count position drift where
  outside := h.outside.trans ⟨rfl, rfl, rfl, rfl, rfl, rfl, rfl, rfl, rfl, rfl, rfl, rfl, rfl⟩
  tables := h.tables
  units := h.units
  others := h.others
  own := h.own

theorem FeedbackRecord.countDrift_mode (f : FeedbackRecord) (b : Bool) : (f.countDrift b).mode = f.mode := by
  unfold FeedbackRecord.countDrift
  split <;> rfl

theorem switchTaken_of {s : State} {l : Leaf} {r : Run} (hr : s.runOf l = some r) (hst : r.stage = .running)
    (hdir : r.direction = .closing) (hmade : (s.members.get l).switchMade = false) : s.switchTaken l = some r := by
  unfold State.switchTaken
  rw [hr, Option.bind_some, if_pos]
  rw [hdir, hst, hmade]
  rfl

/-- Settles O44. -/
theorem endsFixThePosition : Obligations.EndsFixThePosition := by
  intro s o l r current since hs hd f stroke arrival met more hdrift
  have hat : s.runningAt o = some (l, r) := runningAt_eq_some_iff.2 hd
  obtain ⟨hl, hr, hst, hmotor⟩ := hd
  have hmet {t : State} {count position drift : Nat} (h : EndMet s t l count position drift) : met t count position drift := by
    obtain ⟨⟨hpulse, htimed, hdrift⟩, hmotor, hothers, htables, hmotion⟩ := h
    exact ⟨hpulse, htimed, hdrift, hmotor, hothers, htables, hmotion⟩
  have hmore {p : Prop} [Decidable p] {b : Bool} (h : b = true ↔ p) : (f.countDrift b).drift = more p := by
    rw [f.countDrift_drift b hdrift]
    exact if_congr h rfl rfl
  refine ⟨fun hdir hmade => ?_, fun hcurrent hchecks hsince => ⟨fun hdir => ?_, fun hdir hmem => ?_⟩⟩
  · have hfix := (fixes_setFeedback s l (f := f.countDrift (f.closedDrift stroke)) (count := 0) (position := 0)
      (f.countDrift_mode _) (hmore (f.closedDrift_iff stroke))).setMember { s.members.get l with switchMade := true }
    obtain ⟨hend, hswitch, hstatus⟩ := hfix.finish (Nat.zero_le _) hr
    refine ⟨_, next_act hs _ ?_, hmet hend, hswitch.trans ?_, hstatus⟩
    · rw [hl]
      dsimp only
      rw [switchTaken_of hr hst hdir hmade]
      dsimp only
      rw [hst]
      rfl
    · simp
  · have hfix := fixes_setFeedback s l (f := f.countDrift (f.openDrift stroke)) (count := stroke) (position := 1000)
      (f.countDrift_mode _) (hmore (f.openDrift_iff stroke))
    obtain ⟨hend, -, hstatus⟩ := hfix.finish (Nat.le_refl _) hr
    refine ⟨_, next_act hs _ ?_, hmet hend, hstatus⟩
    rw [hat]
    refine (if_pos ?_).trans ?_
    · rw [hcurrent, show s.checksApplied l cutOutPeriod = true from checksApplied_iff.2 ⟨since, hchecks, hsince⟩]
      rfl
    · unfold State.takeCutOut
      rw [hdir]
      rfl
  · have hfix := fixes_setFeedback s l (f := f) (count := 0) (position := 0) rfl rfl
    have hstatus := (runOf_eq_some_iff.1 hr).1
    have heq := toRundown_eq (s.cutOutClosed l) (s.cfg.leader l) r (.fault .closeUnconfirmed)
    refine ⟨((s.cutOutClosed l).toRundown (s.cfg.leader l) r (.fault .closeUnconfirmed)).refresh, next_act hs _ ?_,
      hmet (hfix.endMet (Nat.zero_le _) (driven_toRundown _ _ r _) ?_ (sameFaults_toRundown _ _ r _) ?_ ?_), ?_⟩
    · rw [hat]
      refine (if_pos ?_).trans ?_
      · rw [hcurrent, show s.checksApplied l cutOutPeriod = true from checksApplied_iff.2 ⟨since, hchecks, hsince⟩]
        rfl
      · unfold State.takeCutOut
        rw [hdir]
        rfl
    · exact (moved_toRundown (s := s.cutOutClosed l) (q := r) _ hstatus rfl).tables
    · show (((s.cutOutClosed l).toRundown (s.cfg.leader l) r (.fault .closeUnconfirmed)).members.get l).motorOn = _
      rw [heq]
      simp only [Four.get_ofFn, if_pos hmem]
      rfl
    · show ((s.cutOutClosed l).toRundown (s.cfg.leader l) r (.fault .closeUnconfirmed)).feedback.get l = _
      rw [heq]
      simp only [Four.get_ofFn, if_pos hmem]
      rfl
    · rw [heq]
      show ((s.units.set (s.cfg.leader l) _).get (s.cfg.leader l)).status = _
      rw [Four.get_set, if_pos rfl]
      rfl

end Sys2Proof.Machine
end

section
/-! SUPPORT. What an operation of one unit writes: that unit's record, its table, and its leaves' records. -/

namespace Sys2Proof.Machine

/-- The leaves of the unit's run in flight, if any, are the unit's (R128). -/
def State.Belongs (s : State) (w : Leaf) : Prop :=
  ∀ r, (s.units.get w).status = .inFlight r → ∀ m ∈ r.members, s.cfg.leader m = w

/-- The operation is one of unit `w`: nothing of another unit is written. -/
structure Local (w : Leaf) (s t : State) : Prop where
  cfg : t.cfg = s.cfg
  unit : ∀ v ≠ w, t.units.get v = s.units.get v
  table : ∀ v ≠ w, t.tables.get v = s.tables.get v
  leaf : ∀ m, s.cfg.leader m ≠ w → SameLeaf m s t
  belongs : s.Belongs w → t.Belongs w

theorem SameLeaf.trans {m : Leaf} {s t u : State} (h : SameLeaf m s t) (k : SameLeaf m t u) : SameLeaf m s u :=
  ⟨k.1.trans h.1, k.2.trans h.2⟩

theorem Local.refl (w : Leaf) (s : State) : Local w s s := ⟨rfl, fun _ _ => rfl, fun _ _ => rfl, fun _ _ => ⟨rfl, rfl⟩, id⟩

theorem Local.trans {w : Leaf} {s t u : State} (h : Local w s t) (k : Local w t u) : Local w s u where
  cfg := k.cfg.trans h.cfg
  unit := fun v hv => (k.unit v hv).trans (h.unit v hv)
  table := fun v hv => (k.table v hv).trans (h.table v hv)
  leaf := fun m hm => (h.leaf m hm).trans (k.leaf m (by rw [h.cfg]; exact hm))
  belongs := fun hs => k.belongs (h.belongs hs)

/-- A pass over leaves of the unit. -/
theorem Local.foldl {w : Leaf} {s : State} {f : State → Leaf → State} (ls : List Leaf) (hs : s.Belongs w)
    (hf : ∀ t, t.cfg = s.cfg → t.Belongs w → ∀ m ∈ ls, Local w t (f t m)) : Local w s (ls.foldl f s) := by
  induction ls generalizing s with
  | nil => exact Local.refl w s
  | cons m ls ih =>
    have hm := hf s rfl hs m List.mem_cons_self
    exact hm.trans (ih (hm.belongs hs) fun t ht hb k hk => hf t (ht.trans hm.cfg) hb k (List.mem_cons_of_mem _ hk))

/-! ### Updates -/

theorem local_setUnit {s : State} {w : Leaf} {x : UnitRecord}
    (h : s.Belongs w → ∀ r, x.status = .inFlight r → ∀ m ∈ r.members, s.cfg.leader m = w) : Local w s (s.setUnit w x) where
  cfg := rfl
  unit := fun v hv => by rw [State.setUnit_units, Four.get_set, if_neg hv]
  table := fun _ _ => rfl
  leaf := fun _ _ => ⟨rfl, rfl⟩
  belongs := fun hs r hr => by
    rw [State.setUnit_units, Four.get_set, if_pos rfl] at hr
    exact h hs r hr

theorem local_setUnit_sameStatus {s : State} {w : Leaf} {x : UnitRecord} (h : x.status = (s.units.get w).status) :
    Local w s (s.setUnit w x) := local_setUnit fun hs r hr => hs r (h ▸ hr)

theorem local_setRun {s : State} {w : Leaf} {r : Run} (h : ∀ m ∈ r.members, s.cfg.leader m = w) : Local w s (s.setRun w r) :=
  local_setUnit fun _ q hq => by
    cases hq
    exact h

theorem local_setTable (s : State) (w : Leaf) (x : DemandTable) : Local w s (s.setTable w x) where
  cfg := rfl
  unit := fun _ _ => rfl
  table := fun v hv => by rw [State.setTable_tables, Four.get_set, if_neg hv]
  leaf := fun _ _ => ⟨rfl, rfl⟩
  belongs := id

theorem local_setMember {s : State} {w l : Leaf} (hl : s.cfg.leader l = w) (x : MemberRecord) : Local w s (s.setMember l x) where
  cfg := rfl
  unit := fun _ _ => rfl
  table := fun _ _ => rfl
  leaf := fun m hm => ⟨by rw [State.setMember_members, Four.get_set, if_neg fun h => hm (by rw [h]; exact hl)], rfl⟩
  belongs := id

theorem local_setFeedback {s : State} {w l : Leaf} (hl : s.cfg.leader l = w) (x : FeedbackRecord) :
    Local w s (s.setFeedback l x) where
  cfg := rfl
  unit := fun _ _ => rfl
  table := fun _ _ => rfl
  leaf := fun m hm => ⟨rfl, by rw [State.setFeedback_feedback, Four.get_set, if_neg fun h => hm (by rw [h]; exact hl)]⟩
  belongs := id

theorem local_placeAtRest (s : State) (w : Leaf) : Local w s (s.placeAtRest w) :=
  (local_setUnit (by rintro - _ ⟨⟩)).trans (local_setTable _ w _)

/-! ### Motors -/

theorem local_endPeriod {s : State} {w l : Leaf} (hl : s.cfg.leader l = w) : Local w s (s.endPeriod l) := by
  rw [endPeriod_eq]
  exact local_setFeedback hl _

theorem local_beginPeriod {s : State} {w l : Leaf} (hl : s.cfg.leader l = w) (v : Speed) : Local w s (s.beginPeriod l v) :=
  local_setFeedback hl _

theorem local_switchOn {s : State} {w l : Leaf} (hl : s.cfg.leader l = w) (v : Speed) : Local w s (s.switchOn l v) :=
  (local_setMember hl _).trans (local_beginPeriod (s := s.setMember l _) hl v)

theorem local_switchOff {s : State} {w l : Leaf} (hl : s.cfg.leader l = w) : Local w s (s.switchOff l) := by
  rw [switchOff_eq]
  exact (local_setFeedback hl (s.offRecord l)).trans (local_setMember (s := s.setFeedback l (s.offRecord l)) hl _)

theorem local_toRundown {s : State} {w : Leaf} {r : Run} (h : ∀ m ∈ r.members, s.cfg.leader m = w) (e : Ending) :
    Local w s (s.toRundown w r e) := by
  rw [toRundown_eq]
  refine ⟨rfl, fun v hv => ?_, fun _ _ => rfl, fun m hm => ?_, fun _ q hq => ?_⟩
  · simp [hv]
  · have hnot : m ∉ r.members := fun hmem => hm (h m hmem)
    simp [SameLeaf, hnot]
  · simp only [Four.get_set, if_true] at hq
    cases hq
    exact h

theorem local_readyMembers {s : State} {w : Leaf} {ls : List Leaf} (h : ∀ m ∈ ls, s.cfg.leader m = w) (hs : s.Belongs w) :
    Local w s (s.readyMembers ls) :=
  Local.foldl ls hs fun t ht _ m hm => local_setMember (by rw [ht]; exact h m hm) _

/-! ### Runs -/

theorem local_settleTimeout {s : State} {w : Leaf} {r : Run} (h : ∀ m ∈ r.members, s.cfg.leader m = w) :
    Local w s (s.settleTimeout w r) := by
  unfold State.settleTimeout
  split
  · exact local_setRun h
  · exact Local.refl w s

theorem local_finishMember {s : State} {w l : Leaf} {r : Run} (h : ∀ m ∈ r.members, s.cfg.leader m = w)
    (hl : s.cfg.leader l = w) : Local w s (s.finishMember w r l) := by
  have hheld : Local w s (s.held l .done) := by
    rw [← held_eq]
    exact (local_switchOff hl).trans (local_setMember (s := s.switchOff l) hl _)
  rw [finishMember_eq]
  split
  · exact hheld.trans (local_toRundown (s := s.held l .done) h _)
  · exact hheld.trans (local_settleTimeout (s := s.held l .done) h)

theorem local_beginProbing {s : State} {w l : Leaf} {r : Run} (h : ∀ m ∈ r.members, s.cfg.leader m = w)
    (hl : s.cfg.leader l = w) : Local w s (s.beginProbing w r l) := by
  have hmotor : Local w s (s.probingMotor r l) := by
    unfold State.probingMotor
    split
    · exact local_switchOn hl _
    · exact Local.refl w s
  unfold State.beginProbing
  dsimp only
  generalize s.probingMotor r l = t at hmotor
  have hl' : t.cfg.leader l = w := by rw [hmotor.cfg]; exact hl
  have h' : ∀ m ∈ r.members, t.cfg.leader m = w := by rw [hmotor.cfg]; exact h
  exact ((hmotor.trans (local_setMember hl' _)).trans (local_setFeedback (s := t.setMember l _) hl' _)).trans
    (local_settleTimeout (s := State.setFeedback _ l _) h')

theorem local_checkReach {s : State} {w l : Leaf} (hs : s.Belongs w) (hl : s.cfg.leader l = w) : Local w s (s.checkReach l) := by
  unfold State.checkReach
  split
  · exact Local.refl w s
  next r hr =>
    have h : ∀ m ∈ r.members, s.cfg.leader m = w := hs r (hl ▸ (runOf_eq_some_iff.1 hr).1)
    dsimp only
    rw [hl]
    split
    · split
      · exact local_beginProbing h hl
      · exact local_finishMember h hl
    · exact Local.refl w s

theorem local_changeSpeed {s : State} {w : Leaf} {r : Run} (h : ∀ m ∈ r.members, s.cfg.leader m = w) (hs : s.Belongs w) (v : Speed) :
    Local w s (s.changeSpeed r v) := by
  unfold State.changeSpeed
  split
  · exact Local.refl w s
  · refine Local.foldl r.members hs fun t ht _ m hm => ?_
    have hm' : t.cfg.leader m = w := by rw [ht]; exact h m hm
    split
    · exact (local_endPeriod hm').trans (local_beginPeriod (s := t.endPeriod m) hm' v)
    · exact Local.refl w t

theorem local_continueRun {s : State} {w : Leaf} {r : Run} (h : ∀ m ∈ r.members, s.cfg.leader m = w) (hs : s.Belongs w) (p : Pair)
    (aim : Aim) (replaced : Bool) : Local w s (s.continueRun w r p aim replaced) := by
  have hspeed := local_changeSpeed h hs p.slot.speed
  unfold State.continueRun
  exact hspeed.trans (local_setRun (by rw [hspeed.cfg]; exact h))

theorem local_resumeHeld {s : State} {w : Leaf} {r : Run} (h : ∀ m ∈ r.members, s.cfg.leader m = w) (hs : s.Belongs w)
    (target : Nat) : Local w s (s.resumeHeld r target) := by
  refine Local.foldl r.members hs fun t ht _ m hm => ?_
  split
  · split
    · exact local_switchOn (by rw [ht]; exact h m hm) _
    · exact Local.refl w t
  · exact Local.refl w t

theorem local_checkReaches {s : State} {w : Leaf} {ls : List Leaf} (h : ∀ m ∈ ls, s.cfg.leader m = w) (hs : s.Belongs w) :
    Local w s (s.checkReaches ls) :=
  Local.foldl ls hs fun _ ht hb m hm => local_checkReach hb (by rw [ht]; exact h m hm)

theorem local_stopForPair {s : State} {w : Leaf} {r : Run} (h : ∀ m ∈ r.members, s.cfg.leader m = w) (p : Pair) (again : Bool)
    (e : Ending) : Local w s (s.stopForPair w r p again e) := by
  unfold State.stopForPair
  dsimp only
  exact (local_setUnit_sameStatus (by exact rfl)).trans (local_toRundown (s := s.setUnit w _) h e)

theorem local_retarget {s : State} {w : Leaf} {r : Run} (h : ∀ m ∈ r.members, s.cfg.leader m = w) (hs : s.Belongs w) (p : Pair)
    (target : Nat) : Local w s (s.retarget w r p target) := by
  unfold State.retarget
  dsimp only
  split
  · split
    · exact local_continueRun h hs p _ _
    · exact local_stopForPair h p _ _
  · split
    · have hgo := local_continueRun h hs p ⟨target, r.direction, r.kind⟩ true
      have hmembers : ∀ m ∈ r.members, (s.continueRun w r p ⟨target, r.direction, r.kind⟩ true).cfg.leader m = w := by
        rw [hgo.cfg]
        exact h
      have hresume := local_resumeHeld (r := { r with speed := p.slot.speed }) hmembers (hgo.belongs hs) target
      exact (hgo.trans hresume).trans (local_checkReaches (by rw [hresume.cfg]; exact hmembers) (hresume.belongs (hgo.belongs hs)))
    · split
      · exact local_continueRun h hs p _ _
      · exact local_stopForPair h p _ _

theorem local_retargetUnref {s : State} {w : Leaf} {r : Run} (h : ∀ m ∈ r.members, s.cfg.leader m = w) (hs : s.Belongs w) (p : Pair)
    (target : Nat) : Local w s (s.retargetUnref w r p target) := by
  unfold State.retargetUnref
  split
  · exact local_continueRun h hs p _ _
  · exact local_stopForPair h p _ _

theorem local_takeRunning {s : State} {w : Leaf} {r : Run} (h : ∀ m ∈ r.members, s.cfg.leader m = w) (hs : s.Belongs w) (p : Pair) :
    Local w s (s.takeRunning w r p) := by
  unfold State.takeRunning
  split
  · exact local_stopForPair h p _ _
  split
  · exact local_stopForPair h p _ _
  split
  · exact local_stopForPair h p _ _
  split
  · exact local_retarget h hs p _
  · exact local_retargetUnref h hs p _
  · exact local_retargetUnref h hs p _

theorem local_takeStarting {s : State} {w : Leaf} {r : Run} (h : ∀ m ∈ r.members, s.cfg.leader m = w) (p : Pair) :
    Local w s (s.takeStarting w r p) := by
  unfold State.takeStarting
  dsimp only
  generalize (if (s.units.get w).outOfService then p.slot.fireClass else s.wantsRun w p) = needs
  split
  · refine local_setUnit fun _ q hq => ?_
    cases hq
    exact h
  · exact local_placeAtRest s w

/-! ### Pairs, judging, halts and service -/

theorem local_takePair {s : State} {w : Leaf} (hs : s.Belongs w) (p : Pair) : Local w s (s.takePair w p) := by
  have hset : Local w s (s.setUnit w ((s.units.get w).withPair p)) := local_setUnit_sameStatus (by exact rfl)
  have hb := hset.belongs hs
  have hget : ((s.setUnit w ((s.units.get w).withPair p)).units.get w).status = ((s.units.get w).withPair p).status := by
    rw [State.setUnit_units, Four.get_set, if_pos rfl]
  unfold State.takePair
  dsimp only
  generalize s.setUnit w ((s.units.get w).withPair p) = t at hset hb hget ⊢
  split
  · exact hset
  · split
    · exact hset
    · exact hset.trans (local_placeAtRest t w)
  next r hr =>
    have h := hb r (hget.trans hr)
    split
    · exact hset
    · split
      · exact hset
      · exact hset.trans (local_takeStarting h p)
      · exact hset.trans (local_takeRunning h hb p)

theorem local_handPair {s : State} {w : Leaf} (hs : s.Belongs w) : Local w s (s.handPair w) := by
  unfold State.handPair
  split
  · exact local_takePair hs _
  · exact Local.refl w s

theorem local_judge (s : State) (w : Leaf) : Local w s (s.judge w) := by
  unfold State.judge
  split
  · exact local_setUnit (by rintro - _ ⟨⟩)
  · exact Local.refl w s

theorem local_halt {s : State} {w : Leaf} (hs : s.Belongs w) : Local w s (s.halt w) := by
  unfold State.halt
  split
  · exact Local.refl w s
  · exact local_placeAtRest s w
  next r hr =>
    have h := hs r hr
    have howed : Local w s (s.setUnit w (s.units.get w).oweAgain) := local_setUnit_sameStatus (by exact rfl)
    split
    · exact howed.trans (local_placeAtRest _ w)
    · exact howed.trans (local_toRundown (s := s.setUnit w _) h _)
    · split
      · exact local_setRun h
      · exact Local.refl w s

theorem local_startUnit {s : State} {w : Leaf} (hw : s.cfg.isUnit w = true) : Local w s (s.startUnit w) := by
  have h : ∀ m ∈ s.presentMembers w, s.cfg.leader m = w := fun m hm => Settings.leader_eq_of_isUnit hw (mem_presentMembers hm)
  have hset {x : UnitRecord} {r : Run} (hx : x.status = .inFlight r) (hr : r.members = s.presentMembers w) :
      Local w s (s.setUnit w x) ∧ (s.setUnit w x).Belongs w := by
    have hlocal : Local w s (s.setUnit w x) := local_setUnit fun _ q hq => by
      rw [hx] at hq
      cases hq
      rw [hr]
      exact h
    refine ⟨hlocal, fun q hq => ?_⟩
    rw [State.setUnit_units, Four.get_set, if_pos rfl, hx] at hq
    cases hq
    rw [hr]
    exact h
  unfold State.startUnit
  dsimp only
  obtain ⟨hlocal, hb⟩ := hset (x := { s.units.get w with
    status := .inFlight ((if (s.units.get w).referenceOwed then referenceAim else
      s.aimAt w ((s.units.get w).pair.target.getD 0)).run (s.units.get w).pair.slot (s.presentMembers w) s.now)
    lastDirection := some (if (s.units.get w).referenceOwed then referenceAim else
      s.aimAt w ((s.units.get w).pair.target.getD 0)).direction
    lastRunFailed := false
    fireOwed := false
    referenceOwed := false }) rfl rfl
  exact hlocal.trans (local_readyMembers (s := s.setUnit w _) h hb)

theorem local_preempt {s : State} {w : Leaf} {r : Run} (h : ∀ m ∈ r.members, s.cfg.leader m = w) :
    Local w s (s.preempt w r) := by
  unfold State.preempt
  split
  · exact local_toRundown h _
  · split
    · exact local_setUnit (by rintro - _ ⟨⟩)
    · have hrest := local_placeAtRest s w
      have hb : (s.placeAtRest w).Belongs w := fun q hq => by
        rw [placeAtRest_status] at hq
        cases hq
      exact (hrest.trans (local_handPair hb)).trans (local_judge _ w)

/-! ### The station's runs belong to their units -/

theorem membersBelong_iff (s : State) : membersBelong s ↔ ∀ u, s.Belongs u := Iff.rfl

theorem Local.belongs_all {w : Leaf} {s t : State} (h : Local w s t) (hs : membersBelong s) : membersBelong t := by
  intro u
  by_cases hu : u = w
  · subst hu
    exact h.belongs (hs u)
  · intro r hr m hm
    rw [h.unit u hu] at hr
    rw [h.cfg]
    exact hs u r hr m hm

theorem HoldsNoMore.membersBelong {s t : State} (h : HoldsNoMore s t) (hcfg : t.cfg = s.cfg) (hs : membersBelong s) :
    membersBelong t := fun u r hr m hm => by
  obtain ⟨q, hq, hmem⟩ := h.run u r hr
  rw [hcfg]
  exact hs u q hq m (hmem ▸ hm)

/-- A probe granted, seen from a unit: the leaf's probe alone. -/
theorem grantProbe_members (s : State) (l : Leaf) : membersBelong s → membersBelong (s.grantProbe l) := id

theorem membersBelong_serveStep {s t : State} (hs : membersBelong s) (h : s.serveStep = some t) : membersBelong t := by
  obtain ⟨l, -, rfl⟩ | ⟨u, hqueue, -, rfl⟩ | ⟨u, r, hr, rfl⟩ := serveStep_takes h
  · exact grantProbe_members s l hs
  · exact (local_startUnit (mem_startQueue_iff.1 hqueue).1).belongs_all hs
  · exact (local_preempt (hs u r hr)).belongs_all hs

end Sys2Proof.Machine
end

section
/-! SUPPORT. Need and withholding (R131), and that no unit at rest is left out of the queue at the end of an event. -/

namespace Sys2Proof.Machine

/-! ### What need and position rest on -/

/-- Presence, mode, count and estimate are the same: what a position is formed from. -/
def FeedbackRecord.SamePlace (f g : FeedbackRecord) : Prop :=
  g.presence = f.presence ∧ g.mode = f.mode ∧ g.count = f.count ∧ g.estimate = f.estimate

theorem FeedbackRecord.SamePlace.of_eq {f g : FeedbackRecord} (h : g = f) : f.SamePlace g := h ▸ ⟨rfl, rfl, rfl, rfl⟩

/-- The unit's leaves stand where they stood. -/
def State.SamePlaces (s t : State) (u : Leaf) : Prop :=
  ∀ m ∈ s.cfg.membersOf u, (s.feedback.get m).SamePlace (t.feedback.get m)

theorem mem_membersOf_self (c : Settings) (u : Leaf) : u ∈ c.membersOf u := by
  unfold Settings.membersOf
  split <;> simp

theorem position_congr {s t : State} {m : Leaf} (hcfg : t.cfg = s.cfg) (h : (s.feedback.get m).SamePlace (t.feedback.get m)) :
    t.position m = s.position m := by
  obtain ⟨-, hmode, hcount, hestimate⟩ := h
  unfold State.position FeedbackRecord.position
  rw [hcfg, hmode, hcount, hestimate]

theorem presentMembers_congr {s t : State} {u : Leaf} (hcfg : t.cfg = s.cfg)
    (h : ∀ m ∈ s.cfg.membersOf u, (t.feedback.get m).presence = (s.feedback.get m).presence) :
    t.presentMembers u = s.presentMembers u := by
  unfold State.presentMembers
  rw [hcfg]
  refine List.filter_congr fun m hm => ?_
  rw [h m hm]

theorem unitPosition_congr {s t : State} {u : Leaf} (hcfg : t.cfg = s.cfg) (h : s.SamePlaces t u) :
    t.unitPosition u = s.unitPosition u := by
  unfold State.unitPosition
  rw [presentMembers_congr hcfg fun m hm => (h m hm).1, hcfg, position_congr hcfg (h u (mem_membersOf_self _ u)),
    List.map_congr_left fun m hm => position_congr hcfg (h m (mem_presentMembers hm))]

theorem probed_congr {s t : State} {u : Leaf} (hcfg : t.cfg = s.cfg)
    (h : ∀ m ∈ s.cfg.membersOf u, (t.feedback.get m).presence = (s.feedback.get m).presence) : t.probed u = s.probed u := by
  have hended : t.probesEnded u = s.probesEnded u := by
    unfold State.probesEnded
    rw [hcfg, Bool.eq_iff_iff, List.all_eq_true, List.all_eq_true]
    refine forall₂_congr fun m hm => ?_
    rw [h m hm]
  unfold State.probed
  rw [hended, presentMembers_congr hcfg h]

/-- What a unit's need is judged by. -/
def UnitRecord.SameNeed (x y : UnitRecord) : Prop :=
  y.pair = x.pair ∧ y.failureCount = x.failureCount ∧ y.fireOwed = x.fireOwed ∧ y.referenceOwed = x.referenceOwed

theorem UnitRecord.SameNeed.of_eq {x y : UnitRecord} (h : y = x) : x.SameNeed y := h ▸ ⟨rfl, rfl, rfl, rfl⟩

theorem needsRun_congr {s t : State} {u : Leaf} (hcfg : t.cfg = s.cfg) (hunit : (s.units.get u).SameNeed (t.units.get u))
    (h : s.SamePlaces t u) : t.needsRun u = s.needsRun u := by
  obtain ⟨hpair, hfailures, hfire, hreference⟩ := hunit
  unfold State.needsRun State.wantsRun UnitRecord.outOfService
  dsimp only
  rw [hpair, hfailures, hfire, hreference, probed_congr hcfg fun m hm => (h m hm).1, unitPosition_congr hcfg h]

theorem withheld_congr {s t : State} {u : Leaf} (hkey : t.key = s.key) (hsupply : t.supply = s.supply)
    (hpair : (t.units.get u).pair = (s.units.get u).pair) (hhold : (t.units.get u).retryHold = (s.units.get u).retryHold) :
    t.withheld u = s.withheld u := by
  unfold State.withheld State.lowBars
  dsimp only
  rw [hkey, hsupply, hpair, hhold]

theorem Driven.withheld {s t : State} (h : Driven s t) {u : Leaf} (hunit : t.units.get u = s.units.get u) :
    t.withheld u = s.withheld u :=
  withheld_congr h.sameInputs.stationKey h.supply (by rw [hunit]) (by rw [hunit])

/-! ### Need and withholding as the statements say them -/

theorem probed_iff (s : State) (u : Leaf) : s.probed u = true ↔
    (∀ m ∈ s.cfg.membersOf u, (s.feedback.get m).presence ≠ .unprobed) ∧
      ∃ m ∈ s.cfg.membersOf u, (s.feedback.get m).presence ≠ .absent := by
  have hpresent : (!(s.presentMembers u).isEmpty) = true ↔ ∃ m ∈ s.cfg.membersOf u, (s.feedback.get m).presence ≠ .absent := by
    unfold State.presentMembers
    rw [Bool.not_eq_true', List.isEmpty_eq_false_iff_exists_mem]
    simp
  unfold State.probed State.probesEnded
  rw [Bool.and_eq_true, hpresent]
  simp

theorem wantsRun_iff (s : State) (u : Leaf) (p : Pair) : s.wantsRun u p = true ↔
    ∃ g, p.target = some g ∧ ∀ q, s.unitPosition u = some q → 5 < max g q - min g q := by
  unfold State.wantsRun
  cases p.target with
  | none => simp
  | some g =>
    cases s.unitPosition u with
    | none => simp
    | some q => simp [deadband, distance_eq_max_sub_min]

theorem needsRun_iff (s : State) (u : Leaf) : s.needsRun u = true ↔ unitNeeds s u := by
  unfold State.needsRun unitNeeds UnitRecord.outOfService
  rw [Bool.and_eq_true, probed_iff, and_assoc]
  refine and_congr_right fun _ => and_congr_right fun _ => ?_
  by_cases h : 4 ≤ (s.units.get u).failureCount
  · simp [h]
  · simp [h, wantsRun_iff]

theorem lowBars_iff (s : State) (slot : Slot) :
    s.lowBars slot = true ↔ s.supply.state = .low ∧ slot ≠ .fire ∧ slot ≠ .brigade := by
  unfold State.lowBars
  cases slot <;> simp [Slot.fireClass]

theorem withheld_iff (s : State) (u : Leaf) : s.withheld u = true ↔ unitWithheld s u := by
  unfold State.withheld unitWithheld
  rw [Bool.or_eq_true, Bool.or_eq_true, lowBars_iff, Option.isSome_iff_ne_none, decide_eq_true_iff, key_eq_lockout_iff, or_assoc]

theorem needs_not_withheld_iff (s : State) (u : Leaf) :
    (s.needsRun u && !s.withheld u) = true ↔ unitNeeds s u ∧ ¬ unitWithheld s u := by
  rw [Bool.and_eq_true, needsRun_iff, Bool.not_eq_true', Bool.eq_false_iff, ne_eq, withheld_iff]

/-! ### Every unit judged -/

/-- The unit does not rest while it needs a run and nothing withholds it. -/
def State.Judged (s : State) (u : Leaf) : Prop :=
  s.cfg.isUnit u = true → (s.units.get u).status = .rest → (s.needsRun u && !s.withheld u) = false

theorem judge_judged (s : State) (u : Leaf) : (s.judge u).Judged u := by
  intro hu hrest
  unfold State.judge at hu hrest ⊢
  split at hrest
  next hcond =>
    rw [State.setStatus, State.setUnit_units, Four.get_set, if_pos rfl] at hrest
    cases hrest
  next hcond =>
    rw [if_neg hcond] at hu ⊢
    rw [hu, hrest, decide_eq_true rfl, Bool.true_and, Bool.true_and, Bool.not_eq_true] at hcond
    exact hcond

/-- A unit's judgement stands where its record stands and its leaves do. -/
theorem Driven.judged {s t : State} (h : Driven s t) {u : Leaf} (hunit : t.units.get u = s.units.get u)
    (hplaces : s.cfg.isUnit u = true → s.SamePlaces t u) (hs : s.Judged u) : t.Judged u := by
  intro hu hrest
  have hcfg : t.cfg = s.cfg := h.sameInputs.cfg
  have hu' : s.cfg.isUnit u = true := hcfg ▸ hu
  rw [needsRun_congr hcfg (.of_eq hunit) (hplaces hu'), h.withheld hunit]
  exact hs hu' (hunit ▸ hrest)

/-- Another unit's operation leaves a unit's leaves where they stand. -/
theorem Local.samePlaces {w : Leaf} {s t : State} (h : Local w s t) {u : Leaf} (hu : s.cfg.isUnit u = true) (hne : u ≠ w) :
    s.SamePlaces t u := fun m hm =>
  .of_eq (h.leaf m (by rw [Settings.leader_eq_of_isUnit hu hm]; exact hne)).2

theorem Local.judged {w : Leaf} {s t : State} (h : Local w s t) (hd : Driven s t) {u : Leaf} (hne : u ≠ w) (hs : s.Judged u) :
    t.Judged u := hd.judged (h.unit u hne) (fun hu => h.samePlaces hu hne) hs

theorem judgeAll_judged (s : State) (u : Leaf) : s.judgeAll.Judged u :=
  foldl_establishes (P := State.Judged) judge_judged
    (fun t w _ hne h => (local_judge t w).judged (driven_judge t w) hne h) (N4.mem_all u) s

theorem judged_of_not_rest {s : State} {u : Leaf} (h : (s.units.get u).status ≠ .rest) : s.Judged u := fun _ hrest => absurd hrest h

theorem preempt_judged (s : State) (u : Leaf) (r : Run) : (s.preempt u r).Judged u := by
  unfold State.preempt
  split
  · refine judged_of_not_rest ?_
    rw [toRundown_eq]
    simp
  · split
    · refine judged_of_not_rest ?_
      rw [State.setStatus, State.setUnit_units, Four.get_set, if_pos rfl]
      exact nofun
    · exact judge_judged _ u

theorem startUnit_judged (s : State) (u : Leaf) : (s.startUnit u).Judged u := by
  obtain ⟨r, -, hunits⟩ := startUnit_eq s u
  refine judged_of_not_rest ?_
  rw [hunits, Four.get_set, if_pos rfl]
  exact nofun

theorem serveStep_judged {s t : State} (hs : membersBelong s) (h : s.serveStep = some t) (hj : ∀ u, s.Judged u) (u : Leaf) :
    t.Judged u := by
  obtain ⟨l, -, rfl⟩ | ⟨w, hqueue, -, rfl⟩ | ⟨w, r, hr, rfl⟩ := serveStep_takes h
  · refine (driven_grantProbe s l).judged rfl (fun _ m _ => ?_) (hj u)
    unfold State.grantProbe
    rw [State.setFeedback_feedback, Four.get_set]
    split
    next hm =>
      subst hm
      exact ⟨rfl, rfl, rfl, rfl⟩
    next => exact .of_eq rfl
  · by_cases hne : u = w
    · exact hne ▸ startUnit_judged s w
    · exact (local_startUnit (mem_startQueue_iff.1 hqueue).1).judged (driven_startUnit s w) hne (hj u)
  · by_cases hne : u = w
    · exact hne ▸ preempt_judged s w r
    · exact (local_preempt (hs w r hr)).judged (driven_preempt s w r) hne (hj u)

/-- What every step of serving keeps, serving keeps. -/
theorem serve_induction {P : State → Prop} (hstep : ∀ s t, s.serveStep = some t → P s → P t) {s : State} (hs : P s) : P s.serve := by
  have hloop (n : Nat) : ∀ s : State, P s → P (State.serveLoop n s) := by
    induction n with
    | zero => exact fun _ => id
    | succ n ih =>
      intro s hs
      unfold State.serveLoop
      split
      next t ht => exact ih t (hstep s t ht hs)
      next => exact hs
  unfold State.serve
  split
  · exact hloop 16 s hs
  · exact hs

theorem serve_judged {s : State} (hs : membersBelong s) (hj : ∀ u, s.Judged u) (u : Leaf) : s.serve.Judged u :=
  (serve_induction (P := fun s => membersBelong s ∧ ∀ u, s.Judged u)
    (fun _ _ ht hP => ⟨membersBelong_serveStep hP.1 ht, serveStep_judged hP.1 ht hP.2⟩) ⟨hs, hj⟩).2 u

theorem membersBelong_pairsJudged {s : State} (hs : membersBelong s) : membersBelong s.handPairs.handPairs.judgeAll :=
  (((holdsNoMore_handPairs s).trans (holdsNoMore_handPairs _)).trans (holdsNoMore_judgeAll _)).membersBelong
    (((driven_handPairs s).trans (driven_handPairs _)).trans (driven_judgeAll _)).sameInputs.cfg hs

theorem drive_judged {s : State} (hs : membersBelong s) (u : Leaf) : s.drive.Judged u :=
  serve_judged (membersBelong_pairsJudged hs) (judgeAll_judged _) u

theorem membersBelong_reform {s : State} (hs : membersBelong s) : membersBelong s.reform :=
  (holdsNoMore_of_eq (reform_units s) (reform_feedback s)).membersBelong (reform_cfg s) hs

theorem composeDue_judged {s : State} {u : Leaf} (h : s.Judged u) (b : State) (r : Bool) : (s.composeDue b r).Judged u := by
  rw [composeDue_eq]
  exact h

/-- Settles O46. -/
theorem everyLeafIsJudgedAfterAnEvent : Obligations.EveryLeafIsJudgedAfterAnEvent := by
  refine ⟨fun s u => ⟨needsRun_iff s u, withheld_iff s u⟩, fun s before request u hs hu => ?_⟩
  have hended := close_ended hs before request
  have hcfg : (s.close before request).cfg = s.cfg := (follows_close s before request hs).sameStation.cfg
  refine ⟨closes_close s before request hs, hended.pairs u (hcfg ▸ hu), fun hbelong hrest ⟨hneeds, hfree⟩ => ?_⟩
  have hjudged : (s.close before request).Judged u := by
    rw [State.close, if_pos (show s.phase = .running from hs)]
    exact composeDue_judged (drive_judged (membersBelong_reform hbelong) u) before request
  have hfalse := hjudged (hcfg ▸ hu) hrest
  rw [hneeds, hfree] at hfalse
  cases hfalse

end Sys2Proof.Machine
end

section
/-! SUPPORT. Two statements that fail: both compare a unit's pair before and after an event, and a unit that comes to rest inside the event
hands its rest position, by which its table's result changes back to the pair held before. -/

namespace Sys2Proof.Machine
open Sys2Proof.Tests

/-- Leaf 1 at 500 with the storm guard's cap of 0 as its pair, where the rest position handed before gives no target: the pair
held is not the table's result. -/
def heldUnderStorm (x : UnitStatus) : State := { base with
  units := base.units.set .n1 { base.units.f1 with status := x, pair := ⟨some 0, .storm⟩ }
  tables := base.tables.set .n1 { base.tables.f1 with restPosition := some 0 } }

/-- The RUNDOWN of a stopped run ends; the unit still needs a run under the pair it holds. -/
def stoppedUnderStorm : State := heldUnderStorm (.inFlight { openRun with stage := .rundown 400000 .stopped })

theorem stoppedUnderStorm_membersBelong : membersBelong stoppedUnderStorm := by
  intro u r hr m hm
  cases u with
  | n1 =>
    cases hr
    obtain rfl := List.mem_singleton.1 hm
    rfl
  | n2 => cases hr
  | n3 => cases hr
  | n4 => cases hr

theorem next_after {c : Instr} {s t : State} (h : exec c s = .next t) : t = after c s := by
  unfold after
  rw [h]

/-- Refutes O45. The unit goes back to the queue under its pair, the cap 0; its table, by the rest position 0 handed before, gives
no target, so it comes to rest and hands 500; by this the table gives the cap again, and the unit waits under the pair it held
before. The clause that such a unit hands no rest position fails. -/
theorem not_rundownEndsTheRun : ¬ Obligations.RundownEndsTheRun := by
  intro h
  obtain ⟨t, hexec, -, -, -, hrest, -⟩ := h.1 stoppedUnderStorm .n1 { openRun with stage := .rundown 400000 .stopped } 400000 .stopped
    rfl rfl rfl (Nat.le_refl _)
  obtain ⟨-, -, -, hkept, -⟩ := hrest stoppedUnderStorm_membersBelong
  rw [next_after hexec] at hkept
  have hneeds : unitNeeds stoppedUnderStorm .n1 ∧ ¬ unitWithheld stoppedUnderStorm .n1 :=
    (needs_not_withheld_iff _ _).1 (by decide +kernel)
  have hpair : ((after (.rundownEnd .n1) stoppedUnderStorm).units.get .n1).pair = (stoppedUnderStorm.units.get .n1).pair := by
    decide +kernel
  have hhanded : ((after (.rundownEnd .n1) stoppedUnderStorm).tables.get .n1).restPosition ≠
      (stoppedUnderStorm.tables.get .n1).restPosition := by decide +kernel
  exact hhanded (hkept rfl hneeds hpair).1

/-- A run at FIRE in STARTING while the pair held is below FIRE, at the entry to LOW. -/
def fireRunGoingLow : State :=
  { heldUnderStorm (.inFlight { openRun with slot := .fire, stage := .starting 400001 }) with
    supply := ⟨.battery, none, none, some 398000, none, false, 200⟩ }

/-- Refutes O54. The entry to LOW leaves the run at FIRE; the table gives no target, so the unit comes to rest from STARTING and hands
500; by this the table gives the pair held before, and the run is not in flight though the pair is the same. -/
theorem not_supplyReadAndQualified : ¬ Obligations.SupplyReadAndQualified := by
  intro h
  obtain ⟨-, -, -, hlow, -⟩ := h fireRunGoingLow rfl
  obtain ⟨t, hexec, -, -, hunits, -⟩ := hlow 398000 rfl rfl (by decide)
  obtain ⟨-, hruns⟩ := hunits rfl .n1
  rw [next_after hexec] at hruns
  have hpair : ((after .lowTimerExpiry fireRunGoingLow).units.get .n1).pair = (fireRunGoingLow.units.get .n1).pair := by
    decide +kernel
  have hrest : ((after .lowTimerExpiry fireRunGoingLow).units.get .n1).status = .rest := by decide +kernel
  have hflight := (hruns (.inl rfl) hpair).1 { openRun with slot := .fire, stage := .starting 400001 } rfl
  rw [hrest] at hflight
  cases hflight

end Sys2Proof.Machine
end

section
/-! SUPPORT. What the drive controller leaves in a feedback record: the probe, and in PULSE mode the estimate. -/

namespace Sys2Proof.Machine

/-- The probe is as it was, and in PULSE mode the estimate is. -/
structure FeedbackRecord.Quiet (f g : FeedbackRecord) : Prop where
  probe : g.probe = f.probe
  mode : g.mode = f.mode
  estimate : f.mode = .pulse → g.estimate = f.estimate

theorem FeedbackRecord.Quiet.refl (f : FeedbackRecord) : f.Quiet f := ⟨rfl, rfl, fun _ => rfl⟩

theorem FeedbackRecord.Quiet.trans {f g k : FeedbackRecord} (h : f.Quiet g) (h' : g.Quiet k) : f.Quiet k :=
  ⟨h'.probe.trans h.probe, h'.mode.trans h.mode, fun hm => (h'.estimate (h.mode.trans hm)).trans (h.estimate hm)⟩

/-- The records of all leaves. -/
def Quiet (s t : State) : Prop := ∀ l, (s.feedback.get l).Quiet (t.feedback.get l)

theorem Quiet.refl (s : State) : Quiet s s := fun _ => .refl _

theorem Quiet.of_feedback {s t : State} (h : t.feedback = s.feedback) : Quiet s t := fun l => by
  rw [h]
  exact .refl _

theorem Quiet.trans {s t u : State} (h : Quiet s t) (k : Quiet t u) : Quiet s u := fun l => (h l).trans (k l)

theorem Quiet.foldl {α : Type} {f : State → α → State} (hf : ∀ s a, Quiet s (f s a)) (l : List α) (s : State) :
    Quiet s (l.foldl f s) := by
  induction l generalizing s with
  | nil => exact Quiet.refl s
  | cons a l ih => exact (hf s a).trans (ih (f s a))

theorem quiet_setFeedback (s : State) (l : Leaf) {x : FeedbackRecord} (h : (s.feedback.get l).Quiet x) :
    Quiet s (s.setFeedback l x) := fun m => by
  rw [State.setFeedback_feedback, Four.get_set]
  split
  next hm =>
    subst hm
    exact h
  next => exact .refl _

/-! ### Motors -/

theorem formedEstimate_of_pulse {s : State} {l : Leaf} (h : (s.feedback.get l).mode = .pulse) (dir : Dir) :
    formedEstimate s l dir = (s.feedback.get l).estimate := by
  unfold formedEstimate
  generalize s.feedback.get l = f at h
  obtain ⟨presence, mode, count, estimate, lastLine, watchdog, period, drift, probe⟩ := f
  obtain rfl : mode = .pulse := h
  rfl

theorem quiet_endedRecord (s : State) (l : Leaf) : (s.feedback.get l).Quiet (s.endedRecord l) :=
  ⟨rfl, rfl, fun h => formedEstimate_of_pulse h _⟩

theorem quiet_endPeriod (s : State) (l : Leaf) : Quiet s (s.endPeriod l) := by
  rw [endPeriod_eq]
  exact quiet_setFeedback s l (quiet_endedRecord s l)

theorem quiet_beginPeriod (s : State) (l : Leaf) (v : Speed) : Quiet s (s.beginPeriod l v) := by
  unfold State.beginPeriod
  rw [FeedbackRecord.beginPeriod_eq]
  exact quiet_setFeedback s l ⟨rfl, rfl, fun _ => rfl⟩

theorem quiet_switchOn (s : State) (l : Leaf) (v : Speed) : Quiet s (s.switchOn l v) := quiet_beginPeriod (s.setMember l _) l v

theorem quiet_offRecord (s : State) (l : Leaf) : (s.feedback.get l).Quiet (s.offRecord l) :=
  (quiet_endedRecord s l).trans ⟨rfl, rfl, fun _ => rfl⟩

theorem quiet_toRundown (s : State) (u : Leaf) (r : Run) (e : Ending) : Quiet s (s.toRundown u r e) := fun l => by
  rw [toRundown_eq]
  simp only [Four.get_ofFn]
  split
  · exact quiet_offRecord s l
  · exact .refl _

theorem quiet_held (s : State) (l : Leaf) (hold : MemberHold) : Quiet s (s.held l hold) :=
  quiet_setFeedback s l (quiet_offRecord s l)

theorem quiet_settleTimeout (s : State) (u : Leaf) (r : Run) : Quiet s (s.settleTimeout u r) :=
  .of_feedback (settleTimeout_feedback s u r)

theorem quiet_finishMember (s : State) (u : Leaf) (r : Run) (l : Leaf) : Quiet s (s.finishMember u r l) := by
  rw [finishMember_eq]
  split
  · exact (quiet_held s l .done).trans (quiet_toRundown _ u r _)
  · exact (quiet_held s l .done).trans (quiet_settleTimeout _ u r)

theorem quiet_beginProbing (s : State) (u : Leaf) (r : Run) (l : Leaf) : Quiet s (s.beginProbing u r l) := by
  have hmotor : Quiet s (s.probingMotor r l) := by
    unfold State.probingMotor
    split
    · exact quiet_switchOn s l _
    · exact Quiet.refl s
  unfold State.beginProbing
  dsimp only
  generalize s.probingMotor r l = t at hmotor
  exact (hmotor.trans (quiet_setFeedback (t.setMember l _) l (x := { t.feedback.get l with watchdog := none })
    ⟨rfl, rfl, fun _ => rfl⟩)).trans (quiet_settleTimeout _ u r)

theorem quiet_checkReach (s : State) (l : Leaf) : Quiet s (s.checkReach l) := by
  unfold State.checkReach
  split
  · exact Quiet.refl s
  · dsimp only
    split
    · split
      · exact quiet_beginProbing s _ _ l
      · exact quiet_finishMember s _ _ l
    · exact Quiet.refl s

/-! ### New pairs -/

theorem quiet_continueRun (s : State) (u : Leaf) (r : Run) (p : Pair) (aim : Aim) (b : Bool) : Quiet s (s.continueRun u r p aim b) := by
  have hspeed : Quiet s (s.changeSpeed r p.slot.speed) := by
    unfold State.changeSpeed
    split
    · exact Quiet.refl s
    · refine Quiet.foldl (fun t l => ?_) r.members s
      split
      · exact (quiet_endPeriod t l).trans (quiet_beginPeriod _ l _)
      · exact Quiet.refl t
  exact hspeed

theorem quiet_resumeHeld (s : State) (r : Run) (target : Nat) : Quiet s (s.resumeHeld r target) := by
  refine Quiet.foldl (fun t l => ?_) r.members s
  split
  · split
    · exact quiet_switchOn t l _
    · exact Quiet.refl t
  · exact Quiet.refl t

theorem quiet_stopForPair (s : State) (u : Leaf) (r : Run) (p : Pair) (b : Bool) (e : Ending) :
    Quiet s (s.stopForPair u r p b e) := quiet_toRundown (s.setUnit u _) u r e

theorem quiet_retarget (s : State) (u : Leaf) (r : Run) (p : Pair) (target : Nat) : Quiet s (s.retarget u r p target) := by
  unfold State.retarget
  dsimp only
  split
  · split
    · exact quiet_continueRun s u r p _ _
    · exact quiet_stopForPair s u r p _ _
  · split
    · exact ((quiet_continueRun s u r p _ _).trans (quiet_resumeHeld _ _ _)).trans (Quiet.foldl quiet_checkReach _ _)
    · split
      · exact quiet_continueRun s u r p _ _
      · exact quiet_stopForPair s u r p _ _

theorem quiet_retargetUnref (s : State) (u : Leaf) (r : Run) (p : Pair) (target : Nat) :
    Quiet s (s.retargetUnref u r p target) := by
  unfold State.retargetUnref
  split
  · exact quiet_continueRun s u r p _ _
  · exact quiet_stopForPair s u r p _ _

theorem quiet_takeRunning (s : State) (u : Leaf) (r : Run) (p : Pair) : Quiet s (s.takeRunning u r p) := by
  unfold State.takeRunning
  split
  · exact quiet_stopForPair s u r p _ _
  split
  · exact quiet_stopForPair s u r p _ _
  split
  · exact quiet_stopForPair s u r p _ _
  split
  · exact quiet_retarget s u r p _
  · exact quiet_retargetUnref s u r p _
  · exact quiet_retargetUnref s u r p _

theorem takeStarting_feedback (s : State) (u : Leaf) (r : Run) (p : Pair) : (s.takeStarting u r p).feedback = s.feedback := by
  unfold State.takeStarting
  dsimp only
  generalize (if (s.units.get u).outOfService then p.slot.fireClass else s.wantsRun u p) = needs
  split <;> rfl

theorem quiet_takePair (s : State) (u : Leaf) (p : Pair) : Quiet s (s.takePair u p) := by
  have hset : Quiet s (s.setUnit u ((s.units.get u).withPair p)) := .of_feedback rfl
  unfold State.takePair
  dsimp only
  generalize s.setUnit u ((s.units.get u).withPair p) = t at hset
  split
  · exact hset
  · split <;> exact hset
  · split
    · exact hset
    · split
      · exact hset
      · exact hset.trans (.of_feedback (takeStarting_feedback t u _ p))
      · exact hset.trans (quiet_takeRunning t u _ p)

theorem quiet_handPair (s : State) (u : Leaf) : Quiet s (s.handPair u) := by
  unfold State.handPair
  split
  · exact quiet_takePair s u _
  · exact Quiet.refl s

theorem judge_feedback (s : State) (u : Leaf) : (s.judge u).feedback = s.feedback := by
  unfold State.judge
  split <;> rfl

theorem quiet_preempt (s : State) (u : Leaf) (r : Run) : Quiet s (s.preempt u r) := by
  unfold State.preempt
  split
  · exact quiet_toRundown s u r _
  · split
    · exact .of_feedback rfl
    · exact (quiet_handPair (s.placeAtRest u) u).trans (.of_feedback (judge_feedback _ u))

/-! ### The drive -/

/-- A record after the drive: a probe owed may have been granted, nothing else of it has changed. -/
structure FeedbackRecord.Settled (now : Nat) (f g : FeedbackRecord) : Prop where
  probe : g.probe = f.probe ∨ (f.probe = .requested ∧ g.probe = .settle (now + 50))
  mode : g.mode = f.mode
  estimate : f.mode = .pulse → g.estimate = f.estimate

theorem FeedbackRecord.Quiet.settled {f g : FeedbackRecord} (h : f.Quiet g) (now : Nat) : f.Settled now g :=
  ⟨.inl h.probe, h.mode, h.estimate⟩

theorem FeedbackRecord.Settled.trans {now : Nat} {f g k : FeedbackRecord} (h : f.Settled now g) (h' : g.Settled now k) :
    f.Settled now k where
  probe := by
    obtain hp | ⟨hf, hg⟩ := h.probe
    · rw [← hp]
      exact h'.probe
    · obtain hk | ⟨hg', -⟩ := h'.probe
      · exact .inr ⟨hf, hk.trans hg⟩
      · rw [hg] at hg'
        cases hg'
  mode := h'.mode.trans h.mode
  estimate := fun hm => (h'.estimate (h.mode.trans hm)).trans (h.estimate hm)

theorem probeWaiting_requested {s : State} {l : Leaf} (h : s.probeWaiting = some l) : (s.feedback.get l).probe = .requested :=
  of_decide_eq_true (List.find?_some (p := fun l => decide ((s.feedback.get l).probe = .requested)) h)

/-- Everything one step of serving can do to the feedback records. -/
theorem settled_serveStep {s t : State} (h : s.serveStep = some t) (l : Leaf) :
    (s.feedback.get l).Settled s.now (t.feedback.get l) := by
  have hgrant {k : Leaf} (hk : s.probeWaiting = some k) : (s.feedback.get l).Settled s.now ((s.grantProbe k).feedback.get l) := by
    unfold State.grantProbe
    rw [State.setFeedback_feedback, Four.get_set]
    split
    next hl =>
      subst hl
      exact ⟨.inr ⟨probeWaiting_requested hk, rfl⟩, rfl, fun _ => rfl⟩
    next => exact (FeedbackRecord.Quiet.refl _).settled _
  unfold State.serveStep at h
  split at h
  next k hk _ =>
    cases h
    exact hgrant hk
  next =>
    split at h
    · cases h
    next u _ =>
      dsimp only at h
      split at h
      · split at h
        · cases h
          rw [startUnit_feedback]
          exact (FeedbackRecord.Quiet.refl _).settled _
        · cases h
      · split at h
        · obtain ⟨c, -, rfl⟩ := Option.map_eq_some_iff.1 h
          exact (quiet_preempt s c.1 c.2 l).settled _
        · cases h

theorem settled_drive (s : State) (l : Leaf) : (s.feedback.get l).Settled s.now (s.drive.feedback.get l) := by
  have hpairs : Quiet s s.handPairs.handPairs.judgeAll :=
    ((Quiet.foldl quiet_handPair N4.all s).trans (Quiet.foldl quiet_handPair N4.all _)).trans
      (Quiet.foldl (fun t u => .of_feedback (judge_feedback t u)) N4.all _)
  have hnow : s.handPairs.handPairs.judgeAll.now = s.now :=
    (((driven_handPairs s).trans (driven_handPairs _)).trans (driven_judgeAll _)).now
  exact (serve_induction (P := fun t => t.now = s.now ∧ (s.feedback.get l).Settled s.now (t.feedback.get l))
    (fun t t' ht hP => ⟨(driven_serveStep ht).now.trans hP.1, hP.2.trans (hP.1 ▸ settled_serveStep ht l)⟩)
    ⟨hnow, (hpairs l).settled _⟩).2

theorem reform_now (s : State) : s.reform.now = s.now := by
  have h := congrArg State.now (reformed_reform s).weather
  exact h

theorem composeDue_feedback (s b : State) (r : Bool) : (s.composeDue b r).feedback = s.feedback := by
  unfold State.composeDue
  split <;> rfl

theorem settled_close (s b : State) (r : Bool) (l : Leaf) : (s.feedback.get l).Settled s.now ((s.close b r).feedback.get l) := by
  unfold State.close
  split
  · have h := settled_drive s.reform l
    rw [reform_feedback, reform_now] at h
    rw [composeDue_feedback]
    exact h
  · exact (FeedbackRecord.Quiet.refl _).settled _

end Sys2Proof.Machine
end

section
/-! SUPPORT. A unit at rest through the end of an event: no other unit's operation writes its record, and one whose probes have not
ended stays at rest. -/

namespace Sys2Proof.Machine

/-! ### Other units' operations -/

/-- Where the unit is at rest, its record is as it was. -/
def RestKept (u : Leaf) (s t : State) : Prop := (s.units.get u).status = .rest → t.units.get u = s.units.get u

theorem RestKept.of_units {u : Leaf} {s t : State} (h : t.units = s.units) : RestKept u s t := fun _ => by rw [h]

theorem RestKept.refl (u : Leaf) (s : State) : RestKept u s s := fun _ => rfl

theorem RestKept.trans {u : Leaf} {s t v : State} (h : RestKept u s t) (k : RestKept u t v) : RestKept u s v := fun hs => by
  have ht := h hs
  rw [k (by rw [ht]; exact hs), ht]

theorem RestKept.foldl {α : Type} {u : Leaf} {f : State → α → State} (ls : List α) (hf : ∀ s, ∀ a ∈ ls, RestKept u s (f s a))
    (s : State) : RestKept u s (ls.foldl f s) := by
  induction ls generalizing s with
  | nil => exact RestKept.refl u s
  | cons a l ih => exact (hf s a List.mem_cons_self).trans (ih (fun t b hb => hf t b (List.mem_cons_of_mem _ hb)) _)

theorem restKept_setUnit {u w : Leaf} (hw : u ≠ w) (s : State) (x : UnitRecord) : RestKept u s (s.setUnit w x) := fun _ => by
  rw [State.setUnit_units, Four.get_set, if_neg hw]

theorem restKept_toRundown {u w : Leaf} (hw : u ≠ w) (s : State) (r : Run) (e : Ending) : RestKept u s (s.toRundown w r e) :=
  fun _ => by rw [toRundown_units, Four.get_set, if_neg hw]

theorem restKept_settleTimeout {u w : Leaf} (hw : u ≠ w) (s : State) (r : Run) : RestKept u s (s.settleTimeout w r) := by
  unfold State.settleTimeout
  split
  · exact restKept_setUnit hw s _
  · exact RestKept.refl u s

theorem restKept_finishMember {u w : Leaf} (hw : u ≠ w) (s : State) (r : Run) (l : Leaf) :
    RestKept u s (s.finishMember w r l) := by
  have hheld : RestKept u s (s.held l .done) := .of_units rfl
  rw [finishMember_eq]
  split
  · exact hheld.trans (restKept_toRundown hw _ r _)
  · exact hheld.trans (restKept_settleTimeout hw _ r)

theorem restKept_beginProbing {u w : Leaf} (hw : u ≠ w) (s : State) (r : Run) (l : Leaf) :
    RestKept u s (s.beginProbing w r l) := by
  have hmotor : RestKept u s (s.probingMotor r l) := .of_units (probingMotor_units s r l)
  unfold State.beginProbing
  dsimp only
  generalize s.probingMotor r l = t at hmotor
  exact hmotor.trans (restKept_settleTimeout hw (State.setFeedback (t.setMember l _) l _) r)

theorem restKept_checkReach (u : Leaf) (s : State) (l : Leaf) : RestKept u s (s.checkReach l) := by
  by_cases hw : u = s.cfg.leader l
  · intro hrest
    unfold State.checkReach
    split
    · rfl
    next r hr =>
      have hstatus := (runOf_eq_some_iff.1 hr).1
      unfold State.unitOf at hstatus
      rw [← hw, hrest] at hstatus
      cases hstatus
  · unfold State.checkReach
    split
    · exact RestKept.refl u s
    · dsimp only
      split
      · split
        · exact restKept_beginProbing hw s _ l
        · exact restKept_finishMember hw s _ l
      · exact RestKept.refl u s

theorem restKept_continueRun {u w : Leaf} (hw : u ≠ w) (s : State) (r : Run) (p : Pair) (aim : Aim) (b : Bool) :
    RestKept u s (s.continueRun w r p aim b) :=
  (RestKept.of_units (changeSpeed_units s r p.slot.speed)).trans (restKept_setUnit hw _ _)

theorem restKept_resumeHeld (u : Leaf) (s : State) (r : Run) (target : Nat) : RestKept u s (s.resumeHeld r target) := by
  refine RestKept.foldl r.members (fun t l _ => ?_) s
  split
  · split <;> exact .of_units rfl
  · exact RestKept.refl u t

theorem restKept_stopForPair {u w : Leaf} (hw : u ≠ w) (s : State) (r : Run) (p : Pair) (b : Bool) (e : Ending) :
    RestKept u s (s.stopForPair w r p b e) := (restKept_setUnit hw s _).trans (restKept_toRundown hw _ r e)

theorem restKept_retarget {u w : Leaf} (hw : u ≠ w) (s : State) (r : Run) (p : Pair) (target : Nat) :
    RestKept u s (s.retarget w r p target) := by
  unfold State.retarget
  dsimp only
  split
  · split
    · exact restKept_continueRun hw s r p _ _
    · exact restKept_stopForPair hw s r p _ _
  · split
    · exact ((restKept_continueRun hw s r p _ _).trans (restKept_resumeHeld u _ _ _)).trans
        (RestKept.foldl _ (fun t l _ => restKept_checkReach u t l) _)
    · split
      · exact restKept_continueRun hw s r p _ _
      · exact restKept_stopForPair hw s r p _ _

theorem restKept_retargetUnref {u w : Leaf} (hw : u ≠ w) (s : State) (r : Run) (p : Pair) (target : Nat) :
    RestKept u s (s.retargetUnref w r p target) := by
  unfold State.retargetUnref
  split
  · exact restKept_continueRun hw s r p _ _
  · exact restKept_stopForPair hw s r p _ _

theorem restKept_takeRunning {u w : Leaf} (hw : u ≠ w) (s : State) (r : Run) (p : Pair) :
    RestKept u s (s.takeRunning w r p) := by
  unfold State.takeRunning
  split
  · exact restKept_stopForPair hw s r p _ _
  split
  · exact restKept_stopForPair hw s r p _ _
  split
  · exact restKept_stopForPair hw s r p _ _
  split
  · exact restKept_retarget hw s r p _
  · exact restKept_retargetUnref hw s r p _
  · exact restKept_retargetUnref hw s r p _

theorem restKept_placeAtRest {u w : Leaf} (hw : u ≠ w) (s : State) : RestKept u s (s.placeAtRest w) := restKept_setUnit hw s _

theorem restKept_takeStarting {u w : Leaf} (hw : u ≠ w) (s : State) (r : Run) (p : Pair) :
    RestKept u s (s.takeStarting w r p) := by
  unfold State.takeStarting
  dsimp only
  generalize (if (s.units.get w).outOfService then p.slot.fireClass else s.wantsRun w p) = needs
  split
  · exact restKept_setUnit hw s _
  · exact restKept_placeAtRest hw s

theorem restKept_handPair {u w : Leaf} (hw : u ≠ w) (s : State) : RestKept u s (s.handPair w) := by
  unfold State.handPair
  split
  · have hset := restKept_setUnit hw s ((s.units.get w).withPair (s.resultOf w))
    unfold State.takePair
    dsimp only
    generalize s.setUnit w ((s.units.get w).withPair (s.resultOf w)) = t at hset
    split
    · exact hset
    · split
      · exact hset
      · exact hset.trans (restKept_placeAtRest hw t)
    · split
      · exact hset
      · split
        · exact hset
        · exact hset.trans (restKept_takeStarting hw t _ _)
        · exact hset.trans (restKept_takeRunning hw t _ _)
  · exact RestKept.refl u s

theorem restKept_judge {u w : Leaf} (hw : u ≠ w) (s : State) : RestKept u s (s.judge w) := by
  unfold State.judge
  split
  · exact restKept_setUnit hw s _
  · exact RestKept.refl u s

theorem restKept_startUnit {u w : Leaf} (hw : u ≠ w) (s : State) : RestKept u s (s.startUnit w) := fun _ => by
  obtain ⟨r, -, hunits⟩ := startUnit_eq s w
  rw [hunits, Four.get_set, if_neg hw]

theorem restKept_preempt {u w : Leaf} (hw : u ≠ w) (s : State) (r : Run) : RestKept u s (s.preempt w r) := by
  unfold State.preempt
  split
  · exact restKept_toRundown hw s r _
  · split
    · exact restKept_setUnit hw s _
    · exact ((restKept_placeAtRest hw s).trans (restKept_handPair hw _)).trans (restKept_judge hw _)

/-! ### A unit whose probes have not ended -/

theorem needsRun_of_unprobed {s : State} {u m : Leaf} (hm : m ∈ s.cfg.membersOf u)
    (h : (s.feedback.get m).presence = .unprobed) : s.needsRun u = false := by
  rw [Bool.eq_false_iff]
  intro hneeds
  exact ((needsRun_iff s u).1 hneeds).1 m hm h

theorem needsRun_of_driven {s t : State} (h : Driven s t) {u m : Leaf} (hm : m ∈ s.cfg.membersOf u)
    (hp : (s.feedback.get m).presence = .unprobed) : t.needsRun u = false :=
  needsRun_of_unprobed (by rw [h.sameInputs.cfg]; exact hm) ((h.presence m).trans hp)

/-- The drive has come from `s` to `t`, and the unit rests as before but for the pair it takes. -/
structure RestsOn (u : Leaf) (s t : State) : Prop where
  driven : Driven s t
  status : (t.units.get u).status = .rest
  table : t.tables.get u = s.tables.get u
  lastRunFailed : (t.units.get u).lastRunFailed = (s.units.get u).lastRunFailed
  retryHold : (s.units.get u).retryHold = none → (t.units.get u).retryHold = none
  owed : (s.units.get u).referenceOwed = true → (t.units.get u).referenceOwed = true ∨
    (s.cfg.isUnit u = true ∧ (s.resultOf u).slot.fireClass = true)

theorem RestsOn.refl {u : Leaf} {s : State} (h : (s.units.get u).status = .rest) : RestsOn u s s :=
  ⟨Driven.refl s, h, rfl, rfl, id, .inl⟩

theorem RestsOn.other {u : Leaf} {s t v : State} (h : RestsOn u s t) (hd : Driven t v) (htable : v.tables.get u = t.tables.get u)
    (hunit : v.units.get u = t.units.get u) : RestsOn u s v where
  driven := h.driven.trans hd
  status := by rw [hunit, h.status]
  table := htable.trans h.table
  lastRunFailed := by rw [hunit, h.lastRunFailed]
  retryHold := by
    rw [hunit]
    exact h.retryHold
  owed := by
    rw [hunit]
    exact h.owed

theorem RestsOn.resultOf {u : Leaf} {s t : State} (h : RestsOn u s t) : t.resultOf u = s.resultOf u :=
  h.driven.sameInputs.resultOf h.table

theorem RestsOn.handPair {u : Leaf} {s t : State} (h : RestsOn u s t) (w : Leaf) : RestsOn u s (t.handPair w) := by
  by_cases hw : u = w
  · subst hw
    have hd := driven_handPair t u
    unfold State.handPair at hd ⊢
    split at hd
    next hcond =>
      rw [if_pos hcond]
      rw [takePair_of_rest h.status] at hd ⊢
      have hunit : ((t.setUnit u ((t.units.get u).withPair (t.resultOf u))).units.get u) = (t.units.get u).withPair (t.resultOf u) := by
        rw [State.setUnit_units, Four.get_set, if_pos rfl]
      refine ⟨h.driven.trans hd, ?_, h.table, ?_, fun hs => ?_, fun hs => ?_⟩
      · rw [hunit]
        exact h.status
      · rw [hunit]
        exact h.lastRunFailed
      · rw [hunit]
        unfold UnitRecord.withPair
        dsimp only
        rw [h.retryHold hs]
      · rw [hunit, ← h.resultOf]
        obtain howed | ⟨hunit', hfire⟩ := h.owed hs
        · have hu : s.cfg.isUnit u = true := h.driven.sameInputs.cfg ▸ (Bool.and_eq_true_iff.1 hcond).1
          cases hfire : (t.resultOf u).slot.fireClass with
          | true => exact .inr ⟨hu, rfl⟩
          | false =>
            refine .inl ?_
            unfold UnitRecord.withPair
            dsimp only
            rw [howed, hfire]
            rfl
        · exact .inr ⟨hunit', by rw [h.resultOf]; exact hfire⟩
    next hcond =>
      rw [if_neg hcond]
      exact h
  · exact h.other (driven_handPair t w) ((movedAt_handPair t w).table u hw) (restKept_handPair hw t h.status)

theorem RestsOn.foldl {u : Leaf} {s : State} {f : State → Leaf → State} (hf : ∀ t w, RestsOn u s t → RestsOn u s (f t w))
    (ls : List Leaf) {t : State} (h : RestsOn u s t) : RestsOn u s (ls.foldl f t) := by
  induction ls generalizing t with
  | nil => exact h
  | cons w ls ih => exact ih (hf t w h)

theorem RestsOn.judge {u m : Leaf} {s t : State} (hm : m ∈ s.cfg.membersOf u) (hp : (s.feedback.get m).presence = .unprobed)
    (h : RestsOn u s t) (w : Leaf) : RestsOn u s (t.judge w) := by
  by_cases hw : u = w
  · subst hw
    have hjudge : t.judge u = t := by
      unfold State.judge
      rw [needsRun_of_driven h.driven hm hp, if_neg (by simp)]
    rw [hjudge]
    exact h
  · exact h.other (driven_judge t w) ((movedAt_judge t w).table u hw) (restKept_judge hw t h.status)

theorem RestsOn.serveStep {u : Leaf} {s t v : State} (h : RestsOn u s t) (hv : t.serveStep = some v) : RestsOn u s v := by
  obtain ⟨l, -, rfl⟩ | ⟨w, hqueue, -, rfl⟩ | ⟨w, r, hr, rfl⟩ := serveStep_takes hv
  · exact h.other (driven_grantProbe t l) rfl rfl
  · have hw : u ≠ w := by
      rintro rfl
      obtain ⟨-, since, hwaiting⟩ := mem_startQueue_iff.1 hqueue
      rw [h.status] at hwaiting
      cases hwaiting
    exact h.other (driven_startUnit t w) (by rw [startUnit_tables]) (restKept_startUnit hw t h.status)
  · have hw : u ≠ w := by
      rintro rfl
      rw [h.status] at hr
      cases hr
    exact h.other (driven_preempt t w r) ((movedAt_preempt hr).table u hw) (restKept_preempt hw t r h.status)

/-- A unit at rest whose probes have not ended is at rest when the drive has settled. -/
theorem restsOn_drive {u m : Leaf} {s : State} (hm : m ∈ s.cfg.membersOf u) (hp : (s.feedback.get m).presence = .unprobed)
    (hrest : (s.units.get u).status = .rest) : RestsOn u s s.drive := by
  have hpairs : RestsOn u s s.handPairs.handPairs :=
    RestsOn.foldl (fun _ w h => h.handPair w) _ (RestsOn.foldl (fun _ w h => h.handPair w) _ (RestsOn.refl hrest))
  exact serve_induction (P := RestsOn u s) (fun _ _ ht h => h.serveStep ht)
    (RestsOn.foldl (fun _ w h => h.judge hm hp w) N4.all hpairs)

/-! ### A unit that only waits -/

/-- At rest, waiting, or in STARTING. -/
def State.AtHand (s : State) (u : Leaf) : Prop :=
  (s.units.get u).status = .rest ∨ (∃ e, (s.units.get u).status = .waiting e) ∨
    ∃ r due, (s.units.get u).status = .inFlight r ∧ r.stage = .starting due

/-- An operation of a unit at hand: no feedback record is written, and a rest position handed is the unit's position. -/
structure OwnStep (u : Leaf) (s t : State) : Prop where
  cfg : t.cfg = s.cfg
  feedback : t.feedback = s.feedback
  atHand : s.AtHand u → t.AtHand u
  rest : (t.tables.get u).restPosition = (s.tables.get u).restPosition ∨ (t.tables.get u).restPosition = s.unitPosition u

theorem unitPosition_of_feedback {s t : State} (hcfg : t.cfg = s.cfg) (h : t.feedback = s.feedback) (u : Leaf) :
    t.unitPosition u = s.unitPosition u :=
  unitPosition_congr hcfg fun m _ => .of_eq (by rw [h])

theorem OwnStep.refl (u : Leaf) (s : State) : OwnStep u s s := ⟨rfl, rfl, id, .inl rfl⟩

theorem OwnStep.trans {u : Leaf} {s t v : State} (h : OwnStep u s t) (k : OwnStep u t v) : OwnStep u s v where
  cfg := k.cfg.trans h.cfg
  feedback := k.feedback.trans h.feedback
  atHand := fun hs => k.atHand (h.atHand hs)
  rest := by
    rw [← unitPosition_of_feedback h.cfg h.feedback]
    obtain hk | hk := k.rest
    · rw [hk, unitPosition_of_feedback h.cfg h.feedback]
      exact h.rest
    · exact .inr hk

/-- An update of the unit's record alone. -/
theorem ownStep_setUnit {s : State} {u : Leaf} {x : UnitRecord}
    (h : s.AtHand u → (s.setUnit u x).AtHand u) : OwnStep u s (s.setUnit u x) := ⟨rfl, rfl, h, .inl rfl⟩

theorem atHand_of_status {s t : State} {u : Leaf} (h : (t.units.get u).status = (s.units.get u).status) (hs : s.AtHand u) :
    t.AtHand u := by
  unfold State.AtHand
  rw [h]
  exact hs

theorem placeAtRest_restPosition (s : State) (u : Leaf) :
    ((s.placeAtRest u).tables.get u).restPosition = s.unitPosition u := by
  unfold State.placeAtRest
  rw [State.handRest_tables, Four.get_set, if_pos rfl]
  exact unitPosition_of_feedback rfl rfl u

theorem ownStep_placeAtRest (s : State) (u : Leaf) : OwnStep u s (s.placeAtRest u) :=
  ⟨rfl, rfl, fun _ => .inl (placeAtRest_status s u), .inr (placeAtRest_restPosition s u)⟩

theorem ownStep_takePair {s : State} {u : Leaf} (hs : s.AtHand u) (p : Pair) : OwnStep u s (s.takePair u p) := by
  have hset : OwnStep u s (s.setUnit u ((s.units.get u).withPair p)) := ownStep_setUnit (atHand_of_status (by
    rw [State.setUnit_units, Four.get_set, if_pos rfl]
    rfl))
  unfold State.takePair
  dsimp only
  generalize ht : s.setUnit u ((s.units.get u).withPair p) = t at hset
  have hstatus : (t.units.get u).status = ((s.units.get u).withPair p).status := by
    rw [← ht, State.setUnit_units, Four.get_set, if_pos rfl]
  split
  · exact hset
  · split
    · exact hset
    · exact hset.trans (ownStep_placeAtRest t u)
  next r hr =>
    split
    · exact hset
    · split
      · exact hset
      · unfold State.takeStarting
        dsimp only
        generalize (if (t.units.get u).outOfService then p.slot.fireClass else t.wantsRun u p) = needs
        split
        · refine hset.trans (ownStep_setUnit fun _ => .inr (.inr ?_))
          exact ⟨_, _, by rw [State.setUnit_units, Four.get_set, if_pos rfl], rfl⟩
        · exact hset.trans (ownStep_placeAtRest t u)
      next hst =>
        obtain h | ⟨e, h⟩ | ⟨q, due, h, hq⟩ := hset.atHand hs
        · rw [hstatus, hr] at h
          cases h
        · rw [hstatus, hr] at h
          cases h
        · rw [hstatus, hr] at h
          cases h
          rw [hst] at hq
          cases hq

theorem ownStep_handPair {s : State} {u : Leaf} (hs : s.AtHand u) : OwnStep u s (s.handPair u) := by
  unfold State.handPair
  split
  · exact ownStep_takePair hs _
  · exact OwnStep.refl u s

theorem ownStep_setWaiting (s : State) (u : Leaf) (e : Nat) : OwnStep u s (s.setStatus u (.waiting e)) :=
  ownStep_setUnit fun _ => .inr (.inl ⟨e, by rw [State.setUnit_units, Four.get_set, if_pos rfl]⟩)

theorem ownStep_judge (s : State) (u : Leaf) : OwnStep u s (s.judge u) := by
  unfold State.judge
  split
  · exact ownStep_setWaiting s u _
  · exact OwnStep.refl u s

theorem ownStep_startUnit (s : State) (u : Leaf) : OwnStep u s (s.startUnit u) where
  cfg := (driven_startUnit s u).sameInputs.cfg
  feedback := startUnit_feedback s u
  atHand := fun _ => .inr (.inr ⟨_, _, by
    unfold State.startUnit
    dsimp only
    rw [readyMembers_units, State.setUnit_units, Four.get_set, if_pos rfl], rfl⟩)
  rest := .inl (by rw [startUnit_tables])

theorem ownStep_preempt {s : State} {u : Leaf} {r : Run} (hst : r.stage.isRunning = false) : OwnStep u s (s.preempt u r) := by
  unfold State.preempt
  rw [hst, if_neg (by decide)]
  split
  · exact ownStep_setWaiting s u _
  · exact ((ownStep_placeAtRest s u).trans (ownStep_handPair (.inl (placeAtRest_status s u)))).trans (ownStep_judge _ u)

/-- A record but for its probe. -/
def FeedbackRecord.ButProbe (f g : FeedbackRecord) : Prop := ∃ p, g = { f with probe := p }

theorem FeedbackRecord.ButProbe.samePlace {f g : FeedbackRecord} (h : f.ButProbe g) : f.SamePlace g := by
  obtain ⟨p, rfl⟩ := h
  exact ⟨rfl, rfl, rfl, rfl⟩

/-- The drive has come from `s` to `t`, and the unit is at hand throughout: its leaves' records are as they were but for their
probes, and a rest position handed is the unit's position. -/
structure Waits (u : Leaf) (s t : State) : Prop where
  driven : Driven s t
  belongs : membersBelong t
  atHand : t.AtHand u
  places : ∀ m ∈ s.cfg.membersOf u, (s.feedback.get m).ButProbe (t.feedback.get m)
  rest : (t.tables.get u).restPosition = (s.tables.get u).restPosition ∨ (t.tables.get u).restPosition = s.unitPosition u

theorem Waits.refl {u : Leaf} {s : State} (hs : membersBelong s) (h : s.AtHand u) : Waits u s s :=
  ⟨Driven.refl s, hs, h, fun m _ => ⟨(s.feedback.get m).probe, rfl⟩, .inl rfl⟩

theorem Waits.unitPosition {u : Leaf} {s t : State} (h : Waits u s t) : t.unitPosition u = s.unitPosition u :=
  unitPosition_congr h.driven.sameInputs.cfg fun m hm => (h.places m hm).samePlace

theorem Waits.own {u : Leaf} {s t v : State} (h : Waits u s t) (k : OwnStep u t v) (hd : Driven t v) (hb : membersBelong v) :
    Waits u s v where
  driven := h.driven.trans hd
  belongs := hb
  atHand := k.atHand h.atHand
  places := by
    rw [k.feedback]
    exact h.places
  rest := by
    rw [← h.unitPosition]
    obtain hk | hk := k.rest
    · rw [hk, h.unitPosition]
      exact h.rest
    · exact .inr hk

/-- The members of a single leaf or of a gang's leader have it as their leader. -/
theorem leader_of_mem_membersOf {c : Settings} {u m : Leaf} (hu : c.leader u = u) (hm : m ∈ c.membersOf u) : c.leader m = u := by
  unfold Settings.membersOf at hm
  split at hm
  next hg =>
    obtain rfl | hm := List.mem_cons.1 hm
    · exact hu
    · rw [List.mem_singleton.1 hm]
      revert hu hg
      unfold Settings.leader
      cases u <;> simp [partner, pairLeader, Settings.ganged] <;> intros <;> simp_all
  next =>
    rw [List.mem_singleton.1 hm]
    exact hu

theorem Waits.other {u w : Leaf} {s t v : State} (hu : s.cfg.leader u = u) (h : Waits u s t) (hw : u ≠ w) (k : Local w t v)
    (hd : Driven t v) : Waits u s v where
  driven := h.driven.trans hd
  belongs := k.belongs_all h.belongs
  atHand := atHand_of_status (by rw [k.unit u hw]) h.atHand
  places := fun m hm => by
    have hleader : t.cfg.leader m ≠ w := by
      rw [h.driven.sameInputs.cfg, leader_of_mem_membersOf hu hm]
      exact hw
    rw [(k.leaf m hleader).2]
    exact h.places m hm
  rest := by
    rw [k.table u hw]
    exact h.rest

theorem Waits.handPair {u : Leaf} {s t : State} (hu : s.cfg.leader u = u) (h : Waits u s t) (w : Leaf) :
    Waits u s (t.handPair w) := by
  have hlocal := local_handPair (h.belongs w)
  by_cases hw : u = w
  · subst hw
    exact h.own (ownStep_handPair h.atHand) (driven_handPair t u) (hlocal.belongs_all h.belongs)
  · exact h.other hu hw hlocal (driven_handPair t w)

theorem Waits.judge {u : Leaf} {s t : State} (hu : s.cfg.leader u = u) (h : Waits u s t) (w : Leaf) : Waits u s (t.judge w) := by
  by_cases hw : u = w
  · subst hw
    exact h.own (ownStep_judge t u) (driven_judge t u) ((local_judge t u).belongs_all h.belongs)
  · exact h.other hu hw (local_judge t w) (driven_judge t w)

theorem Waits.serveStep {u : Leaf} {s t v : State} (hu : s.cfg.leader u = u) (h : Waits u s t) (hv : t.serveStep = some v) :
    Waits u s v := by
  have hb := membersBelong_serveStep h.belongs hv
  obtain ⟨l, -, rfl⟩ | ⟨w, hqueue, -, rfl⟩ | ⟨w, r, hr, rfl⟩ := serveStep_takes hv
  · refine ⟨h.driven.trans (driven_grantProbe t l), hb, h.atHand, fun m hm => ?_, h.rest⟩
    obtain ⟨p, hp⟩ := h.places m hm
    unfold State.grantProbe
    rw [State.setFeedback_feedback, Four.get_set]
    split
    next hl =>
      rw [← hl, hp]
      exact ⟨_, rfl⟩
    next => exact ⟨p, hp⟩
  · by_cases hw : u = w
    · subst hw
      exact h.own (ownStep_startUnit t u) (driven_startUnit t u) hb
    · exact h.other hu hw (local_startUnit (mem_startQueue_iff.1 hqueue).1) (driven_startUnit t w)
  · by_cases hw : u = w
    · subst hw
      have hst : r.stage.isRunning = false := by
        obtain hs | ⟨e, hs⟩ | ⟨q, due, hs, hq⟩ := h.atHand
        · rw [hs] at hr
          cases hr
        · rw [hs] at hr
          cases hr
        · rw [hs] at hr
          cases hr
          rw [hq]
          rfl
      exact h.own (ownStep_preempt hst) (driven_preempt t u r) hb
    · exact h.other hu hw (local_preempt (h.belongs w r hr)) (driven_preempt t w r)

theorem Waits.foldl {u : Leaf} {s : State} {f : State → Leaf → State} (hf : ∀ t w, Waits u s t → Waits u s (f t w))
    (ls : List Leaf) {t : State} (h : Waits u s t) : Waits u s (ls.foldl f t) := by
  induction ls generalizing t with
  | nil => exact h
  | cons w ls ih => exact ih (hf t w h)

/-- A unit at hand is at hand when the drive has settled. -/
theorem waits_drive {u : Leaf} {s : State} (hs : membersBelong s) (hu : s.cfg.leader u = u) (h : s.AtHand u) : Waits u s s.drive := by
  have hpairs : Waits u s s.handPairs.handPairs :=
    Waits.foldl (fun _ w k => k.handPair hu w) _ (Waits.foldl (fun _ w k => k.handPair hu w) _ (Waits.refl hs h))
  exact serve_induction (P := Waits u s) (fun _ _ ht k => k.serveStep hu ht)
    (Waits.foldl (fun _ w k => k.judge hu w) N4.all hpairs)

end Sys2Proof.Machine
end

section
/-! SUPPORT. The presence probe: its pulse and its finding (R155, R164, R170). -/

namespace Sys2Proof.Machine

/-! ### The end of an event, seen from a unit -/

theorem reform_tables (s : State) : s.reform.tables = s.tables := by
  have h := congrArg State.tables (reformed_reform s).weather
  exact h

/-- A unit at hand through the end of an event. -/
theorem waits_close {u : Leaf} {s : State} (hs : s.phase = .running) (hb : membersBelong s) (hu : s.cfg.leader u = u)
    (h : s.AtHand u) (before : State) (request : Bool) :
    let t := s.close before request
    t.AtHand u ∧ (∀ m ∈ s.cfg.membersOf u, (s.feedback.get m).ButProbe (t.feedback.get m)) ∧
      t.unitPosition u = s.unitPosition u ∧
      ((t.tables.get u).restPosition = (s.tables.get u).restPosition ∨ (t.tables.get u).restPosition = s.unitPosition u) := by
  have hwaits := waits_drive (membersBelong_reform hb) (u := u) (by rw [reform_cfg]; exact hu)
    (atHand_of_status (by rw [reform_units]) h)
  have hposition : s.reform.unitPosition u = s.unitPosition u := unitPosition_of_feedback (reform_cfg s) (reform_feedback s) u
  obtain ⟨hdriven, -, hhand, hplaces, hrest⟩ := hwaits
  have hplaces' : ∀ m ∈ s.cfg.membersOf u, (s.feedback.get m).ButProbe (s.reform.drive.feedback.get m) := fun m hm => by
    have hm' := hplaces m (by rw [reform_cfg]; exact hm)
    rw [reform_feedback] at hm'
    exact hm'
  have hcfg : s.reform.drive.cfg = s.cfg := hdriven.sameInputs.cfg.trans (reform_cfg s)
  have hclose : s.close before request = s.reform.drive.composeDue before request := if_pos hs
  obtain ⟨htables, hunits, -, -⟩ := sameDrive_composeDue s.reform.drive before request
  have hfeedback := composeDue_feedback s.reform.drive before request
  have hcfg' : (s.reform.drive.composeDue before request).cfg = s.cfg := (sameInputs_composeDue _ _ _).cfg.trans hcfg
  rw [reform_tables, hposition] at hrest
  dsimp only
  rw [hclose, htables, hfeedback]
  exact ⟨atHand_of_status (by rw [hunits]) hhand, hplaces',
    unitPosition_congr hcfg' fun m hm => by
      rw [hfeedback]
      exact (hplaces' m hm).samePlace, hrest⟩

/-- A unit at rest whose probes have not ended, through the end of an event. -/
theorem rests_close {u m : Leaf} {s : State} (hs : s.phase = .running) (hm : m ∈ s.cfg.membersOf u)
    (hp : (s.feedback.get m).presence = .unprobed) (hrest : (s.units.get u).status = .rest) (before : State) (request : Bool) :
    let t := s.close before request
    (t.units.get u).status = .rest ∧ t.tables.get u = s.tables.get u ∧
      (t.units.get u).lastRunFailed = (s.units.get u).lastRunFailed ∧
      ((s.units.get u).retryHold = none → (t.units.get u).retryHold = none) ∧
      ((s.units.get u).referenceOwed = true → (t.units.get u).pair.slot.fireClass = false →
        (t.units.get u).referenceOwed = true) := by
  have hrests := restsOn_drive (s := s.reform) (u := u) (m := m) (by rw [reform_cfg]; exact hm) (by rw [reform_feedback]; exact hp)
    (by rw [reform_units]; exact hrest)
  have hpaired := drive_paired s.reform u
  have hresult := hrests.resultOf
  obtain ⟨hdriven, hstatus, htable, hfailed, hhold, howed⟩ := hrests
  rw [reform_units] at hfailed hhold howed
  rw [reform_tables] at htable
  have hclose : s.close before request = s.reform.drive.composeDue before request := if_pos hs
  obtain ⟨htables, hunits, -, -⟩ := sameDrive_composeDue s.reform.drive before request
  dsimp only
  rw [hclose]
  generalize s.reform.drive.composeDue before request = t at htables hunits
  rw [htables, hunits]
  refine ⟨hstatus, htable, hfailed, hhold, fun hs' hslot => (howed hs').resolve_right ?_⟩
  rintro ⟨hunit, hfire⟩
  have hunit' : s.reform.drive.cfg.isUnit u = true := by
    rw [hdriven.sameInputs.cfg]
    exact hunit
  rw [hpaired hunit', hresult, hfire] at hslot
  cases hslot

theorem leader_leader (c : Settings) (l : Leaf) : c.leader (c.leader l) = c.leader l := by
  unfold Settings.leader
  cases l <;> cases h : c.gang12 <;> cases k : c.gang34 <;> simp [Settings.ganged, pairLeader, h, k]

theorem mem_membersOf_leader (c : Settings) (l : Leaf) : l ∈ c.membersOf (c.leader l) := by
  unfold Settings.membersOf Settings.leader
  cases l <;> cases h : c.gang12 <;> cases k : c.gang34 <;> simp [Settings.ganged, pairLeader, partner, h, k]

/-! ### The pulse -/

theorem endPulse_eq (s : State) (l : Leaf) (p : Presence) : s.endPulse l p = s.setFeedback l { s.endedRecord l with
    probe := .none, presence := p } := by
  unfold State.endPulse
  rw [endPeriod_eq]
  simp only [State.setFeedback, Four.set_set, Four.get_set, if_true]

theorem driven_beginPulse (s : State) (l : Leaf) : Driven s (s.beginPulse l) :=
  (driven_setFeedback s l _ (by exact ⟨rfl, rfl, rfl, rfl⟩)).trans (driven_beginPeriod _ l _)

theorem beginPulse_eq (s : State) (l : Leaf) : s.beginPulse l = s.setFeedback l { s.feedback.get l with
    probe := .pulse (s.now + 50), lastLine := none, period := periodFrom (s.feedback.get l) s.now Config.probePeriodSpeed } := by
  unfold State.beginPulse State.beginPeriod
  rw [FeedbackRecord.beginPeriod_eq]
  simp only [State.setFeedback, Four.set_set, Four.get_set, if_true]
  rfl

/-- A state in which a probe has ended with a finding: the leaf's record, and the rest position where the unit's probes have ended. -/
theorem finishProbe_eq (s : State) (l : Leaf) (p : Presence) : s.finishProbe l p =
    if (s.endPulse l p).probesEnded (s.cfg.leader l) then (s.endPulse l p).handRest (s.cfg.leader l) else s.endPulse l p := rfl

theorem probesEnded_endPulse_iff {s : State} {l : Leaf} {p : Presence} (hp : p ≠ .unprobed) (u : Leaf) :
    (s.endPulse l p).probesEnded u = true ↔ ∀ m ∈ s.cfg.membersOf u, m = l ∨ (s.feedback.get m).presence ≠ .unprobed := by
  unfold State.probesEnded
  rw [endPulse_eq, List.all_eq_true]
  refine forall₂_congr fun m _ => ?_
  rw [State.setFeedback_feedback, Four.get_set, decide_eq_true_iff]
  split
  next h => simp [h, hp]
  next h => simp [h]

theorem endedRecord_of_pulse {s : State} {l : Leaf} {due : Nat} (h : (s.feedback.get l).probe = .pulse due) :
    s.endedRecord l = { s.feedback.get l with estimate := formedEstimate s l .closing, period := none } := by
  have hdir : s.drivenDirection l = some .closing := by
    unfold State.drivenDirection
    rw [h]
  unfold State.endedRecord
  rw [hdir]
  rfl

/-- What a probe's end leaves before its event closes. -/
structure ProbeFound (s a : State) (l : Leaf) (p : Presence) : Prop where
  phase : a.phase = s.phase
  cfg : a.cfg = s.cfg
  rest : a = { s with tables := a.tables, feedback := a.feedback }
  own : a.feedback.get l = { s.feedback.get l with
    estimate := formedEstimate s l .closing, period := none, probe := .none, presence := p }
  others : ∀ m, m ≠ l → a.feedback.get m = s.feedback.get m
  serviceTarget : ∀ u, (a.tables.get u).serviceTarget = (s.tables.get u).serviceTarget
  ended : (∀ m ∈ s.cfg.membersOf (s.cfg.leader l), m = l ∨ (s.feedback.get m).presence ≠ .unprobed) →
    (a.tables.get (s.cfg.leader l)).restPosition = a.unitPosition (s.cfg.leader l)
  notEnded : ¬ (∀ m ∈ s.cfg.membersOf (s.cfg.leader l), m = l ∨ (s.feedback.get m).presence ≠ .unprobed) → a.tables = s.tables

theorem probeFound_finishProbe {s : State} {l : Leaf} {p : Presence} {due : Nat} (hp : p ≠ .unprobed)
    (h : (s.feedback.get l).probe = .pulse due) : ProbeFound s (s.finishProbe l p) l p := by
  have hfeedback : (s.finishProbe l p).feedback = s.feedback.set l { s.feedback.get l with
      estimate := formedEstimate s l .closing, period := none, probe := .none, presence := p } := by
    rw [finishProbe_eq, endPulse_eq, endedRecord_of_pulse h]
    split <;> rfl
  have hcond := probesEnded_endPulse_iff (s := s) (l := l) hp (s.cfg.leader l)
  refine ⟨?_, ?_, ?_, ?_, fun m hm => ?_, fun u => ?_, fun hended => ?_, fun hended => ?_⟩
  · rw [finishProbe_eq, endPulse_eq]
    split <;> rfl
  · rw [finishProbe_eq, endPulse_eq]
    split <;> rfl
  · rw [finishProbe_eq, endPulse_eq]
    split <;> rfl
  · rw [hfeedback, Four.get_set, if_pos rfl]
  · rw [hfeedback, Four.get_set, if_neg hm]
  · rw [finishProbe_eq]
    split
    · rw [(driven_handRest _ _).serviceTarget u, endPulse_eq]
      rfl
    · rw [endPulse_eq]
      rfl
  · rw [finishProbe_eq, if_pos (hcond.2 hended), State.handRest_tables, Four.get_set, if_pos rfl]
    exact (unitPosition_of_feedback rfl rfl _).symm
  · rw [finishProbe_eq, if_neg fun h => hended (hcond.1 h), endPulse_eq]
    rfl

theorem drawsCurrent_iff (current : Nat) : drawsCurrent current = true ↔ 1 ≤ current := decide_eq_true_iff

/-- Settles O53. -/
theorem presenceProbeFindsItsLeaf : Obligations.PresenceProbeFindsItsLeaf := by
  intro s o l due current hs hl f found
  have hfound {c : Instr} {p : Presence} (hp : p ≠ .unprobed) (hprobe : f.probe = .pulse due)
      (hexec : exec c s = .next ((s.finishProbe l p).close s false).refresh) : Completes c s fun t => found t p := by
    have hfind := probeFound_finishProbe (s := s) (l := l) hp hprobe
    generalize s.finishProbe l p = a at hexec hfind
    have ha : a.phase = .running := hfind.phase.trans hs
    obtain ⟨-, hcfg, hrest, hown, hothers, hservice, hended, hnotEnded⟩ := hfind
    have hunits : a.units = s.units := by rw [hrest]
    have hclose := closes_close a s false ha
    have hfollows := hclose.follows
    have hsettled := settled_close a s false l
    refine ⟨_, hexec, ?_, ?_, ?_, ?_, fun hb hidle => ?_, fun m hm => ?_, fun u => ?_, ?_⟩
    · rw [hfollows.presence, hown]
    · obtain h | ⟨h, -⟩ := hsettled.probe
      · exact h.trans (by rw [hown])
      · rw [hown] at h
        cases h
    · rw [hfollows.count, hown]
    · rw [hfollows.mode, hown]
    · have hb' : membersBelong a := by
        unfold membersBelong
        rw [hunits, hcfg]
        exact hb
      have hidle' : (a.units.get (s.cfg.leader l)).status = .rest := by
        rw [hunits]
        exact hidle
      obtain ⟨-, hplaces, hposition, hhanded⟩ := waits_close ha hb' (u := s.cfg.leader l) (by rw [hcfg]; exact leader_leader _ _)
        (.inl hidle') s false
      obtain ⟨p', hl'⟩ := hplaces l (by rw [hcfg]; exact mem_membersOf_leader _ _)
      refine ⟨?_, ?_, fun hends => ?_, fun hends => ?_⟩
      · show ((a.close s false).feedback.get l).estimate = _
        rw [hl', hown]
      · show ((a.close s false).feedback.get l).period = _
        rw [hl', hown]
      · refine Eq.trans ?_ hposition.symm
        obtain h | h := hhanded
        · exact h.trans (hended hends)
        · exact h
      · obtain ⟨m, hm, hne, hunprobed⟩ : ∃ m ∈ s.cfg.membersOf (s.cfg.leader l), m ≠ l ∧ (s.feedback.get m).presence = .unprobed := by
          by_contra hnone
          refine hends fun m hm => ?_
          by_contra hor
          rw [not_or, not_not] at hor
          exact hnone ⟨m, hm, hor⟩
        obtain ⟨-, htable, -⟩ := rests_close ha (by rw [hcfg]; exact hm) (by rw [hothers m hne]; exact hunprobed) hidle' s false
        show ((a.close s false).tables.get (s.cfg.leader l)).restPosition = _
        rw [htable, hnotEnded hends]
    · rw [hfollows.presence, hothers m hm]
    · rw [hfollows.failureCount, hunits]
    · have hset := hclose.setDrive (tables := s.tables) (units := s.units) (members := s.members)
        (feedback := (a.close s false).refresh.feedback) (fun u => (hfollows.serviceTarget u).trans (hservice u))
        (fun u => by rw [hfollows.failureCount, hunits]) (fun u => by rw [hfollows.lastFault, hunits])
        (fun _ => ⟨rfl, rfl, rfl, rfl⟩)
      rw [hrest] at hset
      rw [hrest]
      exact hset
  refine ⟨fun hprobe hdue => ?_, fun hprobe => ⟨fun hdue => ?_, fun hlimit => ?_⟩⟩
  · have heq := beginPulse_eq s l
    have hphase : (s.beginPulse l).phase ≠ .off := hs.started
    have hget : (s.beginPulse l).feedback.get l = { s.feedback.get l with
        probe := .pulse (s.now + 50), lastLine := none
        period := periodFrom (s.feedback.get l) s.now Config.probePeriodSpeed } := by
      rw [heq, State.setFeedback_feedback, Four.get_set, if_pos rfl]
    refine ⟨(s.beginPulse l).refresh, next_act hs.started _ ?_, ⟨_, hget⟩, ?_, fun m hm => ?_, rfl, rfl, rfl,
      (driven_beginPulse s l).motionOnly (SameFaults.of_units rfl)⟩
    · rw [hl]
      dsimp only
      rw [show (s.feedback.get l).probe = .settle due from hprobe]
      exact if_pos hdue
    · obtain ⟨-, -, -, -, -, -, -, -, -, -, -, houtput⟩ := (outputsFollowState (s.beginPulse l)).2 hphase
      exact (houtput o l hl).1 (s.now + 50) (by rw [hget])
    · show (s.beginPulse l).feedback.get m = _
      rw [heq, State.setFeedback_feedback, Four.get_set, if_neg hm]
  · refine hfound ?_ hprobe (next_act hs.started _ ?_)
    · split <;> exact nofun
    · rw [hl]
      dsimp only
      rw [show (s.feedback.get l).probe = .pulse due from hprobe]
      refine (if_pos hdue).trans ?_
      rw [if_congr (drawsCurrent_iff current) rfl rfl]
  · refine hfound nofun hprobe (next_act hs.started _ ?_)
    rw [if_pos (show overcurrentLimit ≤ current from hlimit), hl]
    dsimp only
    rw [show (s.feedback.get l).probe = .pulse due from hprobe]
    rfl

end Sys2Proof.Machine
end

section
/-! SUPPORT. The service commands that act: WRITE SETTING, MOVE, STOP ALL, REFERENCE, CLEAR COUNTERS and RESTART (R113, R156, R158,
R186, R188 to R190, R192). -/

namespace Sys2Proof.Machine

/-! ### A setting written -/

theorem settingRange?_eq_settingLimits (name : SettingName) : settingRange? name = settingLimits name := by cases name <;> rfl

theorem settingIndexOk_eq_settingIndexed (name : SettingName) : settingIndexOk name = settingIndexed name := by
  cases name <;> rfl

theorem settingRefusal?_of_index {name : SettingName} (h : settingIndexed name = false) (v : Int) :
    settingRefusal? name v = some .badLeaf := by
  unfold settingRefusal?
  rw [settingIndexOk_eq_settingIndexed, h]
  rfl

theorem inRange_iff {lo hi : Nat} {v : Int} : inRange lo hi v = true ↔ (lo : Int) ≤ v ∧ v ≤ (hi : Int) := by
  unfold inRange
  rw [Bool.and_eq_true, decide_eq_true_iff, decide_eq_true_iff]

theorem settingRefusal?_of_value {name : SettingName} (h : settingIndexed name = true) {v : Int}
    (hv : ¬ ∃ lo hi, settingLimits name = some (lo, hi) ∧ (lo : Int) ≤ v ∧ v ≤ (hi : Int)) :
    settingRefusal? name v = some .badValue := by
  unfold settingRefusal?
  rw [settingIndexOk_eq_settingIndexed, h, settingRange?_eq_settingLimits, Bool.not_true, if_neg (by decide)]
  split
  · rfl
  next lo hi hlimits => rw [if_neg fun hin => hv ⟨lo, hi, hlimits, inRange_iff.1 hin⟩]

theorem settingRefusal?_of_within {name : SettingName} (h : settingIndexed name = true) {v : Int} {lo hi : Nat}
    (hlimits : settingLimits name = some (lo, hi)) (hlo : (lo : Int) ≤ v) (hhi : v ≤ (hi : Int)) : settingRefusal? name v = none := by
  unfold settingRefusal?
  rw [settingIndexOk_eq_settingIndexed, h, settingRange?_eq_settingLimits, Bool.not_true, if_neg (by decide), hlimits]
  exact if_pos (inRange_iff.2 ⟨hlo, hhi⟩)

/-- An element of a numbered field after one is written. -/
theorem element_setAtNumber {α : Type} (v : Four α) {i : Nat} (h : (1 ≤ i && i ≤ 4) = true) (x : α) (j : Nat) :
    element (setAtNumber v i x) j = if j = i then some x else element v j := by
  obtain ⟨n, rfl⟩ : ∃ n : N4, n.number = i := by
    rw [Bool.and_eq_true, decide_eq_true_iff, decide_eq_true_iff] at h
    obtain ⟨h1, h4⟩ := h
    interval_cases i
    · exact ⟨.n1, rfl⟩
    · exact ⟨.n2, rfl⟩
    · exact ⟨.n3, rfl⟩
    · exact ⟨.n4, rfl⟩
  have hset : setAtNumber v n.number x = v.set n x := by cases n <;> rfl
  rw [hset]
  by_cases hj : ∃ k : N4, k.number = j
  · obtain ⟨k, rfl⟩ := hj
    rw [element_number, element_number, Four.get_set]
    by_cases hkn : k = n
    · rw [if_pos hkn, if_pos (by rw [hkn])]
    · rw [if_neg hkn, if_neg fun h => hkn (N4.number_injective h)]
  · have hnone (w : Four α) : element w j = none := by
      unfold element
      split
      · exact absurd ⟨.n1, rfl⟩ hj
      · exact absurd ⟨.n2, rfl⟩ hj
      · exact absurd ⟨.n3, rfl⟩ hj
      · exact absurd ⟨.n4, rfl⟩ hj
      · rfl
    rw [hnone, hnone, if_neg fun h => hj ⟨n, h.symm⟩]

theorem toNat_ofNat_of_le {k n hi : Nat} (h : n ≤ hi) (hhi : hi < 2 ^ k) : (BitVec.ofNat k n).toNat = n :=
  (BitVec.toNat_ofNat n k).trans (Nat.mod_eq_of_lt (Nat.lt_of_le_of_lt h hhi))

theorem index_two_cases {i : Nat} (h : (1 ≤ i && i ≤ 2) = true) : i = 1 ∨ i = 2 := by
  rw [Bool.and_eq_true, decide_eq_true_iff, decide_eq_true_iff] at h
  omega

/-- The value written is stored. -/
theorem storedValue_write {name : SettingName} (x : StoredSettings) {lo hi n : Nat} (h : settingIndexed name = true)
    (hlimits : settingLimits name = some (lo, hi)) (hn : n ≤ hi) : storedValue (x.write name n) name = some n := by
  cases name
  case unknown => cases hlimits
  case loopDisable i =>
    cases hlimits
    obtain rfl | rfl := index_two_cases h <;> exact congrArg some (toNat_ofNat_of_le hn (by decide))
  case gangPairs i =>
    cases hlimits
    obtain rfl | rfl := index_two_cases h <;> exact congrArg some (toNat_ofNat_of_le hn (by decide))
  case outputMap i | facing i | stroke i | fullTime i | quietTime i | stall i | pinch i =>
    cases hlimits
    refine (congrArg (Option.map BitVec.toNat) (element_setAtNumber _ h _ _)).trans ?_
    rw [if_pos rfl]
    exact congrArg some (toNat_ofNat_of_le hn (by decide))
  all_goals
    cases hlimits
    exact congrArg some (toNat_ofNat_of_le hn (by decide))

/-- A name in a field of elements: the field's other elements stay. -/
theorem storedElement_write_of_ne {k : Nat} (v : Four (BitVec k)) {i j : Nat} (h : (1 ≤ i && i ≤ 4) = true) (hne : j ≠ i) (b : BitVec k) :
    (element (setAtNumber v i b) j).map BitVec.toNat = (element v j).map BitVec.toNat := by
  rw [element_setAtNumber v h, if_neg hne]

/-- Every other value stays. -/
theorem storedValue_write_of_ne {name other : SettingName} (x : StoredSettings) (n : Nat) (h : settingIndexed name = true)
    (hne : other ≠ name) : storedValue (x.write name n) other = storedValue x other := by
  cases name
  case loopDisable i =>
    obtain rfl | rfl := index_two_cases h <;> cases other <;> try rfl
    all_goals
      next j =>
        have hj : j ≠ _ := fun h => hne (congrArg SettingName.loopDisable h)
        simp [storedValue, StoredSettings.write, hj]
  case gangPairs i =>
    obtain rfl | rfl := index_two_cases h <;> cases other <;> try rfl
    all_goals
      next j =>
        have hj : j ≠ _ := fun h => hne (congrArg SettingName.gangPairs h)
        simp [storedValue, StoredSettings.write, hj]
  case outputMap i =>
    cases other <;> try rfl
    next j => exact storedElement_write_of_ne x.outputMap h (fun hj => hne (congrArg _ hj)) _
  case facing i =>
    cases other <;> try rfl
    next j => exact storedElement_write_of_ne x.facing h (fun hj => hne (congrArg _ hj)) _
  case stroke i =>
    cases other <;> try rfl
    next j => exact storedElement_write_of_ne x.stroke h (fun hj => hne (congrArg _ hj)) _
  case fullTime i =>
    cases other <;> try rfl
    next j => exact storedElement_write_of_ne x.fullTime h (fun hj => hne (congrArg _ hj)) _
  case quietTime i =>
    cases other <;> try rfl
    next j => exact storedElement_write_of_ne x.quietTime h (fun hj => hne (congrArg _ hj)) _
  case stall i =>
    cases other <;> try rfl
    next j => exact storedElement_write_of_ne x.stall h (fun hj => hne (congrArg _ hj)) _
  case pinch i =>
    cases other <;> try rfl
    next j => exact storedElement_write_of_ne x.pinch h (fun hj => hne (congrArg _ hj)) _
  case unknown => rfl
  all_goals
    cases other <;> try rfl
    exact absurd rfl hne

/-! ### Replies -/

theorem repliesOnly_refused {c : Instr} {s : State} {r : RefusalReason} (hs : atPort s) {f : State → State}
    (hc : exec c s = .next (s.service f)) (hf : f s = s.replyRefused r) : repliesOnly c s (.refused r) :=
  hc.trans (next_service hs f hf)

/-- A command whose event closes in `a` and is replied to. -/
theorem closes_replied {s a : State} (ha : a.phase = .running) (r : Reply) :
    Closes s (a.reply r) ((a.close s false).reply r).refresh false := (closes_close a s false ha).reply r

/-! ### REFERENCE -/

theorem FeedbackRecord.referenced_idem (f : FeedbackRecord) : f.referenced.referenced = f.referenced := rfl

/-- The records of the unit's leaves at a REFERENCE (R158). -/
theorem foldl_referenced (ls : List Leaf) (s : State) :
    ls.foldl (fun t l => t.setFeedback l (t.feedback.get l).referenced) s = { s with
      feedback := Four.ofFn fun m => if m ∈ ls then (s.feedback.get m).referenced else s.feedback.get m } := by
  induction ls generalizing s with
  | nil =>
    have hfeedback : (Four.ofFn fun m => s.feedback.get m) = s.feedback := Four.ext_get fun m => by simp
    simp only [List.foldl_nil, List.not_mem_nil, if_false, hfeedback]
  | cons k ls ih =>
    rw [List.foldl_cons, ih]
    congr 1
    refine Four.ext_get fun m => ?_
    simp only [Four.get_ofFn, State.setFeedback_feedback, Four.get_set, List.mem_cons]
    by_cases hm : m = k <;> by_cases hl : m ∈ ls <;> simp [hm, hl, FeedbackRecord.referenced_idem]

/-- The unit's record at a REFERENCE (R156, R158). -/
def UnitRecord.referenced (x : UnitRecord) : UnitRecord := { x with
  failureCount := 0, lastRunFailed := false, retryHold := none, fireOwed := false, referenceOwed := true }

theorem referenceUnit_eq (s : State) (u : Leaf) : s.referenceUnit u = { s with
    units := s.units.set u (s.units.get u).referenced
    feedback := Four.ofFn fun m => if m ∈ s.cfg.membersOf u then (s.feedback.get m).referenced else s.feedback.get m
    tables := s.tables.set u { s.tables.get u with restPosition := none } } := by
  unfold State.referenceUnit
  dsimp only
  rw [foldl_referenced]
  rfl

theorem referenceBusy_iff (s : State) (u : Leaf) : s.referenceBusy u = true ↔ (s.units.get u).status ≠ .rest ∨
    ∃ m ∈ s.cfg.membersOf u, (∃ due, (s.feedback.get m).probe = .settle due) ∨ ∃ due, (s.feedback.get m).probe = .pulse due := by
  have hprogress (p : Probe) : p.inProgress = true ↔ (∃ due, p = .settle due) ∨ ∃ due, p = .pulse due := by
    cases p <;> simp [Probe.inProgress]
  unfold State.referenceBusy
  rw [Bool.or_eq_true, List.any_eq_true]
  simp only [decide_eq_true_iff, hprogress]

/-- An accepted REFERENCE through the end of its event. -/
theorem referenceUnit_close {s : State} (hs : s.phase = .running) {u : Leaf} (hrest : (s.units.get u).status = .rest) (m : Leaf) :
    let t := (s.referenceUnit u).close s false
    (t.units.get u).lastRunFailed = false ∧ (t.units.get u).retryHold = none ∧
      ((t.units.get u).pair.slot ≠ .fire → (t.units.get u).pair.slot ≠ .brigade → (t.units.get u).referenceOwed = true) ∧
      (t.tables.get u).restPosition = none ∧
      (m ∈ s.cfg.membersOf u → (t.feedback.get m).estimate = none ∧ (t.feedback.get m).probe ≠ .none) := by
  have heq := referenceUnit_eq s u
  generalize s.referenceUnit u = a at heq
  have ha : a.phase = .running := by rw [heq]; exact hs
  have hcfg : a.cfg = s.cfg := by rw [heq]; rfl
  have hunit : a.units.get u = (s.units.get u).referenced := by simp [heq]
  have hfeedback {m : Leaf} (hm : m ∈ s.cfg.membersOf u) : a.feedback.get m = (s.feedback.get m).referenced := by simp [heq, hm]
  have hself := mem_membersOf_self s.cfg u
  obtain ⟨-, htable, hfailed, hhold, howed⟩ := rests_close ha (u := u) (m := u) (by rw [hcfg]; exact hself)
    (by rw [hfeedback hself]; rfl) (by rw [hunit]; exact hrest) s false
  refine ⟨?_, hhold (by rw [hunit]; rfl), fun hfire hbrigade => ?_, ?_, fun hm => ?_⟩
  · rw [hfailed, hunit]
    rfl
  · exact howed (by rw [hunit]; rfl) (Slot.fireClass_eq_false hfire hbrigade)
  · rw [htable, heq]
    simp
  · have hsettled := settled_close a s false m
    rw [hfeedback hm] at hsettled
    refine ⟨hsettled.estimate rfl, ?_⟩
    obtain h | ⟨-, h⟩ := hsettled.probe <;> rw [h] <;> exact nofun

/-- Settles O57. -/
theorem serviceCommandsAct : Obligations.ServiceCommandsAct := by
  intro s hs
  have hphase : s.phase = .running := hs.1
  have hout (hkey : s.key ≠ .service) (n : Nat) (v : Int) : s.moveRefusal? n v = some .notInService := if_pos hkey
  refine ⟨fun name v => ?_, next_service hs _ rfl, next_service hs _ rfl, fun hkey n v => ⟨?_, ?_, ?_⟩, fun hkey => ⟨fun n v hn => ⟨?_, ?_⟩, ?_,
    fun n l hl => ?_⟩⟩
  · intro within
    refine ⟨fun hindex => ?_, fun hindex hout => ?_, fun hindex hin => ?_⟩
    · refine repliesOnly_refused hs rfl ?_
      rw [settingRefusal?_of_index hindex]
    · refine repliesOnly_refused hs rfl ?_
      rw [settingRefusal?_of_value hindex hout]
    · obtain ⟨lo, hi, hlimits, hlo, hhi⟩ := hin
      have hexec : exec (.writeSetting name v) s = .next (({ s with store := s.store.write name v } : State).replyOk .none).refresh := by
        refine next_service hs _ ?_
        rw [settingRefusal?_of_within hindex hlimits hlo hhi]
      exact ⟨_, hexec, storedValue_write _ hindex hlimits (by omega), fun other hne => storedValue_write_of_ne _ _ hindex hne, rfl⟩
  · refine repliesOnly_refused hs rfl ?_
    rw [hout hkey]
  · exact repliesOnly_refused hs rfl (if_pos hkey)
  · refine repliesOnly_refused hs rfl ?_
    rw [show s.referenceRefusal? n = some .notInService from if_pos hkey]
  · refine repliesOnly_refused hs rfl ?_
    have hrefusal : s.moveRefusal? n v = some .badLeaf := by
      unfold State.moveRefusal?
      rw [if_neg (not_not.2 hkey), serviceLeaf?_eq_none_iff.2 hn]
      rfl
    rw [hrefusal]
  · refine repliesOnly_refused hs rfl ?_
    have hrefusal : s.referenceRefusal? n = some .badLeaf := by
      unfold State.referenceRefusal?
      rw [if_neg (not_not.2 hkey), serviceLeaf?_eq_none_iff.2 hn]
    rw [hrefusal]
  · have hclose := closes_replied (s := s) (a := s.stopTargets.setDetection { s.detection with direction := .none }) hphase (.ok .none)
    refine ⟨_, next_service hs _ (if_neg (not_not.2 hkey)), fun u => ?_, hclose.setTables⟩
    refine (hclose.follows.serviceTarget u).trans ?_
    show ((Four.ofFn _).get u : DemandTable).serviceTarget = _
    rw [Four.get_ofFn]
    split <;> rfl
  · have hleaf : s.serviceLeaf? n = some l := serviceLeaf?_eq_some_iff.2 hl
    have hmove (v : Int) (hv : inRange 0 1000 v = true) : s.moveRefusal? n v = none := by
      unfold State.moveRefusal?
      rw [if_neg (not_not.2 hkey), hleaf, hv]
      rfl
    have hreference : s.referenceRefusal? n = if s.fire then some .fireActive else
        if s.referenceBusy (s.cfg.leader l) then some .busy else none := by
      unfold State.referenceRefusal?
      rw [if_neg (not_not.2 hkey), hleaf]
    intro u
    refine ⟨fun v hv => ?_, fun v hlo hhi => ?_, ?_⟩
    · refine repliesOnly_refused hs rfl ?_
      have hrefusal : s.moveRefusal? n v = some .badValue := by
        unfold State.moveRefusal?
        rw [if_neg (not_not.2 hkey), hleaf, if_neg (by simp), if_pos]
        rw [Bool.not_eq_true', Bool.eq_false_iff]
        exact fun h => hv (inRange_iff.1 h)
      rw [hrefusal]
    · have hclose := closes_replied (s := s) (a := (s.moveTarget l v.toNat).setDetection { s.detection with direction := .none })
        hphase (.ok .none)
      refine ⟨_, next_service hs _ ?_, ?_, fun w hw => ?_, hclose.setTables⟩
      · rw [hmove v (inRange_iff.2 ⟨hlo, hhi⟩), hleaf] <;> rfl
      · refine (hclose.follows.serviceTarget u).trans ?_
        show ((s.tables.set u _).get u).serviceTarget = _
        rw [Four.get_set, if_pos rfl]
      · refine (hclose.follows.serviceTarget w).trans ?_
        show ((s.tables.set u _).get w).serviceTarget = _
        rw [Four.get_set, if_neg hw]
    · intro fire busy
      have hfire : s.fire = true ↔ fire := fire_iff s
      have hbusy : s.referenceBusy u = true ↔ busy := referenceBusy_iff s u
      refine ⟨fun h => ?_, fun h hb => ?_, fun h hb => ?_⟩
      · refine repliesOnly_refused hs rfl ?_
        rw [hreference, if_pos (hfire.2 h)]
      · refine repliesOnly_refused hs rfl ?_
        rw [hreference, if_neg (mt hfire.1 h), if_pos (hbusy.2 hb)]
      · have hrest : (s.units.get u).status = .rest := by
          by_contra hne
          exact hb (.inl hne)
        have heq := referenceUnit_eq s u
        have hclose := closes_replied (s := s) (a := s.referenceUnit u) (by rw [heq]; exact hphase) (.ok .none)
        have hfollows := hclose.follows
        obtain ⟨hfailed, hhold, howed, hposition, -⟩ := referenceUnit_close hphase hrest u
        have hmembers (m : Leaf) (hm : m ∈ s.cfg.membersOf u) :
            (((s.referenceUnit u).close s false).feedback.get m).estimate = none ∧
              (((s.referenceUnit u).close s false).feedback.get m).probe ≠ .none := by
          obtain ⟨-, -, -, -, hmember⟩ := referenceUnit_close hphase hrest m
          exact hmember hm
        have hexec : exec (.reference n) s = .next (((s.referenceUnit u).close s false).reply (.ok .none)).refresh := by
          refine next_service hs _ ?_
          rw [hreference, if_neg (mt hfire.1 h), if_neg (mt hbusy.1 hb), hleaf] <;> rfl
        generalize (s.referenceUnit u).close s false = c at hclose hfollows hfailed hhold howed hposition hmembers hexec
        refine ⟨(c.reply (.ok .none)).refresh, hexec, ?_, ?_, hfailed, hhold, howed, hposition, fun m => ?_, fun w hw => ?_, ?_⟩
        · refine (hfollows.failureCount u).trans ?_
          rw [heq]
          show ((s.units.set u _).get u).failureCount = _
          rw [Four.get_set, if_pos rfl]
          rfl
        · refine (hfollows.lastFault u).trans ?_
          rw [heq]
          show ((s.units.set u _).get u).lastFault = _
          rw [Four.get_set, if_pos rfl]
          rfl
        · obtain ⟨hpresence, hmode, hcount, hdrift⟩ := hfollows.feedback_get m
          have hget : ((s.referenceUnit u).reply (.ok .none)).feedback.get m =
              if m ∈ s.cfg.membersOf u then (s.feedback.get m).referenced else s.feedback.get m := by
            rw [heq]
            show (Four.ofFn _).get m = _
            rw [Four.get_ofFn]
          rw [hget] at hpresence hmode hcount hdrift
          dsimp only
          split
          next hm =>
            rw [if_pos hm] at hpresence hmode hcount hdrift
            exact ⟨hpresence, hmode, hcount, (hmembers m hm).1, (hmembers m hm).2, hdrift⟩
          next hm =>
            rw [if_neg hm] at hpresence hmode hcount hdrift
            exact ⟨hpresence, hmode, hcount, hdrift⟩
        · refine ⟨(hfollows.failureCount w).trans ?_, (hfollows.lastFault w).trans ?_⟩
          · rw [heq]
            show ((s.units.set u _).get w).failureCount = _
            rw [Four.get_set, if_neg hw]
          · rw [heq]
            show ((s.units.set u _).get w).lastFault = _
            rw [Four.get_set, if_neg hw]
        · have hset := hclose.setDrive (tables := s.tables)
            (units := c.units) (members := s.members) (feedback := c.feedback) (fun w => (hfollows.serviceTarget w).trans ?_)
            (fun _ => rfl) (fun _ => rfl) (fun _ => ⟨rfl, rfl, rfl, rfl⟩)
          · rw [heq] at hset
            exact hset
          · rw [heq]
            show ((s.tables.set u _).get w).serviceTarget = _
            rw [Four.get_set]
            split
            next hw => rw [hw]
            next => rfl

end Sys2Proof.Machine
end

section
/-! SUPPORT. Every unit halted, by LOCKOUT or a restart wait (R153, R192), and the key switch (R80, R81, R114). -/

namespace Sys2Proof.Machine

/-! ### One unit halted -/

/-- The status of a unit that is halted. -/
def UnitStatus.halted (now : Nat) : UnitStatus → UnitStatus
  | .rest => .rest
  | .waiting _ => .rest
  | .inFlight r => match r.stage with
    | .starting _ => .rest
    | .running => .inFlight { r with stage := .rundown (now + 150) .halted, timeoutDue := none }
    | .rundown due e => .inFlight { r with stage := .rundown due (if e = .pinched then .halted else e) }

theorem halt_status (s : State) (u : Leaf) : ((s.halt u).units.get u).status = (s.units.get u).status.halted s.now := by
  have hset (t : State) (x : UnitRecord) : (t.setUnit u x).units.get u = x := by
    rw [State.setUnit_units, Four.get_set, if_pos rfl]
  unfold State.halt UnitStatus.halted
  cases hstatus : (s.units.get u).status with
  | rest => exact hstatus
  | waiting e => exact placeAtRest_status s u
  | inFlight r =>
    dsimp only
    cases hst : r.stage with
    | starting due => exact placeAtRest_status _ u
    | running =>
      dsimp only
      rw [toRundown_eq]
      simp only [Four.get_set, if_true]
      rfl
    | rundown due e =>
      dsimp only
      split
      · unfold State.setRun State.setStatus
        rw [hset]
      · rw [hstatus, ← hst]

theorem sameFaults_halt (s : State) (u : Leaf) : SameFaults s (s.halt u) := by
  have howed : SameFaults s (s.setUnit u (s.units.get u).oweAgain) := sameFaults_setUnit s u _ (by exact ⟨rfl, rfl⟩)
  unfold State.halt
  split
  · exact SameFaults.refl s
  · exact sameFaults_placeAtRest s u
  · split
    · exact howed.trans (sameFaults_placeAtRest _ u)
    · exact howed.trans (sameFaults_toRundown _ u _ _)
    · split
      · exact sameFaults_setRun s u _
      · exact SameFaults.refl s

theorem sameFaults_haltAll (s : State) : SameFaults s s.haltAll := SameFaults.foldl sameFaults_halt _ s

/-- A unit that comes to rest by its halt hands its position (R119). -/
theorem halt_restPosition {s : State} {u : Leaf} (h : (s.units.get u).status.halted s.now = .rest)
    (hmoves : (s.units.get u).status ≠ .rest) : ((s.halt u).tables.get u).restPosition = (s.halt u).unitPosition u := by
  have hrest (t : State) : ((t.placeAtRest u).tables.get u).restPosition = (t.placeAtRest u).unitPosition u :=
    (placeAtRest_restPosition t u).trans (unitPosition_of_feedback rfl rfl u).symm
  unfold UnitStatus.halted at h
  unfold State.halt
  cases hstatus : (s.units.get u).status with
  | rest => exact absurd hstatus hmoves
  | waiting e => exact hrest s
  | inFlight r =>
    rw [hstatus] at h
    dsimp only at h ⊢
    cases hst : r.stage with
    | starting due => exact hrest _
    | running =>
      rw [hst] at h
      cases h
    | rundown due e =>
      rw [hst] at h
      cases h

/-! ### Every unit halted -/

theorem foldl_halt_units_other {u : Leaf} (ls : List Leaf) (hu : u ∉ ls) (s : State) :
    (ls.foldl State.halt s).units.get u = s.units.get u := by
  induction ls generalizing s with
  | nil => rfl
  | cons w ls ih =>
    rw [List.foldl_cons, ih (fun h => hu (List.mem_cons_of_mem _ h)),
      halt_units_other s fun h => hu (by rw [h]; exact List.mem_cons_self)]

/-- The units in order, with those before and after one. -/
theorem N4.all_split (u : N4) : ∃ before after, N4.all = before ++ u :: after ∧ u ∉ before ∧ u ∉ after ∧
    ∀ w ∈ after, u.number < w.number := by
  cases u with
  | n1 => exact ⟨[], [.n2, .n3, .n4], rfl, by decide, by decide, by decide⟩
  | n2 => exact ⟨[.n1], [.n3, .n4], rfl, by decide, by decide, by decide⟩
  | n3 => exact ⟨[.n1, .n2], [.n4], rfl, by decide, by decide, by decide⟩
  | n4 => exact ⟨[.n1, .n2, .n3], [], rfl, by decide, by decide, by decide⟩

theorem haltAll_split (s : State) (u : Leaf) : ∃ before after : List Leaf, u ∉ before ∧ u ∉ after ∧ (∀ w ∈ after, u.number < w.number) ∧
    s.haltAll = after.foldl State.halt ((before.foldl State.halt s).halt u) := by
  obtain ⟨before, after, hall, hbefore, hafter, horder⟩ := N4.all_split u
  exact ⟨before, after, hbefore, hafter, horder, by rw [State.haltAll, hall, List.foldl_append, List.foldl_cons]⟩

theorem foldl_halt_now (ls : List Leaf) (s : State) : (ls.foldl State.halt s).now = s.now :=
  (Driven.foldl driven_halt ls s).now

theorem haltAll_status (s : State) (u : Leaf) : (s.haltAll.units.get u).status = (s.units.get u).status.halted s.now := by
  obtain ⟨before, after, hbefore, hafter, -, hall⟩ := haltAll_split s u
  rw [hall, foldl_halt_units_other after hafter, halt_status, foldl_halt_units_other before hbefore, foldl_halt_now]

/-- The leader of a unit's leaf does not come after the unit in leaf order. -/
theorem leader_number_le {c : Settings} {u m : Leaf} (hm : m ∈ c.membersOf u) : (c.leader m).number ≤ u.number := by
  have hleader (l : Leaf) : (c.leader l).number ≤ l.number := by
    unfold Settings.leader
    split <;> cases l <;> decide
  unfold Settings.membersOf at hm
  split at hm
  next hg =>
    obtain rfl | hm := List.mem_cons.1 hm
    · exact hleader m
    · rw [List.mem_singleton.1 hm]
      unfold Settings.leader
      cases u <;> simp [partner, pairLeader, Settings.ganged] at hg ⊢ <;> simp [hg, N4.number]
  next =>
    rw [List.mem_singleton.1 hm]
    exact hleader u

/-- What another unit's operation leaves of a unit that it has no leaf of. -/
theorem Local.keeps {w u : Leaf} {s t : State} (h : Local w s t) (hw : u ≠ w) (hleaves : ∀ m ∈ s.cfg.membersOf u, s.cfg.leader m ≠ w) :
    t.tables.get u = s.tables.get u ∧ t.unitPosition u = s.unitPosition u :=
  ⟨h.table u hw, unitPosition_congr h.cfg fun m hm => .of_eq (h.leaf m (hleaves m hm)).2⟩

theorem foldl_halt_belongs (ls : List Leaf) {s : State} (hs : membersBelong s) : membersBelong (ls.foldl State.halt s) :=
  (HoldsNoMore.foldl (fun t u => (movedAt_halt t u).holdsNoMore) ls s).membersBelong
    (Driven.foldl driven_halt ls s).sameInputs.cfg hs

theorem foldl_halt_after {u : Leaf} (ls : List Leaf) (horder : ∀ w ∈ ls, u.number < w.number) {s : State} (hs : membersBelong s) :
    (ls.foldl State.halt s).tables.get u = s.tables.get u ∧ (ls.foldl State.halt s).unitPosition u = s.unitPosition u := by
  induction ls generalizing s with
  | nil => exact ⟨rfl, rfl⟩
  | cons w ls ih =>
    have hw := horder w List.mem_cons_self
    have hlocal := local_halt (hs w)
    obtain ⟨htable, hposition⟩ := hlocal.keeps (u := u) (fun h => by rw [h] at hw; omega) fun m hm h => by
      have hle := leader_number_le hm
      rw [h] at hle
      omega
    obtain ⟨htable', hposition'⟩ := ih (fun x hx => horder x (List.mem_cons_of_mem _ hx)) (hlocal.belongs_all hs)
    exact ⟨htable'.trans htable, hposition'.trans hposition⟩

/-- A unit that is brought to rest has handed the position that it stands at when all are halted. -/
theorem haltAll_restPosition {s : State} (hs : membersBelong s) {u : Leaf} (h : (s.units.get u).status.halted s.now = .rest)
    (hmoves : (s.units.get u).status ≠ .rest) : (s.haltAll.tables.get u).restPosition = s.haltAll.unitPosition u := by
  obtain ⟨before, after, hbefore, -, horder, hall⟩ := haltAll_split s u
  have hunit := foldl_halt_units_other before hbefore s
  have hb := foldl_halt_belongs before hs
  have hnow := foldl_halt_now before s
  rw [hall]
  generalize before.foldl State.halt s = x at hunit hb hnow
  obtain ⟨htable, hposition⟩ := foldl_halt_after after horder ((local_halt (hb u)).belongs_all hb)
  rw [htable, hposition]
  exact halt_restPosition (by rw [hunit, hnow]; exact h) (by rw [hunit]; exact hmoves)

/-! ### The end of an event at LOCKOUT -/

/-- At most pairs have been taken. -/
structure PairsOnly (s t : State) : Prop where
  status : ∀ u, (t.units.get u).status = (s.units.get u).status
  tables : t.tables = s.tables
  feedback : t.feedback = s.feedback

theorem PairsOnly.trans {s t v : State} (h : PairsOnly s t) (k : PairsOnly t v) : PairsOnly s v :=
  ⟨fun u => (k.status u).trans (h.status u), k.tables.trans h.tables, k.feedback.trans h.feedback⟩

theorem Stilled.pairsOnly_handPair {s : State} (h : Stilled s) (u : Leaf) : PairsOnly s (s.handPair u) := by
  have hrefl : PairsOnly s s := ⟨fun _ => rfl, rfl, rfl⟩
  have hset (p : Pair) : PairsOnly s (s.setUnit u ((s.units.get u).withPair p)) := by
    refine ⟨fun v => ?_, rfl, rfl⟩
    rw [State.setUnit_units, Four.get_set]
    split
    next hv =>
      rw [hv]
      rfl
    next => rfl
  unfold State.handPair
  split
  · unfold State.takePair
    dsimp only
    split
    · exact hset _
    next e he => exact absurd he ((h.units u).not_waiting e)
    next r hr =>
      obtain ⟨due, e, hst, -⟩ := (h.units u).rundown hr
      rw [hst]
      split <;> exact hset _
  · exact hrefl

theorem Stilled.pairsOnly_handPairs {s : State} (h : Stilled s) (ls : List Leaf) : PairsOnly s (ls.foldl State.handPair s) := by
  induction ls generalizing s with
  | nil => exact ⟨fun _ => rfl, rfl, rfl⟩
  | cons u ls ih => exact (h.pairsOnly_handPair u).trans (ih (h.handPair u))

theorem Stilled.pairsOnly_close {s : State} (h : Stilled s) (hkey : s.key = .lockout) (hs : s.phase = .running) (b : State) (r : Bool) :
    PairsOnly s (s.close b r) := by
  have hreform : Stilled s.reform := h.of_status (fun _ => by rw [reform_units]) fun _ => by rw [reform_feedback]; exact id
  have hkey' : s.reform.handPairs.handPairs.key = .lockout :=
    ((driven_handPairs s.reform).trans (driven_handPairs _)).sameInputs.stationKey.trans ((reform_key s).trans hkey)
  have hdrive : s.reform.drive = s.reform.handPairs.handPairs := by
    unfold State.drive State.serve
    rw [judgeAll_of_lockout hkey', hkey', if_neg (by simp)]
  have hpairs : PairsOnly s.reform s.reform.drive := by
    rw [hdrive]
    exact (hreform.pairsOnly_handPairs N4.all).trans
      ((Stilled.foldl (fun _ u k => k.handPair u) hreform N4.all).pairsOnly_handPairs N4.all)
  have hclose : s.close b r = s.reform.drive.composeDue b r := if_pos hs
  obtain ⟨htables, hunits, -, -⟩ := sameDrive_composeDue s.reform.drive b r
  have hfeedback := composeDue_feedback s.reform.drive b r
  rw [hclose]
  exact ⟨fun u => by rw [hunits, hpairs.status u, reform_units], by rw [htables, hpairs.tables, reform_tables],
    by rw [hfeedback, hpairs.feedback, reform_feedback]⟩

/-! ### The key switch -/

theorem Stilled.startQueue {s : State} (h : Stilled s) : s.startQueue = [] := by
  rw [List.eq_nil_iff_forall_not_mem]
  intro u hu
  obtain ⟨-, e, he⟩ := mem_startQueue_iff.1 hu
  exact (h.units u).not_waiting e he

/-- The state in which a new key position is taken, before LOCKOUT halts (R80, R81, R114). -/
def State.keyTaken (s : State) (new : KeyReading) : State := { s with
  detection := { s.detection with
    key := ⟨new, none⟩
    direction := if s.detection.key.held = .service then .none else s.detection.direction }
  tables := if s.detection.key.held = .service then Four.ofFn fun u => { s.tables.get u with serviceTarget := none } else s.tables }

theorem keyChanged_eq {s : State} {new : KeyReading} (hnew : new ≠ s.detection.key.held) :
    (s.setDetection { s.detection with key := .taken new }).keyChanged s.key =
      if new = .lockout then (s.keyTaken new).stopProbes.haltAll else s.keyTaken new := by
  have hleaves : (s.key = .service ∧ (s.setDetection { s.detection with key := .taken new }).key ≠ .service) ↔
      s.detection.key.held = .service := by
    rw [key_eq_service_iff, ne_eq, key_eq_service_iff]
    refine and_iff_left_of_imp fun h hnew' => ?_
    exact hnew (Eq.trans (b := KeyReading.service) hnew' h.symm)
  have hlockout : ((s.setDetection { s.detection with key := .taken new }).key = .lockout ∧ s.key ≠ .lockout) ↔ new = .lockout := by
    rw [key_eq_lockout_iff, ne_eq, key_eq_lockout_iff]
    refine and_iff_left_of_imp fun h hheld => ?_
    exact hnew (Eq.trans (b := KeyReading.lockout) h hheld.symm)
  have htaken : (if s.key = .service ∧ (s.setDetection { s.detection with key := .taken new }).key ≠ .service
      then (s.setDetection { s.detection with key := .taken new }).leaveService
      else s.setDetection { s.detection with key := .taken new }) = s.keyTaken new := by
    unfold State.keyTaken
    by_cases h : s.detection.key.held = .service
    · rw [if_pos (hleaves.2 h), if_pos h, if_pos h]
      rfl
    · rw [if_neg (mt hleaves.1 h), if_neg h, if_neg h]
      rfl
  unfold State.keyChanged
  simp only [Bool.and_eq_true, decide_eq_true_eq, htaken, hlockout]

theorem stopProbe_units (s : State) (l : Leaf) : (s.stopProbe l).units = s.units := by
  unfold State.stopProbe
  split
  · dsimp only
    rw [endPeriod_eq]
    rfl
  · rfl

theorem stopProbes_units (s : State) : s.stopProbes.units = s.units :=
  List.foldlRecOn (motive := fun t => t.units = s.units) N4.all State.stopProbe rfl fun t h l _ => (stopProbe_units t l).trans h

/-- Of the parts that an event leaves to `Follows`, only what it says is read of the state that the event came to. -/
theorem Closes.of_sameOutside {s a b t : State} {r : Bool} (h : Closes s a t r) (hout : SameOutside b a)
    (hservice : ∀ u, (t.tables.get u).serviceTarget = (b.tables.get u).serviceTarget)
    (hfeedback : ∀ l, SameFeedback (b.feedback.get l) (t.feedback.get l)) (hfaults : SameFaults b t) : Closes s b t r := by
  have hset := h.setDrive (members := b.members) hservice (fun u => (hfaults u).1) (fun u => (hfaults u).2) hfeedback
  obtain ⟨now, phase, pending, draws, store, line, composer, peers, detection, zones, weather, supply, port⟩ := hout
  cases a
  cases b
  subst now phase pending draws store line composer peers detection zones weather supply port
  obtain ⟨h1, h2, h3, h4, h5, h6, h7, h8, h9, h10, h11, h12, h13, h14, h15, h16, h17, h18, h19, h20, h21, h22, h23, h24, h25⟩ :=
    hset.follows
  refine ⟨⟨h1, h2, h3, h4, h5, h6, h7, h8, h9, h10, h11, h12, h13, h14, h15, h16, h17, h18, h19, h20, h21, h22, h23, h24, h25⟩,
    hset.weather.trans ?_, hset.brigade, ⟨hset.slot.due, hset.slot.kept⟩⟩
  unfold State.formWeather
  dsimp only
  split <;> split
  · rfl
  next h k => exact absurd h k
  next h k => exact absurd k h
  · rfl

/-- Entry to LOCKOUT stops every unit, and the end of the event leaves them so (R153). -/
theorem haltedIn_lockout {s m a t : State} (hunits : m.units = s.units) (hnow : m.now = s.now) (hbelong : membersBelong s → membersBelong m)
    (hpairs : PairsOnly m.haltAll a) (hcfg : a.cfg = m.haltAll.cfg) (htunits : t.units = a.units) (httables : t.tables = a.tables)
    (htfeedback : t.feedback = a.feedback) (htcfg : t.cfg = a.cfg) (u : Leaf) : haltedIn s t u := by
  have hstatus : (t.units.get u).status = (s.units.get u).status.halted s.now := by
    rw [htunits, hpairs.status, haltAll_status, hunits, hnow]
  have hrest (h : (s.units.get u).status.halted s.now = .rest) (hmoves : (s.units.get u).status ≠ .rest) :
      (t.units.get u).status = .rest ∧ (membersBelong s → (t.tables.get u).restPosition = t.unitPosition u) := by
    refine ⟨hstatus.trans h, fun hs => ?_⟩
    have hhalt := haltAll_restPosition (hbelong hs) (u := u) (by rw [hunits, hnow]; exact h) (by rw [hunits]; exact hmoves)
    rw [httables, hpairs.tables, hhalt]
    exact (unitPosition_of_feedback (htcfg.trans hcfg) (htfeedback.trans hpairs.feedback) u).symm
  refine ⟨fun e he => hrest (by rw [he]; rfl) (by rw [he]; nofun), fun r hr => ⟨fun due hst => hrest ?_ (by rw [hr]; nofun),
    fun hst => hstatus.trans ?_, fun due e hst => hstatus.trans ?_⟩⟩ <;>
  · rw [hr]
    unfold UnitStatus.halted
    dsimp only
    rw [hst]

/-- Settles O29. -/
theorem keyPositionTaken : Obligations.KeyPositionTaken := by
  intro s new since hs hhold hover hnew
  let a := if new = .lockout then (s.keyTaken new).stopProbes.haltAll else s.keyTaken new
  have hdriven : Driven (s.keyTaken new) a := by
    dsimp only [a]
    split
    · exact (driven_stopProbes _).trans (driven_haltAll _)
    · exact Driven.refl _
  have hfaults : SameFaults s a := by
    dsimp only [a]
    split
    · exact (SameFaults.of_units (stopProbes_units (s.keyTaken new))).trans (sameFaults_haltAll _)
    · exact fun _ => ⟨rfl, rfl⟩
  have ha : a.phase = .running := hdriven.phase.trans hs
  have hdue : s.detection.key.due s.now = some new := by
    unfold SwitchRecord.due
    rw [hhold]
    exact if_pos hover
  have hexec : exec .keySwitchChange s = .next (a.close s false).refresh := by
    refine next_act (Running.started hs) _ ?_
    rw [hdue]
    exact congrArg (fun x => State.close x s false) (keyChanged_eq hnew)
  have hclose := closes_close a s false ha
  have hfollows := hclose.follows
  have hdetection : (a.close s false).refresh.detection = (s.keyTaken new).detection := hfollows.detection.trans hdriven.detection
  have hservice (u : Leaf) : ((a.close s false).refresh.tables.get u).serviceTarget =
      if s.detection.key.held = .service then none else (s.tables.get u).serviceTarget := by
    rw [hfollows.serviceTarget, hdriven.serviceTarget]
    unfold State.keyTaken
    dsimp only
    split
    · rw [Four.get_ofFn]
    · rfl
  have hlockout (h : new = .lockout) : Stilled (a.close s false) ∧ PairsOnly a (a.close s false) := by
    have hstilled : Stilled a := by
      dsimp only [a]
      rw [if_pos h]
      exact stilled_haltAll_stopProbes _
    have hkey : a.key = .lockout := (key_eq_lockout_iff a).2 (by rw [hdriven.detection]; exact h)
    exact ⟨hstilled.close hkey s false, hstilled.pairsOnly_close hkey ha s false⟩
  refine ⟨_, hexec, hdetection, hservice, fun h => ?_, ?_⟩
  · obtain ⟨hstilled, hpairs⟩ := hlockout h
    have hmain : a = (s.keyTaken new).stopProbes.haltAll := if_pos h
    have hcfg : (a.close s false).cfg = a.cfg := congrArg SettingsStore.inForce hfollows.store
    generalize a.close s false = c at hstilled hpairs hcfg
    refine ⟨hstilled.formPins, hstilled.startQueue, haltedIn_lockout (m := (s.keyTaken new).stopProbes)
      (stopProbes_units _) (driven_stopProbes _).now (fun hb u r hr => ?_)
      (hmain ▸ hpairs) (hcfg.trans (congrArg State.cfg hmain)) rfl rfl rfl rfl⟩
    rw [stopProbes_units] at hr
    rw [(driven_stopProbes (s.keyTaken new)).sameInputs.cfg]
    exact hb u r hr
  · generalize (a.close s false).refresh = t at *
    rw [hdetection]
    have hout : SameOutside { s with detection := (s.keyTaken new).detection, tables := t.tables } a := by
      obtain ⟨now, phase, pending, draws, store, line, composer, peers, detection, zones, weather, supply, port⟩ := hdriven.sameOutside
      exact ⟨now, phase, pending, draws, store, line, composer, peers, detection, zones, weather, supply, port⟩
    exact hclose.of_sameOutside hout (fun _ => rfl)
      (fun l => ⟨(hfollows.presence l).trans (hdriven.presence l), (hfollows.mode l).trans (hdriven.mode l),
        (hfollows.count l).trans (hdriven.count l), (hfollows.drift l).trans (hdriven.drift l)⟩)
      (fun u => ⟨(hfollows.failureCount u).trans (hfaults u).1, (hfollows.lastFault u).trans (hfaults u).2⟩)

end Sys2Proof.Machine
end

section
/-! SUPPORT. The restart wait, and the starts (R191, R192). -/

namespace Sys2Proof.Machine

/-! ### A station in which nothing runs or needs a run -/

/-- Every unit rests, as at a start, before its probes. -/
structure AllRest (s : State) : Prop where
  status : ∀ u, (s.units.get u).status = .rest
  retryHold : ∀ u, (s.units.get u).retryHold = none
  fireOwed : ∀ u, (s.units.get u).fireOwed = false
  referenceOwed : ∀ u, (s.units.get u).referenceOwed = false
  pair : ∀ u, (s.units.get u).pair.slot.fireClass = false
  probed : ∀ u, s.probed u = false
  fire : s.fire = false
  brigade : s.zones.brigade = none

/-- At most pairs have been taken and probes granted. -/
structure Idles (s t : State) : Prop where
  driven : Driven s t
  tables : t.tables = s.tables
  members : t.members = s.members
  feedback : ∀ l, (s.feedback.get l).ButProbe (t.feedback.get l)
  units : ∀ u, t.units.get u = { s.units.get u with pair := (t.units.get u).pair }
  pair : ∀ u, (t.units.get u).pair.slot.fireClass = false
  unmapped : ∀ u, s.cfg.isUnit u = false → t.units.get u = s.units.get u

theorem resolve_slot_fireClass {v : SlotValues} (hbrigade : v.brigade = none) (hfire : v.fire = none) (rest : Option Nat) :
    (v.resolve rest).slot.fireClass = false := by
  have hcap (cap : Option Nat) (slot : Slot) (b : SlotValue) (hslot : slot.fireClass = false) (hb : b.slot.fireClass = false) :
      (capBy cap slot b).slot.fireClass = false := by
    unfold capBy
    split
    · split
      · exact hslot
      · exact hb
    · exact hb
  have hlower (c : SlotValue) (hc : v.lowerCap = some c) : c.slot.fireClass = false := by
    unfold SlotValues.lowerCap at hc
    split at hc
    · split at hc <;>
      · cases hc
        rfl
    · cases hc
      rfl
    · cases hc
      rfl
    · cases hc
  unfold SlotValues.resolve
  rw [hbrigade, hfire]
  dsimp only
  split
  · exact hcap _ _ _ rfl rfl
  · split
    · exact hcap _ _ _ rfl (hcap _ _ _ rfl rfl)
    · unfold SlotValues.resolveCaps
      split
      · rfl
      next c hc =>
        split
        · exact hlower c hc
        · split
          · exact hlower c hc
          · rfl

theorem AllRest.resultOf {s : State} (h : AllRest s) (u : Leaf) : (s.resultOf u).slot.fireClass = false := by
  refine resolve_slot_fireClass ?_ ?_ _
  · unfold State.slotsOf
    rw [h.brigade]
    rfl
  · unfold State.slotsOf
    rw [h.fire]
    rfl

theorem Idles.refl {s : State} (h : AllRest s) : Idles s s :=
  ⟨Driven.refl s, rfl, rfl, fun _ => ⟨_, rfl⟩, fun _ => rfl, h.pair, fun _ _ => rfl⟩

theorem Idles.allRest {s t : State} (h : AllRest s) (k : Idles s t) : AllRest t where
  status := fun u => by rw [k.units]; exact h.status u
  retryHold := fun u => by rw [k.units]; exact h.retryHold u
  fireOwed := fun u => by rw [k.units]; exact h.fireOwed u
  referenceOwed := fun u => by rw [k.units]; exact h.referenceOwed u
  pair := k.pair
  probed := fun u => by
    have hpresence (l : Leaf) : (t.feedback.get l).presence = (s.feedback.get l).presence := k.driven.presence l
    rw [← h.probed u]
    unfold State.probed State.probesEnded State.presentMembers
    rw [k.driven.sameInputs.cfg]
    simp only [hpresence]
  fire := by
    rw [← h.fire]
    unfold State.fire
    rw [k.driven.zones, k.driven.sameInputs.cfg]
  brigade := (congrArg ZoneLogic.brigade k.driven.zones).trans h.brigade

theorem AllRest.withPair {s : State} (h : AllRest s) {p : Pair} (hp : p.slot.fireClass = false) (u : Leaf) :
    (s.units.get u).withPair p = { s.units.get u with pair := p } := by
  have hretry := h.retryHold u
  have hfire := h.fireOwed u
  have hreference := h.referenceOwed u
  generalize s.units.get u = x at hretry hfire hreference
  unfold UnitRecord.withPair
  cases x
  subst hretry hfire hreference
  rw [hp]
  rfl

theorem Idles.handPair {s t : State} (h : AllRest s) (k : Idles s t) (u : Leaf) : Idles s (t.handPair u) := by
  have ht := k.allRest h
  have hdriven := k.driven.trans (driven_handPair t u)
  unfold State.handPair at hdriven ⊢
  split
  next hne =>
    rw [if_pos hne, takePair_of_rest (ht.status u), ht.withPair (ht.resultOf u)] at hdriven
    rw [takePair_of_rest (ht.status u), ht.withPair (ht.resultOf u)]
    have hget (v : Leaf) : (t.units.set u { t.units.get u with pair := t.resultOf u }).get v =
        if v = u then { t.units.get u with pair := t.resultOf u } else t.units.get v := Four.get_set _ _ _ _
    refine ⟨hdriven, k.tables, k.members, k.feedback, fun v => ?_, fun v => ?_, fun v hv => ?_⟩
    · rw [State.setUnit_units, hget]
      split
      next hvu =>
        rw [hvu, k.units u]
      next => exact k.units v
    · rw [State.setUnit_units, hget]
      split
      · exact ht.resultOf u
      · exact k.pair v
    · rw [State.setUnit_units, hget]
      split
      next hvu =>
        rw [k.driven.sameInputs.cfg, ← hvu, hv] at hne
        cases hne
      next => exact k.unmapped v hv
  · exact k

theorem AllRest.judge {s : State} (h : AllRest s) (u : Leaf) : s.judge u = s := by
  have hneeds : s.needsRun u = false := by
    unfold State.needsRun
    rw [h.probed u]
    rfl
  unfold State.judge
  rw [hneeds, Bool.and_false, Bool.false_and]
  rfl

theorem AllRest.judgeAll {s : State} (h : AllRest s) : s.judgeAll = s :=
  List.foldlRecOn (motive := fun t => t = s) N4.all State.judge rfl fun t ht u _ => by rw [ht, h.judge u]

theorem Idles.serveStep {s t v : State} (h : AllRest s) (k : Idles s t) (hv : t.serveStep = some v) : Idles s v := by
  have ht := k.allRest h
  obtain ⟨l, -, rfl⟩ | ⟨w, hqueue, -, rfl⟩ | ⟨w, r, hr, rfl⟩ := serveStep_takes hv
  · refine ⟨k.driven.trans (driven_grantProbe t l), k.tables, k.members, fun m => ?_, k.units, k.pair, k.unmapped⟩
    obtain ⟨p, hp⟩ := k.feedback m
    unfold State.grantProbe
    rw [State.setFeedback_feedback, Four.get_set]
    split
    next hl =>
      rw [← hl, hp]
      exact ⟨_, rfl⟩
    next => exact ⟨p, hp⟩
  · obtain ⟨-, e, he⟩ := mem_startQueue_iff.1 hqueue
    rw [ht.status w] at he
    cases he
  · rw [ht.status w] at hr
    cases hr

theorem Idles.handPairs {s t : State} (h : AllRest s) (k : Idles s t) : Idles s t.handPairs :=
  List.foldlRecOn (motive := Idles s) N4.all State.handPair k fun _ ht u _ => ht.handPair h u

theorem AllRest.drive {s : State} (h : AllRest s) : Idles s s.drive := by
  have hpairs := ((Idles.refl h).handPairs h).handPairs h
  unfold State.drive
  rw [(hpairs.allRest h).judgeAll]
  exact serve_induction (P := Idles s) (fun _ _ hv k => k.serveStep h hv) hpairs

/-! ### The weather and the brigade result without any source -/

theorem formWeather_of_none {s : State} (hown : s.weather.speedWindow = []) (hpeers : s.peers.fresh = [])
    (hgoverning : s.weather.governing = none) (hbasis : s.weather.basis = .none) (hrain : s.weather.governingRain = .unknown) :
    s.formWeather = s := by
  have hnone : s.ownWeather = none := by
    unfold State.ownWeather
    rw [hown]
    split <;> rfl
  have hset : s.candidateSet = ([], .none) := by
    unfold State.candidateSet State.primaryCandidates State.fallbackCandidates State.ownCandidates
    rw [hnone, hpeers]
    rfl
  have hweather : { s.weather with governing := none, basis := .none, governingRain := .unknown } = s.weather := by
    rw [← hgoverning, ← hbasis, ← hrain]
  unfold State.formWeather
  rw [hset, hgoverning, hbasis]
  show s.setWeather { s.weather with governing := none, basis := .none, governingRain := .unknown } = s
  rw [hweather]
  rfl

theorem formBrigade_of_none {s : State} (hown : s.zones.ownOverride = none) (hpeers : s.peers.fresh = [])
    (hbrigade : s.zones.brigade = none) : s.formBrigade = s := by
  have hresolution : s.resolution = none := by
    unfold State.resolution State.overrideCandidates State.peerOverrides
    rw [hown, hpeers]
    rfl
  unfold State.formBrigade
  rw [hresolution, ← hbrigade]

theorem freshTable_fresh (own : Nat) (settledFrom : Option Nat) : (freshTable own settledFrom).fresh = [] := by
  unfold PeerTable.fresh freshTable
  rw [List.filterMap_eq_nil_iff]
  intro r hr
  obtain ⟨a, -, rfl⟩ := List.mem_map.1 hr
  rfl

end Sys2Proof.Machine
end

section
/-! SUPPORT. The starts: the state that they begin from, and what they come to (R191, R192). -/

namespace Sys2Proof.Machine

/-! ### The state before the first pairs -/

/-- Every unit's rest position handed. -/
def State.restsHanded (s : State) : Four DemandTable :=
  Four.ofFn fun u => if s.cfg.isUnit u then { s.tables.get u with restPosition := s.unitPosition u } else s.tables.get u

theorem handKept_eq (s : State) : s.handKept = { s with tables := s.restsHanded } := by
  have hstep (t : Four DemandTable) (u : Leaf) :
      (if ({ s with tables := t } : State).cfg.isUnit u then State.handRest { s with tables := t } u else { s with tables := t }) =
        { s with tables := t.set u (if s.cfg.isUnit u then { t.get u with restPosition := s.unitPosition u } else t.get u) } := by
    by_cases hu : s.cfg.isUnit u = true
    · rw [if_pos hu]
      exact if_pos hu
    · have hset : t.set u (t.get u) = t := Four.ext_get fun v => by
        rw [Four.get_set]
        split
        next h => rw [h]
        next => rfl
      rw [if_neg hu, hset]
      exact if_neg hu
  have hall : s.handKept = N4.all.foldl (fun t u => if t.cfg.isUnit u then t.handRest u else t) { s with tables := s.tables } := rfl
  rw [hall]
  unfold N4.all
  simp only [List.foldl_cons, List.foldl_nil, hstep]
  refine congrArg (fun tables => ({ s with tables := tables } : State)) (Four.ext_get fun u => ?_)
  unfold State.restsHanded
  rw [Four.get_ofFn]
  cases u <;> rfl

section
variable (s : State) (i : StartInputs) (store : SettingsStore) (kept : Leaf → Option KeptLeaf)

/-- The blocks at their start values, the kept positions handed. -/
def State.startBase : State := { s.blocksStarted i store kept with tables := (s.blocksStarted i store kept).restsHanded }

theorem startBase_unit (u : Leaf) : (s.startBase i store kept).units.get u = UnitRecord.kept (kept u) := Four.get_ofFn _ u

theorem startBase_feedback (l : Leaf) : (s.startBase i store kept).feedback.get l = FeedbackRecord.kept store.inForce l (kept l) :=
  Four.get_ofFn _ l

theorem startBase_zone (z : Zone) : (s.startBase i store kept).zones.records.get z = .atStart := PerZone.get_ofFn _ z

theorem unitKept_eq (k : Option KeptLeaf) : UnitRecord.kept k = { UnitRecord.atStart with
    failureCount := (UnitRecord.kept k).failureCount, lastFault := (UnitRecord.kept k).lastFault,
    lastRunFailed := (UnitRecord.kept k).lastRunFailed } := by
  cases k <;> rfl

theorem feedbackKept_eq (c : Settings) (l : Leaf) (k : Option KeptLeaf) : FeedbackRecord.kept c l k = { FeedbackRecord.atStart with
    count := (FeedbackRecord.kept c l k).count, probe := if c.mapped l then .requested else .none } := by
  unfold FeedbackRecord.kept
  split <;> rfl

theorem startBase_allRest : AllRest (s.startBase i store kept) where
  status := fun u => by rw [startBase_unit, unitKept_eq]; rfl
  retryHold := fun u => by rw [startBase_unit, unitKept_eq]; rfl
  fireOwed := fun u => by rw [startBase_unit, unitKept_eq]; rfl
  referenceOwed := fun u => by rw [startBase_unit, unitKept_eq]; rfl
  pair := fun u => by rw [startBase_unit, unitKept_eq]; rfl
  probed := fun u => by
    have hunprobed (l : Leaf) : ((s.startBase i store kept).feedback.get l).presence = .unprobed := by
      rw [startBase_feedback, feedbackKept_eq]
      rfl
    have hmember : ∃ m, m ∈ (s.startBase i store kept).cfg.membersOf u := by
      unfold Settings.membersOf
      split
      · exact ⟨u, List.mem_cons_self⟩
      · exact ⟨u, List.mem_cons_self⟩
    obtain ⟨m, hm⟩ := hmember
    have hnot : (s.startBase i store kept).probesEnded u = false := List.all_eq_false.2 ⟨m, hm, by rw [hunprobed]; decide⟩
    unfold State.probed
    rw [hnot, Bool.false_and]
  fire := by
    refine List.any_eq_false.2 fun z _ => ?_
    rw [startBase_zone]
    simp [ZoneRecord.atStart]
  brigade := rfl

theorem startBase_reform : (s.startBase i store kept).reform = s.startBase i store kept := by
  have hfresh : (s.startBase i store kept).peers.fresh = [] := freshTable_fresh _ _
  have hweather : (s.startBase i store kept).weather.speedWindow = [] ∧ (s.startBase i store kept).weather.governing = none ∧
      (s.startBase i store kept).weather.basis = .none ∧ (s.startBase i store kept).weather.governingRain = .unknown := by
    show (Weather.started store.inForce i s.now).speedWindow = [] ∧ (Weather.started store.inForce i s.now).governing = none ∧
      (Weather.started store.inForce i s.now).basis = .none ∧ (Weather.started store.inForce i s.now).governingRain = .unknown
    unfold Weather.started Weather.readRain
    cases i.rain <;> dsimp only <;> split <;> exact ⟨rfl, rfl, rfl, rfl⟩
  obtain ⟨hwindow, hgoverning, hbasis, hrain⟩ := hweather
  unfold State.reform
  rw [formWeather_of_none hwindow hfresh hgoverning hbasis hrain]
  exact formBrigade_of_none rfl hfresh rfl

end

theorem started_eq (s : State) (i : StartInputs) (kept : Settings → Leaf → Option KeptLeaf) : s.started i kept =
    (s.startBase i (s.store.atStart (startAddress i)) (kept (s.store.atStart (startAddress i)).inForce)).drive := by
  unfold State.started
  dsimp only
  rw [handKept_eq]
  exact congrArg State.drive (startBase_reform s i _ _)

end Sys2Proof.Machine
end

section
/-! SUPPORT. The starts and the restart wait (R191, R192). -/

namespace Sys2Proof.Machine

/-! ### What a start comes to -/

theorem weatherStarted_eq (c : Settings) (i : StartInputs) (now : Nat) :
    Weather.started c i now = weatherAfterStart now c.weatherReporter i.rain := by
  unfold Weather.started weatherAfterStart Weather.readRain
  cases c.weatherReporter <;> cases i.rain <;> rfl

theorem detectionStarted_eq (c : Settings) (i : StartInputs) : Detection.started c i = detectionAfterStart c i := rfl

theorem validAddress_ite {α : Type} (a : Nat) (x y : α) :
    (if validAddress a then x else y) = if 1 ≤ a ∧ a ≤ 32 then x else y := by
  unfold validAddress
  simp only [Bool.and_eq_true, decide_eq_true_eq]

/-- The blocks that a start begins from, but for the leaf records. -/
structure StartBlocks (s : State) (i : StartInputs) (x : SettingsStore) (b : State) : Prop where
  phase : b.phase = .running
  now : b.now = s.now
  pending : b.pending = s.pending
  draws : b.draws = s.draws
  store : b.store = x
  zones : b.zones = ⟨PerZone.ofFn fun _ => ⟨.clear, 0#8, .none⟩, none, 0, none⟩
  peers : b.peers = freshTable (startAddress i) (if validAddress (startAddress i) then none else some s.now)
  composer : b.composer = ⟨none, 255#8, none, none⟩
  line : b.line = .started (startAddress i) s.now
  supply : b.supply = .started i.mains i.battery
  detection : b.detection = detectionAfterStart x.inForce i
  weather : b.weather = weatherAfterStart s.now x.inForce.weatherReporter i.rain
  port : b.port = ⟨none, false⟩
  members : ∀ l, b.members.get l = ⟨false, .driving, 0, .off, none, false⟩
  tables : ∀ u, b.tables.get u = ⟨none, if b.cfg.isUnit u then b.unitPosition u else none⟩

theorem startBase_blocks (s : State) (i : StartInputs) (store : SettingsStore) (kept : Leaf → Option KeptLeaf) :
    StartBlocks s i store (s.startBase i store kept) where
  phase := rfl
  now := rfl
  pending := rfl
  draws := rfl
  store := rfl
  zones := rfl
  peers := rfl
  composer := rfl
  line := rfl
  supply := rfl
  detection := detectionStarted_eq _ i
  weather := weatherStarted_eq _ i _
  port := rfl
  members := fun l => Four.get_const _ l
  tables := fun u => by
    have hposition : (s.startBase i store kept).unitPosition u = (s.blocksStarted i store kept).unitPosition u :=
      unitPosition_of_feedback rfl rfl u
    have htable : (s.blocksStarted i store kept).tables.get u = ⟨none, none⟩ := Four.get_const _ u
    rw [hposition]
    show (State.restsHanded _).get u = _
    unfold State.restsHanded
    rw [Four.get_ofFn, htable]
    exact (apply_ite (DemandTable.mk none) _ _ _).symm

theorem eq_of_kept_pair {x : UnitRecord} {k : Option KeptLeaf} (h : x = { UnitRecord.kept k with pair := x.pair }) :
    x = ⟨x.pair, .rest, none, x.failureCount, x.lastFault, x.lastRunFailed, none, false, false, none⟩ := by
  rw [unitKept_eq] at h
  rw [h]
  rfl

theorem eq_of_kept_probe {g : FeedbackRecord} {c : Settings} {l : Leaf} {k : Option KeptLeaf}
    (h : (FeedbackRecord.kept c l k).ButProbe g) : g = ⟨.unprobed, .pulse, g.count, none, none, none, none, 0, g.probe⟩ := by
  obtain ⟨p, h⟩ := h
  rw [feedbackKept_eq] at h
  rw [h]
  rfl

/-- What the first pairs and the probes granted make of the base of a start. -/
theorem afterStart_of_idles {s b t : State} {i : StartInputs} (h : StartBlocks s i (s.store.atStart (10 * i.tens + i.units)) b)
    (hrest : AllRest b) (hunits : ∀ u, ∃ k, b.units.get u = UnitRecord.kept k)
    (hfeedback : ∀ l, ∃ k, b.feedback.get l = FeedbackRecord.kept b.cfg l k) (hidles : Idles b t)
    (hpaired : ∀ u, t.Paired u) (hsettled : ∀ l, (b.feedback.get l).Settled b.now (t.feedback.get l)) : afterStart s i t.refresh := by
  have hd := hidles.driven
  have hcfg : t.cfg = b.cfg := hd.sameInputs.cfg
  have hforce : b.cfg = (s.store.atStart (10 * i.tens + i.units)).inForce := congrArg SettingsStore.inForce h.store
  have hphase : t.phase = .running := hd.phase.trans h.phase
  have hfire : ¬ ∃ z, z.isIn t.cfg.answerSet = true ∧ (t.zones.records.get z).state ≠ .clear := by
    rw [← fire_iff, (hidles.allRest hrest).fire]
    exact Bool.false_ne_true
  obtain ⟨halarm, hfault, hconfirmation, -⟩ := (outputsFollowState t).2 (by rw [hphase]; nofun)
  have hprobe (l : Leaf) : (b.cfg.mapped l = false ∧ (t.feedback.get l).probe = .none) ∨ (b.cfg.mapped l = true ∧
      ((t.feedback.get l).probe = .requested ∨ (t.feedback.get l).probe = .settle (s.now + 50))) := by
    obtain ⟨k, hk⟩ := hfeedback l
    have hprobe := (hsettled l).probe
    rw [hk, feedbackKept_eq, h.now] at hprobe
    dsimp only at hprobe
    cases hmapped : b.cfg.mapped l with
    | false =>
      rw [hmapped] at hprobe
      exact .inl ⟨rfl, hprobe.resolve_right fun h => nomatch h.1⟩
    | true =>
      rw [hmapped] at hprobe
      exact .inr ⟨rfl, hprobe.imp id And.right⟩
  have hrecord (l : Leaf) : t.feedback.get l =
      ⟨.unprobed, .pulse, (t.feedback.get l).count, none, none, none, none, 0, (t.feedback.get l).probe⟩ := by
    obtain ⟨k, hk⟩ := hfeedback l
    have hbut := hidles.feedback l
    rw [hk] at hbut
    exact eq_of_kept_probe hbut
  refine ⟨hphase, hd.now.trans h.now, hd.pending.trans h.pending, hd.draws.trans h.draws, hd.store.trans h.store,
    hd.zones.trans h.zones, hd.peers.trans (h.peers.trans ?_), hd.composer.trans h.composer, hd.line.trans (h.line.trans ?_),
    hd.supply.trans h.supply, hd.detection.trans (h.detection.trans ?_), hd.weather.trans (h.weather.trans ?_), hd.port.trans h.port,
    ?_, ?_, ?_, fun u => ⟨?_, ?_, ?_⟩, fun l => ⟨?_, ?_, ?_, ?_⟩,
    fun l hl => ?_, State.refresh_refresh t⟩
  · rw [validAddress_ite]
    rfl
  · unfold LineInterface.started
    rw [validAddress_ite, validAddress_ite]
    rfl
  · rw [← hforce, ← hcfg]
    rfl
  · rw [← hforce, ← hcfg]
    rfl
  · exact Bool.eq_false_iff.2 fun h => hfire (halarm.1 h).2
  · exact Bool.eq_false_iff.2 fun h => hfire (hconfirmation.1 h).2.1
  · exact hfault.trans (and_iff_right hphase)
  · have hposition : t.unitPosition u = b.unitPosition u := unitPosition_congr hcfg fun m _ => (hidles.feedback m).samePlace
    show t.tables.get u = ⟨none, if t.cfg.isUnit u then t.unitPosition u else none⟩
    rw [hidles.tables, h.tables, hcfg, hposition]
  · obtain ⟨k, hk⟩ := hunits u
    have hunit := hidles.units u
    rw [hk] at hunit
    have hpair : (t.units.get u).pair = if t.cfg.isUnit u then t.resultOf u else ⟨none, .none⟩ := by
      split
      next hu => exact hpaired u hu
      next hu =>
        rw [hidles.unmapped u (by rw [← hcfg]; exact Bool.eq_false_iff.2 hu), hk, unitKept_eq]
        rfl
    refine (eq_of_kept_pair hunit).trans ?_
    rw [hpair]
    rfl
  · show t.members.get u = _
    rw [hidles.members]
    exact h.members u
  · exact hrecord l
  · show (t.feedback.get l).probe = .none ↔ t.cfg.mapped l = false
    rw [hcfg]
    obtain ⟨hmapped, hp⟩ | ⟨hmapped, hp | hp⟩ := hprobe l <;> rw [hmapped, hp]
    · exact iff_of_true rfl rfl
    · exact iff_of_false nofun nofun
    · exact iff_of_false nofun nofun
  · intro due hdue
    obtain ⟨-, hp⟩ | ⟨-, hp | hp⟩ := hprobe l <;> cases hp.symm.trans hdue
    rfl
  · intro due hdue
    obtain ⟨-, hp⟩ | ⟨-, hp | hp⟩ := hprobe l <;> cases hp.symm.trans hdue
  · have hunprobed : (t.feedback.get l).presence = .unprobed := by rw [hrecord]
    have hstatus : (t.unitOf l).status = .rest := (hidles.allRest hrest).status _
    show t.motion l = .unref
    unfold State.motion State.restMotion
    rw [hunprobed, hstatus]
    rfl

/-- A start from the base, and the leaf records as they were kept. -/
theorem startBase_drive_spec {s : State} {i : StartInputs} {x : SettingsStore} (hx : x = s.store.atStart (10 * i.tens + i.units))
    (kept : Leaf → Option KeptLeaf) {t : State} (ht : t = (s.startBase i x kept).drive.refresh) :
    afterStart s i t ∧ t.cfg = x.inForce ∧
      ∀ l, (t.feedback.get l).count = (FeedbackRecord.kept x.inForce l (kept l)).count ∧
        (t.units.get l).failureCount = (UnitRecord.kept (kept l)).failureCount ∧
        (t.units.get l).lastFault = (UnitRecord.kept (kept l)).lastFault ∧
        (t.units.get l).lastRunFailed = (UnitRecord.kept (kept l)).lastRunFailed := by
  have hblocks := startBase_blocks s i x kept
  have hrest := startBase_allRest s i x kept
  have hunit (u : Leaf) := startBase_unit s i x kept u
  have hfeedback (l : Leaf) := startBase_feedback s i x kept l
  generalize s.startBase i x kept = b at hblocks hrest hunit hfeedback ht
  have hidles := hrest.drive
  have hpaired := drive_paired b
  have hsettled := settled_drive b
  generalize b.drive = v at hidles hpaired hsettled ht
  have hcfg : b.cfg = x.inForce := congrArg SettingsStore.inForce hblocks.store
  subst ht
  refine ⟨afterStart_of_idles (hx ▸ hblocks) hrest (fun u => ⟨_, hunit u⟩) (fun l => ⟨kept l, by rw [hcfg]; exact hfeedback l⟩) hidles
    hpaired hsettled, hidles.driven.sameInputs.cfg.trans hcfg, fun l => ⟨?_, ?_⟩⟩
  · rw [← hfeedback]
    exact hidles.driven.count l
  · rw [← hunit]
    have hget := hidles.units l
    show (v.units.get l).failureCount = _ ∧ (v.units.get l).lastFault = _ ∧ (v.units.get l).lastRunFailed = _
    rw [hget]
    exact ⟨rfl, rfl, rfl⟩

end Sys2Proof.Machine
end

section
/-! SUPPORT. The restart wait, and the statement of the starts (R191, R192). -/

namespace Sys2Proof.Machine

/-! ### The restart wait -/

/-- What a restart wait begins from: the station with its relays released, no attempt series and an idle port. -/
def State.waitBase (s : State) : State :=
  { s with phase := .restartWait, line := { s.line with series := none }, port := ⟨none, false⟩ }

theorem beginRestartWait_motionOnly (s : State) : MotionOnly s.waitBase s.beginRestartWait.refresh := by
  have hd : Driven s s.stopProbes.haltAll := (driven_stopProbes s).trans (driven_haltAll _)
  have hfaults : SameFaults s s.stopProbes.haltAll := (SameFaults.of_units (stopProbes_units s)).trans (sameFaults_haltAll _)
  have hout : SameOutside s.waitBase s.beginRestartWait := by
    obtain ⟨now, -, pending, draws, store, line, composer, peers, detection, zones, weather, supply, -⟩ := hd.sameOutside
    exact ⟨now, rfl, pending, draws, store, congrArg LineInterface.dropSeries line, composer, peers, detection, zones, weather, supply, rfl⟩
  exact ⟨hout.follows hd.serviceTarget hd.sameFeedback hfaults, hout.refresh_eq⟩

theorem beginRestartWait_status (s : State) (u : Leaf) :
    (s.beginRestartWait.units.get u).status = (s.units.get u).status.halted s.now := by
  have h := haltAll_status s.stopProbes u
  rw [stopProbes_units, (driven_stopProbes s).now] at h
  exact h

theorem stilled_beginRestartWait (s : State) : Stilled s.beginRestartWait :=
  (stilled_haltAll_stopProbes s).of_status (fun _ => rfl) fun _ => id

theorem inRundown_iff (x : UnitRecord) : x.inRundown = true ↔ ∃ r due e, x.status = .inFlight r ∧ r.stage = .rundown due e := by
  unfold UnitRecord.inRundown UnitRecord.run?
  cases x.status with
  | rest => simp
  | waiting e => simp
  | inFlight r =>
    cases hst : r.stage <;> simp [hst]

theorem waitOver_iff {s : State} (hs : s.phase = .restartWait) :
    s.waitOver = true ↔ ∀ u r due e, (s.units.get u).status = .inFlight r → r.stage ≠ .rundown due e := by
  have hlist : s.units.toList = N4.all.map s.units.get := rfl
  unfold State.waitOver
  rw [hs, hlist, decide_eq_true rfl, Bool.true_and, Bool.not_eq_true', List.any_eq_false]
  constructor
  · intro h u r due e hr hst
    exact h _ (List.mem_map_of_mem (N4.mem_all u)) ((inRundown_iff _).2 ⟨r, due, e, hr, hst⟩)
  · intro h x hx hrundown
    obtain ⟨u, -, rfl⟩ := List.mem_map.1 hx
    obtain ⟨r, due, e, hr, hst⟩ := (inRundown_iff _).1 hrundown
    exact h u r due e hr hst

/-! ### The kept records -/

/-- The conditions under which a leaf's record is kept (R192). -/
def State.Keeps (s : State) (c : Settings) (l : Leaf) : Prop :=
  (s.feedback.get l).mode = .pulse ∧ (s.feedback.get l).count.isSome = true ∧ (∃ o, s.cfg.outputOf l = some o) ∧
    c.outputOf l = s.cfg.outputOf l ∧ c.stroke.get l = s.cfg.stroke.get l

theorem keptLeaf_of_keeps {s : State} {c : Settings} {l : Leaf} (h : s.Keeps c l) : ∃ n, (s.feedback.get l).count = some n ∧
    c.mapped l = true ∧
    s.keptLeaf c l = some ⟨n, (s.unitOf l).failureCount, (s.unitOf l).lastFault, (s.unitOf l).lastRunFailed⟩ := by
  obtain ⟨hmode, hcount, ⟨o, ho⟩, houtput, hstroke⟩ := h
  obtain ⟨n, hn⟩ := Option.isSome_iff_exists.1 hcount
  have hmapped : s.cfg.mapped l = true := by
    unfold Settings.mapped
    rw [ho]
    rfl
  refine ⟨n, hn, ?_, ?_⟩
  · unfold Settings.mapped
    rw [houtput, ho]
    rfl
  · unfold State.keptLeaf
    dsimp only
    rw [hmode, hn]
    dsimp only
    rw [hmapped, houtput, hstroke]
    simp

theorem keptLeaf_of_not_keeps {s : State} {c : Settings} {l : Leaf} (h : ¬ s.Keeps c l) : s.keptLeaf c l = none := by
  unfold State.keptLeaf
  dsimp only
  split
  next n hmode hcount =>
    refine if_neg fun hif => h ?_
    simp only [Bool.and_eq_true, decide_eq_true_eq] at hif
    obtain ⟨⟨hmapped, houtput⟩, hstroke⟩ := hif
    exact ⟨hmode, by rw [hcount]; rfl, Option.isSome_iff_exists.1 hmapped, houtput, hstroke⟩
  next => rfl

/-- Settles O59. -/
theorem startsAndRestarts : Obligations.StartsAndRestarts := by
  intro s i
  refine ⟨?_, fun hs r hr => ⟨fun hpending => ?_, fun hpending => ?_⟩, fun hs => ⟨fun hrundown => ?_, fun hover => ?_⟩⟩
  · obtain ⟨hafter, -, hkept⟩ := startBase_drive_spec (s := s) (i := i) rfl (fun _ => none) rfl
    have hexec : exec (.powerOnStart i) s =
        .next (s.startBase i (s.store.atStart (10 * i.tens + i.units)) fun _ => none).drive.refresh :=
      congrArg (fun t : State => Host.Outcome.next (φ := Fault) (ρ := Refusal) t.refresh) (started_eq s i fun _ _ => none)
    refine ⟨_, hexec, hafter, fun l => (hkept l).1.trans ?_, fun u => (hkept u).2⟩
    unfold FeedbackRecord.kept
    split <;> rfl
  · refine next_act (Running.started hs) _ ?_
    rw [if_pos (by rw [hr, show s.phase = .running from hs]; rfl), if_neg (by rw [hpending]; exact Bool.false_ne_true)]
  · have hnot : ¬ Running s.beginRestartWait := nofun
    obtain ⟨halarm, hfault, hconfirmation, -, -, -, -, -, -, hdriver, -⟩ := (outputsFollowState s.beginRestartWait).2 nofun
    have hstatus := beginRestartWait_status s
    refine ⟨s.beginRestartWait.refresh, next_act (Running.started hs) _ ?_, Bool.eq_false_iff.2 fun h => hnot (halarm.1 h).1,
      Bool.eq_false_iff.2 fun h => hnot (hfault.1 h).1, Bool.eq_false_iff.2 fun h => hnot (hconfirmation.1 h).1,
      Bool.eq_false_iff.2 fun h => ?_, (stilled_beginRestartWait s).formPins, fun u q hq hst => (hstatus u).trans ?_,
      fun u hu => (hstatus u).trans ?_, (stilled_beginRestartWait s).probes, beginRestartWait_motionOnly s⟩
    · rw [if_pos (by rw [hr, show s.phase = .running from hs]; rfl), if_pos hpending]
    · obtain ⟨x, n, hx, -⟩ := hdriver.1 h
      cases hx
    · rw [hq]
      unfold UnitStatus.halted
      dsimp only
      rw [hst]
    · obtain hu | ⟨e, hu⟩ | ⟨q, due, hu, hst⟩ := hu <;> rw [hu]
      · rfl
      · rfl
      · unfold UnitStatus.halted
        dsimp only
        rw [hst]
  · refine next_act (by rw [hs]; nofun) _ (if_neg fun h => ?_)
    obtain ⟨u, r, due, e, hr, hst⟩ := hrundown
    exact (waitOver_iff hs).1 h u r due e hr hst
  · obtain ⟨hafter, hcfg, hkept⟩ := startBase_drive_spec (s := s) (i := i) rfl
      (s.keptLeaf (s.store.atStart (10 * i.tens + i.units)).inForce) rfl
    generalize hx : s.store.atStart (10 * i.tens + i.units) = x at hafter hcfg hkept
    have hexec : exec (.restartStart i) s = .next (s.startBase i x (s.keptLeaf x.inForce)).drive.refresh := by
      refine next_act (by rw [hs]; nofun) _ ((if_pos ((waitOver_iff hs).2 hover)).trans ?_)
      rw [← hx]
      exact started_eq s i s.keptLeaf
    generalize (s.startBase i x (s.keptLeaf x.inForce)).drive.refresh = t at hafter hcfg hkept hexec
    refine ⟨t, hexec, hafter, fun l => ⟨fun hkeep => ?_, fun hkeep => ?_⟩⟩
    · obtain ⟨n, hn, hmapped, hleaf⟩ := keptLeaf_of_keeps (c := t.cfg) hkeep
      obtain ⟨hcount, hunit⟩ := hkept l
      rw [hcfg] at hmapped hleaf
      rw [hleaf] at hcount hunit
      refine ⟨hcount.trans ?_, hunit⟩
      unfold FeedbackRecord.kept
      rw [if_pos hmapped, hn]
      rfl
    · have hleaf := keptLeaf_of_not_keeps (c := t.cfg) hkeep
      obtain ⟨hcount, hunit⟩ := hkept l
      rw [hcfg] at hleaf
      rw [hleaf] at hcount hunit
      refine ⟨hcount.trans ?_, hunit⟩
      unfold FeedbackRecord.kept
      split <;> rfl

end Sys2Proof.Machine
end

section
/-! SUPPORT. The start queue in its order, and the steps of serving (R133 to R137). -/

namespace Sys2Proof.Machine

/-! ### The order of the queue (R133) -/

theorem queueBefore_iff {s : State} {u v : Leaf} : s.queueBefore u v = true ↔
    ∃ a b, (s.units.get u).status = .waiting a ∧ (s.units.get v).status = .waiting b ∧
      ((s.units.get v).pair.slot.rank < (s.units.get u).pair.slot.rank ∨
        ((s.units.get u).pair.slot.rank = (s.units.get v).pair.slot.rank ∧ (a < b ∨ (a = b ∧ u.number < v.number)))) := by
  unfold State.queueBefore
  split
  next a b ha hb =>
    rw [UnitRecord.entryTime?_eq_some_iff] at ha hb
    unfold UnitRecord.before
    simp only [ha, hb, Bool.or_eq_true, Bool.and_eq_true, decide_eq_true_eq, UnitStatus.waiting.injEq]
    constructor
    · exact fun h => ⟨a, b, rfl, rfl, h⟩
    · rintro ⟨_, _, rfl, rfl, h⟩
      exact h
  next hnone =>
    refine iff_of_false Bool.false_ne_true ?_
    rintro ⟨a, b, ha, hb, -⟩
    exact hnone a b (UnitRecord.entryTime?_eq_some_iff.2 ha) (UnitRecord.entryTime?_eq_some_iff.2 hb)

theorem queueBefore_waiting {s : State} {u v : Leaf} {a b : Nat} (ha : (s.units.get u).status = .waiting a)
    (hb : (s.units.get v).status = .waiting b) : s.queueBefore u v = true ↔
      (s.units.get v).pair.slot.rank < (s.units.get u).pair.slot.rank ∨
        ((s.units.get u).pair.slot.rank = (s.units.get v).pair.slot.rank ∧ (a < b ∨ (a = b ∧ u.number < v.number))) := by
  rw [queueBefore_iff]
  constructor
  · rintro ⟨a', b', ha', hb', h⟩
    cases ha.symm.trans ha'
    cases hb.symm.trans hb'
    exact h
  · exact fun h => ⟨a, b, ha, hb, h⟩

theorem queueBefore_asymm {s : State} {u v : Leaf} (h : s.queueBefore u v = true) : s.queueBefore v u = false := by
  obtain ⟨a, b, ha, hb, h⟩ := queueBefore_iff.1 h
  rw [Bool.eq_false_iff, ne_eq, queueBefore_waiting hb ha]
  omega

/-- What does not come after an entry does not come after those that it comes before. -/
theorem queueBefore_false_trans {s : State} {u v w : Leaf} (hu : ∃ a, (s.units.get u).status = .waiting a)
    (hv : ∃ a, (s.units.get v).status = .waiting a) (hw : ∃ a, (s.units.get w).status = .waiting a)
    (huv : s.queueBefore v u = false) (hvw : s.queueBefore w v = false) : s.queueBefore w u = false := by
  obtain ⟨a, ha⟩ := hu
  obtain ⟨b, hb⟩ := hv
  obtain ⟨c, hc⟩ := hw
  rw [Bool.eq_false_iff, ne_eq, queueBefore_waiting hb ha] at huv
  rw [Bool.eq_false_iff, ne_eq, queueBefore_waiting hc hb] at hvw
  rw [Bool.eq_false_iff, ne_eq, queueBefore_waiting hc ha]
  omega

/-- In the order of the queue. -/
def State.Ordered (s : State) (q : List Leaf) : Prop := q.Pairwise fun u v => s.queueBefore v u = false

theorem insertEntry_ordered {s : State} {u : Leaf} (hu : ∃ a, (s.units.get u).status = .waiting a) {q : List Leaf}
    (hq : ∀ v ∈ q, ∃ a, (s.units.get v).status = .waiting a) (h : s.Ordered q) : s.Ordered (s.insertEntry u q) := by
  induction q with
  | nil => exact List.pairwise_singleton _ _
  | cons v vs ih =>
    obtain ⟨hhead, htail⟩ := List.pairwise_cons.1 h
    have hv := hq v List.mem_cons_self
    have hvs (w : Leaf) (hw : w ∈ vs) := hq w (List.mem_cons_of_mem _ hw)
    unfold State.insertEntry
    split
    next hbefore =>
      refine List.pairwise_cons.2 ⟨fun w hw => ?_, h⟩
      obtain rfl | hw := List.mem_cons.1 hw
      · exact queueBefore_asymm hbefore
      · exact queueBefore_false_trans hu hv (hvs w hw) (queueBefore_asymm hbefore) (hhead w hw)
    next hbefore =>
      refine List.pairwise_cons.2 ⟨fun w hw => ?_, ih hvs htail⟩
      obtain rfl | hw := mem_insertEntry_iff.1 hw
      · exact Bool.eq_false_iff.2 hbefore
      · exact hhead w hw

theorem insertEntry_nodup {s : State} {u : Leaf} {q : List Leaf} (hu : u ∉ q) (h : q.Nodup) : (s.insertEntry u q).Nodup := by
  induction q with
  | nil => exact List.nodup_singleton u
  | cons v vs ih =>
    obtain ⟨hhead, htail⟩ := List.nodup_cons.1 h
    unfold State.insertEntry
    split
    · exact List.nodup_cons.2 ⟨hu, h⟩
    · refine List.nodup_cons.2 ⟨fun hmem => ?_, ih (fun hmem => hu (List.mem_cons_of_mem _ hmem)) htail⟩
      obtain rfl | hmem := mem_insertEntry_iff.1 hmem
      · exact hu List.mem_cons_self
      · exact hhead hmem

theorem foldr_insertEntry_ordered {s : State} {ls : List Leaf} (hls : ∀ v ∈ ls, ∃ a, (s.units.get v).status = .waiting a)
    (hnodup : ls.Nodup) : (ls.foldr (fun u q => s.insertEntry u q) []).Nodup ∧ s.Ordered (ls.foldr (fun u q => s.insertEntry u q) []) := by
  induction ls with
  | nil => exact ⟨List.nodup_nil, List.Pairwise.nil⟩
  | cons u ls ih =>
    obtain ⟨hhead, htail⟩ := List.nodup_cons.1 hnodup
    obtain ⟨hq, hordered⟩ := ih (fun v hv => hls v (List.mem_cons_of_mem _ hv)) htail
    rw [List.foldr_cons]
    refine ⟨insertEntry_nodup (fun hu => hhead (mem_foldr_insertEntry_iff.1 hu)) hq,
      insertEntry_ordered (hls u List.mem_cons_self) (fun v hv => ?_) hordered⟩
    exact hls v (List.mem_cons_of_mem _ (mem_foldr_insertEntry_iff.1 hv))

theorem startQueue_ordered (s : State) : s.startQueue.Nodup ∧ s.Ordered s.startQueue := by
  refine foldr_insertEntry_ordered (fun v hv => ?_) ((by decide : N4.all.Nodup).filter _)
  obtain ⟨a, ha⟩ := Option.isSome_iff_exists.1 (Bool.and_eq_true_iff.1 (List.mem_filter.1 hv).2).2
  exact ⟨a, UnitRecord.entryTime?_eq_some_iff.1 ha⟩

/-! ### The number of steps -/

theorem servedIn_serveLoop (n : Nat) (s : State) : ∃ k, k ≤ n ∧ servedIn k s (State.serveLoop n s) ∧
    (k < n → (State.serveLoop n s).serveStep = none) := by
  induction n generalizing s with
  | zero => exact ⟨0, Nat.le_refl 0, rfl, fun h => absurd h (Nat.lt_irrefl 0)⟩
  | succ n ih =>
    unfold State.serveLoop
    split
    next t ht =>
      obtain ⟨k, hk, hserved, hlast⟩ := ih t
      exact ⟨k + 1, Nat.succ_le_succ hk, ⟨t, ht, hserved⟩, fun h => hlast (Nat.lt_of_succ_lt_succ h)⟩
    next hnone => exact ⟨0, Nat.zero_le _, rfl, fun _ => hnone⟩

end Sys2Proof.Machine
end

section
/-! SUPPORT. A queue entry started and a run preempted, and what one step of serving does (R133 to R137). -/

namespace Sys2Proof.Machine

/-! ### A queue entry started -/

theorem aimAt_eq_aimOf (s : State) (u : Leaf) (g : Nat) :
    ((s.aimAt u g).kind, (s.aimAt u g).target, (s.aimAt u g).direction) = aimOf (s.unitPosition u) g := by
  unfold State.aimAt aimOf unrefDirection
  cases s.unitPosition u with
  | some p => rfl
  | none => by_cases h : g = 1000 <;> simp [h, endOf]

theorem slotSpeed_eq (x : Slot) : x.speed = if x = .fire ∨ x = .brigade then .full else .quiet := by cases x <;> rfl

/-- The aim that an entry is started with. -/
def State.startAim (s : State) (u : Leaf) : Aim :=
  if (s.units.get u).referenceOwed then referenceAim else s.aimAt u ((s.units.get u).pair.target.getD 0)

theorem startedRun_eq (s : State) (u : Leaf) :
    startedRun s u = (s.startAim u).run (s.units.get u).pair.slot (s.presentMembers u) s.now := by
  unfold startedRun State.startAim Aim.run
  rw [slotSpeed_eq]
  dsimp only
  by_cases h : (s.units.get u).referenceOwed = true
  · rw [if_pos h, if_pos h]
    rfl
  · rw [if_neg h, if_neg h, ← aimAt_eq_aimOf]
    rfl

theorem nextDirection_eq (s : State) (u : Leaf) : s.nextDirection u = (startedRun s u).direction := by
  rw [startedRun_eq]
  unfold State.nextDirection State.startAim
  dsimp only
  split <;> rfl

theorem readyMembers_members (s : State) (ls : List Leaf) (m : Leaf) : (s.readyMembers ls).members.get m =
    if m ∈ ls then ⟨false, .driving, (s.members.get m).switchedOn, .off, none, false⟩ else s.members.get m := by
  unfold State.readyMembers
  induction ls generalizing s with
  | nil => exact (if_neg List.not_mem_nil).symm
  | cons l ls ih =>
    have hset : (s.setMember l { MemberRecord.atStart with switchedOn := (s.members.get l).switchedOn }).members.get m =
        if m = l then ⟨false, .driving, (s.members.get l).switchedOn, .off, none, false⟩ else s.members.get m := Four.get_set _ _ _ _
    rw [List.foldl_cons, ih, hset]
    by_cases hm : m = l
    · subst hm
      simp
    · simp [hm]

theorem hasStarted_startUnit (s : State) (u : Leaf) : hasStarted s (s.startUnit u) u := by
  have hunits : (s.startUnit u).units = s.units.set u { s.units.get u with
      status := .inFlight (startedRun s u)
      lastDirection := some (startedRun s u).direction
      lastRunFailed := false
      fireOwed := false
      referenceOwed := false } := by
    rw [startedRun_eq]
    exact readyMembers_units _ _
  refine ⟨?_, fun v hv => ?_, fun m => readyMembers_members _ _ m, startUnit_tables s u, startUnit_feedback s u,
    (driven_startUnit s u).motionOnly (sameFaults_startUnit s u)⟩
  · rw [hunits, Four.get_set, if_pos rfl]
  · rw [hunits, Four.get_set, if_neg hv]

/-! ### A run preempted -/

theorem preemptable_iff {s : State} {v : Leaf} {r : Run} : s.preemptable v = some r ↔ mayBePreempted s v r := by
  have hstage : r.preemptable = true ↔ (r.stage = .running ∨ ∃ due, r.stage = .starting due) ∧
      r.slot ≠ .fire ∧ r.slot ≠ .brigade ∧ r.kind ≠ .reference ∧ r.backoff = false := by
    unfold Run.preemptable
    have hslot : r.slot.fireClass = false ↔ r.slot ≠ .fire ∧ r.slot ≠ .brigade := by cases r.slot <;> simp [Slot.fireClass]
    cases r.stage <;> simp [hslot, and_assoc]
  unfold State.preemptable mayBePreempted
  rw [Option.bind_eq_some_iff]
  constructor
  · rintro ⟨q, hq, hif⟩
    split at hif
    next hp =>
      cases hif
      exact ⟨UnitRecord.run?_eq_some_iff.1 hq, hstage.1 hp⟩
    next => cases hif
  · rintro ⟨hr, h⟩
    exact ⟨r, UnitRecord.run?_eq_some_iff.2 hr, if_pos (hstage.2 h)⟩

/-- Of two runs the first is stopped before the other, or is that run: a lower rank, or the same and no lower leaf number. -/
def StopsBefore (p q : Leaf × Run) : Prop := p.2.slot.rank < q.2.slot.rank ∨ (p.2.slot.rank = q.2.slot.rank ∧ q.1.number ≤ p.1.number)

theorem StopsBefore.trans {p q x : Leaf × Run} (h : StopsBefore p q) (k : StopsBefore q x) : StopsBefore p x := by
  unfold StopsBefore at *
  omega

theorem stoppedFirst_spec {p q : Leaf × Run} (h : p.1.number < q.1.number) :
    StopsBefore (stoppedFirst p q) p ∧ StopsBefore (stoppedFirst p q) q ∧ (stoppedFirst p q = p ∨ stoppedFirst p q = q) := by
  unfold stoppedFirst StopsBefore
  split
  next hlt => exact ⟨.inr ⟨rfl, Nat.le_refl _⟩, .inl hlt, .inl rfl⟩
  next hge => exact ⟨by omega, .inr ⟨rfl, Nat.le_refl _⟩, .inr rfl⟩

theorem foldl_stoppedFirst_spec (cs : List (Leaf × Run)) (c : Leaf × Run)
    (h : (c :: cs).Pairwise fun p q => p.1.number < q.1.number) :
    cs.foldl stoppedFirst c ∈ c :: cs ∧ ∀ x ∈ c :: cs, StopsBefore (cs.foldl stoppedFirst c) x := by
  induction cs generalizing c with
  | nil => exact ⟨List.mem_cons_self, fun x hx => by rw [List.mem_singleton.1 hx]; exact .inr ⟨rfl, Nat.le_refl _⟩⟩
  | cons d ds ih =>
    obtain ⟨hc, hds⟩ := List.pairwise_cons.1 h
    obtain ⟨hd, htail⟩ := List.pairwise_cons.1 hds
    obtain ⟨hfirst, hsecond, hone⟩ := stoppedFirst_spec (hc d List.mem_cons_self)
    have hpairwise : (stoppedFirst c d :: ds).Pairwise fun p q => p.1.number < q.1.number := by
      refine List.pairwise_cons.2 ⟨fun x hx => ?_, htail⟩
      obtain hone | hone := hone <;> rw [hone]
      · exact hc x (List.mem_cons_of_mem _ hx)
      · exact hd x hx
    obtain ⟨hmem, hbefore⟩ := ih (stoppedFirst c d) hpairwise
    have hself := hbefore _ List.mem_cons_self
    rw [List.foldl_cons]
    refine ⟨?_, fun x hx => ?_⟩
    · obtain hmem | hmem := List.mem_cons.1 hmem
      · rw [hmem]
        obtain hone | hone := hone <;> rw [hone]
        · exact List.mem_cons_self
        · exact List.mem_cons_of_mem _ List.mem_cons_self
      · exact List.mem_cons_of_mem _ (List.mem_cons_of_mem _ hmem)
    · obtain rfl | hx := List.mem_cons.1 hx
      · exact hself.trans hfirst
      · obtain rfl | hx := List.mem_cons.1 hx
        · exact hself.trans hsecond
        · exact hbefore x (List.mem_cons_of_mem _ hx)

/-- The units whose runs preemption may stop, in leaf order. -/
def State.preemptables (s : State) : List (Leaf × Run) := N4.all.filterMap fun u => (s.preemptable u).map fun r => (u, r)

theorem mem_preemptables {s : State} {v : Leaf} {r : Run} : (v, r) ∈ s.preemptables ↔ mayBePreempted s v r := by
  unfold State.preemptables
  rw [List.mem_filterMap]
  constructor
  · rintro ⟨w, -, hw⟩
    obtain ⟨q, hq, heq⟩ := Option.map_eq_some_iff.1 hw
    cases heq
    exact preemptable_iff.1 hq
  · intro h
    exact ⟨v, N4.mem_all v, by rw [preemptable_iff.2 h]; rfl⟩

theorem preemptables_pairwise (s : State) : s.preemptables.Pairwise fun p q => p.1.number < q.1.number := by
  refine List.pairwise_filterMap.2 (List.Pairwise.imp ?_ (by decide : N4.all.Pairwise fun u v : Leaf => u.number < v.number))
  intro u v h p hp q hq
  obtain ⟨-, -, rfl⟩ := Option.map_eq_some_iff.1 hp
  obtain ⟨-, -, rfl⟩ := Option.map_eq_some_iff.1 hq
  exact h

theorem preemptCandidate_eq_none {s : State} (h : ∀ v r, ¬ mayBePreempted s v r) : s.preemptCandidate = none := by
  have hnil : s.preemptables = [] := List.eq_nil_iff_forall_not_mem.2 fun c hc => h c.1 c.2 (mem_preemptables.1 hc)
  have hcandidate : s.preemptCandidate = (match s.preemptables with | [] => none | c :: cs => some (cs.foldl stoppedFirst c)) := rfl
  rw [hcandidate, hnil]

theorem preemptCandidate_eq_some {s : State} (h : ∃ v r, mayBePreempted s v r) : ∃ v r, s.preemptCandidate = some (v, r) ∧
    mayBePreempted s v r ∧ ∀ w q, mayBePreempted s w q → r.slot.rank < q.slot.rank ∨ (r.slot.rank = q.slot.rank ∧ w.number ≤ v.number) := by
  obtain ⟨v, r, hr⟩ := h
  have hcandidate : s.preemptCandidate = (match s.preemptables with | [] => none | c :: cs => some (cs.foldl stoppedFirst c)) := rfl
  have hmem := mem_preemptables.2 hr
  have hiff (w : Leaf) (q : Run) := mem_preemptables (s := s) (v := w) (r := q)
  have hpairwise := preemptables_pairwise s
  rw [hcandidate]
  cases hlist : s.preemptables with
  | nil =>
    rw [hlist] at hmem
    cases hmem
  | cons c cs =>
    rw [hlist] at hpairwise
    obtain ⟨hin, hbefore⟩ := foldl_stoppedFirst_spec cs c hpairwise
    rw [← hlist] at hin hbefore
    exact ⟨_, _, rfl, (hiff _ _).1 hin, fun w q hq => hbefore (w, q) ((hiff w q).2 hq)⟩

/-- A unit at rest takes its pair and is judged: it stays at rest or goes to the queue, and nothing else is written. -/
theorem handPair_of_rest {s : State} {v : Leaf} (h : (s.units.get v).status = .rest) :
    (s.handPair v).tables = s.tables ∧ ((s.handPair v).units.get v).status = .rest ∧
      ∀ w, w ≠ v → (s.handPair v).units.get w = s.units.get w := by
  unfold State.handPair
  split
  · rw [takePair_of_rest h, State.setUnit_units]
    refine ⟨rfl, ?_, fun w hw => ?_⟩
    · rw [Four.get_set, if_pos rfl]
      exact h
    · rw [Four.get_set, if_neg hw]
  · exact ⟨rfl, h, fun _ _ => rfl⟩

theorem judge_of_rest {s : State} {v : Leaf} (h : (s.units.get v).status = .rest) :
    (s.judge v).tables = s.tables ∧
      (((s.judge v).units.get v).status = .rest ∨ ((s.judge v).units.get v).status = .waiting s.now) ∧
      ∀ w, w ≠ v → (s.judge v).units.get w = s.units.get w := by
  unfold State.judge
  split
  · unfold State.setStatus
    rw [State.setUnit_units]
    refine ⟨rfl, .inr ?_, fun w hw => ?_⟩
    · rw [Four.get_set, if_pos rfl]
    · rw [Four.get_set, if_neg hw]
  · exact ⟨rfl, .inl h, fun _ _ => rfl⟩

theorem placeAtRest_units_other (s : State) {v w : Leaf} (hw : w ≠ v) : (s.placeAtRest v).units.get w = s.units.get w := by
  show ((s.setStatus v .rest).units.get w) = _
  rw [State.setStatus, State.setUnit_units, Four.get_set, if_neg hw]

theorem hasBeenPreempted_preempt (s : State) (v : Leaf) (r : Run) : hasBeenPreempted s (s.preempt v r) v r := by
  refine ⟨fun hst => ?_, fun due hst => ⟨fun hneeds => ?_, fun hneeds => ?_⟩, fun w hw => ?_,
    (driven_preempt s v r).motionOnly (sameFaults_preempt s v r)⟩
  · have heq : s.preempt v r = s.toRundown v r .stopped := if_pos (by rw [hst]; rfl)
    rw [heq, toRundown_eq]
    refine ⟨?_, fun m hm => ?_⟩
    · dsimp only
      rw [Four.get_set, if_pos rfl]
    · dsimp only
      rw [Four.get_ofFn, if_pos hm]
      rfl
  · have heq : s.preempt v r = s.setStatus v (.waiting s.now) := by
      unfold State.preempt
      rw [if_neg (by rw [hst]; exact Bool.false_ne_true), if_pos ((needs_not_withheld_iff s v).2 hneeds)]
    rw [heq, State.setStatus, State.setUnit_units, Four.get_set, if_pos rfl]
  · have heq : s.preempt v r = ((s.placeAtRest v).handPair v).judge v := by
      unfold State.preempt
      rw [if_neg (by rw [hst]; exact Bool.false_ne_true), if_neg (mt (needs_not_withheld_iff s v).1 hneeds)]
    obtain ⟨htables, hrest, -⟩ := handPair_of_rest (placeAtRest_status s v)
    obtain ⟨htables', hjudged, -⟩ := judge_of_rest hrest
    have hnow : ((s.placeAtRest v).handPair v).now = s.now := ((driven_placeAtRest s v).trans (driven_handPair _ v)).now
    rw [heq, htables', htables, placeAtRest_restPosition]
    rw [hnow] at hjudged
    exact ⟨rfl, hjudged⟩
  · unfold State.preempt
    split
    · rw [toRundown_eq]
      dsimp only
      rw [Four.get_set, if_neg hw]
    · split
      · rw [State.setStatus, State.setUnit_units, Four.get_set, if_neg hw]
      · obtain ⟨-, hrest, hhand⟩ := handPair_of_rest (placeAtRest_status s v)
        obtain ⟨-, -, hjudge⟩ := judge_of_rest hrest
        rw [hjudge w hw, hhand w hw, placeAtRest_units_other s hw]

/-! ### The probe and the entry served -/

/-- A probe requested of the leaf at an output. -/
def State.Requested (s : State) (o : Output) (l : Leaf) : Prop := s.leafAt o = some l ∧ (s.feedback.get l).probe = .requested

theorem find?_filterMap_first {f : Output → Option Leaf} {p : Leaf → Bool} {os : List Output}
    (hos : os.Pairwise fun a b => a.number < b.number) (h : ∃ o ∈ os, ∃ l, f o = some l ∧ p l = true) :
    ∃ o l, f o = some l ∧ p l = true ∧ (∀ o' ∈ os, ∀ l', f o' = some l' → p l' = true → o.number ≤ o'.number) ∧
      (os.filterMap f).find? p = some l := by
  induction os with
  | nil =>
    obtain ⟨o, ho, -⟩ := h
    cases ho
  | cons a os ih =>
    obtain ⟨hhead, htail⟩ := List.pairwise_cons.1 hos
    by_cases ha : ∃ l, f a = some l ∧ p l = true
    · obtain ⟨l, hl, hp⟩ := ha
      refine ⟨a, l, hl, hp, fun o' ho' l' _ _ => ?_, ?_⟩
      · obtain rfl | ho' := List.mem_cons.1 ho'
        · exact Nat.le_refl _
        · exact Nat.le_of_lt (hhead o' ho')
      · rw [List.filterMap_cons_some hl, List.find?_cons_of_pos hp]
    · obtain ⟨o, ho, l, hl, hp⟩ := h
      have hmem : o ∈ os := (List.mem_cons.1 ho).resolve_left fun heq => ha ⟨l, heq ▸ hl, hp⟩
      obtain ⟨o, l, hl, hp, hfirst, hfind⟩ := ih htail ⟨o, hmem, l, hl, hp⟩
      refine ⟨o, l, hl, hp, fun o' ho' l' hl' hp' => ?_, ?_⟩
      · obtain rfl | ho' := List.mem_cons.1 ho'
        · exact absurd ⟨l', hl', hp'⟩ ha
        · exact hfirst o' ho' l' hl' hp'
      · cases hf : f a with
        | none => rw [List.filterMap_cons_none hf, hfind]
        | some k => rw [List.filterMap_cons_some hf, List.find?_cons_of_neg fun hk => ha ⟨k, hf, hk⟩, hfind]

theorem probeWaiting_first {s : State} (h : ∃ o l, s.Requested o l) : ∃ o l, s.Requested o l ∧
    (∀ o' l', s.Requested o' l' → o.number ≤ o'.number) ∧ s.probeWaiting = some l := by
  obtain ⟨o, l, hl, hp⟩ := h
  obtain ⟨o, l, hl, hp, hfirst, hfind⟩ := find?_filterMap_first (f := s.leafAt)
    (p := fun l => (s.feedback.get l).probe = .requested) (by decide : N4.all.Pairwise fun a b : Output => a.number < b.number)
    ⟨o, N4.mem_all o, l, hl, decide_eq_true hp⟩
  exact ⟨o, l, ⟨hl, of_decide_eq_true hp⟩, fun o' l' h' => hfirst o' (N4.mem_all o') l' h'.1 (decide_eq_true h'.2), hfind⟩

theorem probeWaiting_eq_none {s : State} (h : ¬ ∃ o l, s.Requested o l) : s.probeWaiting = none := by
  refine List.find?_eq_none.2 fun l hl hp => h ?_
  obtain ⟨o, -, ho⟩ := List.mem_filterMap.1 hl
  exact ⟨o, l, ho, of_decide_eq_true hp⟩

/-- A gang that needs two slots is passed over while the count is 1 (R135). -/
def State.Passed (s : State) (u : Leaf) : Prop := s.supply.slotCount = 1 ∧ 2 ≤ s.slotsNeeded u

theorem servedHead_eq_none {s : State} (h : ∀ u ∈ s.startQueue, s.Passed u) : s.servedHead = none :=
  List.find?_eq_none.2 fun u hu hp => by
    obtain ⟨hcount, hneed⟩ := h u hu
    simp [hcount, hneed] at hp

theorem servedHead_eq_some {s : State} {ahead behind : List Leaf} {u : Leaf} (hqueue : s.startQueue = ahead ++ u :: behind)
    (hahead : ∀ v ∈ ahead, s.Passed v) (hu : ¬ s.Passed u) : s.servedHead = some u := by
  unfold State.servedHead
  refine List.find?_eq_some_iff_append.2 ⟨?_, ahead, behind, hqueue, fun v hv => ?_⟩
  · unfold State.Passed at hu
    rw [not_and_or] at hu
    simpa using hu
  · obtain ⟨hcount, hneed⟩ := hahead v hv
    simp [hcount, hneed]

theorem pauseOver_iff {s : State} {u : Leaf} : s.pauseOver u = false ↔
    ∃ d due, (s.units.get u).reversal = some (d, due) ∧ d ≠ (startedRun s u).direction ∧ s.now < due := by
  unfold State.pauseOver
  rw [nextDirection_eq]
  cases (s.units.get u).reversal with
  | none => simp
  | some x =>
    obtain ⟨d, due⟩ := x
    simp

/-- Where no probe is granted, the entry served decides the step. -/
theorem serveStep_without_probe {s : State} (h : ¬ (1 ≤ s.freeSlots ∧ ∃ o l, s.Requested o l)) : s.serveStep =
    match s.servedHead with
    | none => none
    | some u =>
      if (s.slotsNeeded u : Int) ≤ s.freeSlots then (if s.pauseOver u then some (s.startUnit u) else none)
      else if (s.units.get u).pair.slot.fireClass && s.comingFree < (s.slotsNeeded u : Int) then
        s.preemptCandidate.map fun c => s.preempt c.1 c.2
      else none := by
  unfold State.serveStep
  split
  next l hl hfree =>
    refine absurd ⟨of_decide_eq_true hfree, ?_⟩ h
    by_contra hnone
    rw [probeWaiting_eq_none hnone] at hl
    cases hl
  next => rfl

/-! ### The statement -/

theorem rundownSlots_eq (x : UnitRecord) : x.rundownSlots = match x.run? with
    | some r => match r.stage with
      | .rundown _ _ => r.members.length
      | .starting _ => 0
      | .running => 0
    | none => 0 := by
  unfold UnitRecord.rundownSlots UnitRecord.run?
  cases x.status with
  | rest => rfl
  | waiting e => rfl
  | inFlight r => cases r.stage <;> rfl

theorem serve_lockout {s : State} (h : ¬ Running s ∨ s.detection.key.held = .lockout) : s.serve = s := by
  unfold State.serve
  refine if_neg fun hif => ?_
  obtain ⟨hphase, hkey⟩ := Bool.and_eq_true_iff.1 hif
  obtain h | h := h
  · exact h (decide_eq_true_iff.1 hphase : s.phase = .running)
  · exact of_decide_eq_true hkey ((key_eq_lockout_iff s).2 h)

theorem serve_running {s : State} (hs : Running s) (hkey : s.detection.key.held ≠ .lockout) : s.serve = State.serveLoop 16 s := by
  have hkey : s.key ≠ .lockout := fun h => hkey ((key_eq_lockout_iff s).1 h)
  have hs : s.phase = .running := hs
  unfold State.serve
  rw [if_pos (by rw [Bool.and_eq_true, decide_eq_true_eq, decide_eq_true_eq]; exact ⟨hs, hkey⟩)]

/-- Settles O47. -/
theorem startQueueIsOrderedAndServed : Obligations.StartQueueIsOrderedAndServed := by
  intro s
  obtain ⟨hnodup, hordered⟩ := startQueue_ordered s
  refine ⟨⟨hnodup, hordered, fun u => mem_startQueue_iff, fun u v a b ha hb => queueBefore_waiting ha hb⟩, fun hs hkey => ?_,
    serve_lockout, ?_⟩
  · rw [serve_running hs hkey]
    exact servedIn_serveLoop 16 s
  intro count free released coming need passed requested
  have hcount : count = (s.supply.slotCount : Int) := by
    dsimp only [count]
    rw [slotCount_eq]
    cases s.supply.state <;> rfl
  have hfree : free = s.freeSlots := congrArg (· - (s.slotsHeld : Int)) hcount
  have hcoming : coming = s.comingFree := by
    have hsum : N4.all.map released = s.units.toList.map UnitRecord.rundownSlots := by
      show _ = (N4.all.map s.units.get).map UnitRecord.rundownSlots
      rw [List.map_map]
      exact List.map_congr_left fun v _ => (rundownSlots_eq _).symm
    show free + _ = s.freeSlots + _
    rw [hsum, hfree]
  have hpassed (u : Leaf) : passed u ↔ s.Passed u := by
    show count = 1 ∧ (2 : Int) ≤ (s.slotsNeeded u : Nat) ↔ _
    unfold State.Passed
    rw [hcount]
    omega
  have hneed (u : Leaf) : need u = (s.slotsNeeded u : Int) := rfl
  rw [hfree, hcoming]
  simp only [hpassed, hneed]
  refine ⟨fun h1 hrequested => ?_, fun hnone => ⟨fun hall => ?_, fun ahead u behind hqueue hahead hu => ?_⟩⟩
  · obtain ⟨o, l, hl, hfirst, hwaiting⟩ := probeWaiting_first hrequested
    refine ⟨o, l, hl, hfirst, ?_⟩
    unfold State.serveStep
    rw [hwaiting, decide_eq_true h1]
    rfl
  · rw [serveStep_without_probe hnone, servedHead_eq_none hall]
  · rw [serveStep_without_probe hnone, servedHead_eq_some hqueue hahead hu]
    dsimp only
    have hpaused := pauseOver_iff (s := s) (u := u)
    have hfire := Slot.fireClass_iff (x := (s.units.get u).pair.slot)
    refine ⟨fun hfits hpause => ?_, fun hfits hpause => ?_, fun hlacks hwhy => ?_, fun hlacks hatFire hmore hsome => ?_⟩
    · rw [if_pos hfits, hpaused.2 hpause]
      rfl
    · refine ⟨s.startUnit u, ?_, hasStarted_startUnit s u⟩
      have hover : s.pauseOver u = true := by rw [← Bool.not_eq_false, hpaused]; exact hpause
      rw [if_pos hfits, hover]
      rfl
    · rw [if_neg (not_le.2 hlacks)]
      refine ite_eq_right_iff.2 fun hif => ?_
      obtain ⟨hatFire, hmore⟩ := Bool.and_eq_true_iff.1 hif
      have hmore := of_decide_eq_true hmore
      obtain hwhy | hwhy | hwhy := hwhy
      · exact absurd (hfire.1 hatFire) hwhy
      · exact absurd hmore (not_lt.2 hwhy)
      · rw [preemptCandidate_eq_none hwhy]
        rfl
    · obtain ⟨v, r, hcandidate, hmay, hbefore⟩ := preemptCandidate_eq_some hsome
      refine ⟨s.preempt v r, v, r, hmay, hbefore, ?_, hasBeenPreempted_preempt s v r⟩
      rw [if_neg (not_le.2 hlacks), hfire.2 hatFire, decide_eq_true hmore, hcandidate]
      rfl

end Sys2Proof.Machine
end

section
/-! SUPPORT. Edges of a gang's member: what synchronisation leaves unchanged, and the reports of the event (R30, R152, R159). -/

namespace Sys2Proof.Machine

/-! ### Units that go on moving -/

/-- A unit that moves goes on moving with the same members, and nothing else about its last run changes. -/
def UnitRecord.MovesOn (x y : UnitRecord) : Prop :=
  y.lastRunFailed = x.lastRunFailed ∧ ∀ r, x.status = .inFlight r → r.stage.moves = true →
    ∃ q, y.status = .inFlight q ∧ q.members = r.members ∧ q.stage.moves = true

theorem UnitRecord.MovesOn.refl (x : UnitRecord) : x.MovesOn x := ⟨rfl, fun r hr hst => ⟨r, hr, rfl, hst⟩⟩

/-- Every unit that moves goes on moving. -/
def MovesOn (s t : State) : Prop := ∀ u, (s.units.get u).MovesOn (t.units.get u)

theorem MovesOn.of_units {s t : State} (h : t.units = s.units) : MovesOn s t := fun u => by
  rw [h]
  exact .refl _

theorem MovesOn.trans {s t v : State} (h : MovesOn s t) (k : MovesOn t v) : MovesOn s v := fun u =>
  ⟨(k u).1.trans (h u).1, fun r hr hst => by
    obtain ⟨q, hq, hmembers, hmoves⟩ := (h u).2 r hr hst
    obtain ⟨x, hx, hmembers', hmoves'⟩ := (k u).2 q hq hmoves
    exact ⟨x, hx, hmembers'.trans hmembers, hmoves'⟩⟩

theorem movesOn_setRun {s : State} {u : Leaf} {r q : Run} (hr : (s.units.get u).status = .inFlight r) (hmembers : q.members = r.members)
    (hmoves : r.stage.moves = true → q.stage.moves = true) : MovesOn s (s.setRun u q) := fun v => by
  unfold State.setRun State.setStatus
  rw [State.setUnit_units, Four.get_set]
  split
  next hv =>
    subst hv
    refine ⟨rfl, fun x hx hst => ?_⟩
    cases hr.symm.trans hx
    exact ⟨q, rfl, hmembers, hmoves hst⟩
  next => exact .refl _

theorem movesOn_settleTimeout {s : State} {u : Leaf} {r : Run} (hr : (s.units.get u).status = .inFlight r) :
    MovesOn s (s.settleTimeout u r) := by
  unfold State.settleTimeout
  split
  · exact movesOn_setRun hr rfl id
  · exact .of_units rfl

theorem switchOn_units (s : State) (l : Leaf) (v : Speed) : (s.switchOn l v).units = s.units := rfl

theorem movesOn_toRundown {s : State} {u : Leaf} {r : Run} (hr : (s.units.get u).status = .inFlight r) (e : Ending) :
    MovesOn s (s.toRundown u r e) := fun v => by
  rw [toRundown_eq]
  dsimp only
  rw [Four.get_set]
  split
  next hv =>
    subst hv
    refine ⟨rfl, fun x hx _ => ?_⟩
    cases hr.symm.trans hx
    exact ⟨_, rfl, rfl, rfl⟩
  next => exact .refl _

theorem movesOn_finishMember {s : State} {u : Leaf} {r : Run} (hr : (s.units.get u).status = .inFlight r) (l : Leaf) :
    MovesOn s (s.finishMember u r l) := by
  have hheld : MovesOn s (s.held l .done) := .of_units rfl
  rw [finishMember_eq]
  split
  · exact hheld.trans (movesOn_toRundown (s := s.held l .done) hr _)
  · exact hheld.trans (movesOn_settleTimeout (s := s.held l .done) hr)

theorem movesOn_beginProbing {s : State} {u : Leaf} {r : Run} (hr : (s.units.get u).status = .inFlight r) (l : Leaf) :
    MovesOn s (s.beginProbing u r l) := by
  have hunits := probingMotor_units s r l
  unfold State.beginProbing
  dsimp only
  refine (MovesOn.of_units hunits).trans (.trans (.of_units rfl) (movesOn_settleTimeout ?_))
  show ((s.probingMotor r l).units.get u).status = _
  rw [hunits]
  exact hr

theorem movesOn_checkReach (s : State) (l : Leaf) : MovesOn s (s.checkReach l) := by
  unfold State.checkReach
  split
  · exact .of_units rfl
  next r hr =>
    have hr := (runOf_eq_some_iff.1 hr).1
    dsimp only
    split
    · split
      · exact movesOn_beginProbing hr l
      · exact movesOn_finishMember hr l
    · exact .of_units rfl

theorem holdMember_eq (s : State) (l : Leaf) : s.holdMember l = s.held l .syncHeld := held_eq s l .syncHeld

theorem movesOn_holdLeading (s : State) (l : Leaf) : MovesOn s (s.holdLeading l) := by
  unfold State.holdLeading
  rw [holdMember_eq]
  exact .trans (.of_units rfl) (movesOn_checkReach _ l)

/-! ### What synchronisation can do -/

theorem syncPair_cases (s : State) (r : Run) (a b : Leaf) : s.syncPair r a b = s ∨
    ∃ c, (c = a ∨ c = b) ∧ (s.syncPair r a b = s.switchOn c r.speed ∨ s.syncPair r a b = s.holdLeading c) := by
  unfold State.syncPair
  split
  next pa pb _ _ =>
    dsimp only
    split_ifs
    · exact .inr ⟨a, .inl rfl, .inl rfl⟩
    · exact .inl rfl
    · exact .inr ⟨b, .inr rfl, .inl rfl⟩
    · exact .inl rfl
    · exact .inr ⟨a, .inl rfl, .inr rfl⟩
    · exact .inr ⟨b, .inr rfl, .inr rfl⟩
    · exact .inl rfl
  · exact .inl rfl

theorem syncGang_cases (s : State) (l : Leaf) : s.syncGang l = s ∨ ∃ r, s.runOf l = some r ∧ ∃ c ∈ r.members,
    (s.syncGang l = s.switchOn c r.speed ∨ s.syncGang l = s.holdLeading c) := by
  unfold State.syncGang
  split
  next r hr =>
    split
    · split
      next a b hmembers =>
        obtain h | ⟨c, hc, h⟩ := syncPair_cases s r a b
        · exact .inl h
        · exact .inr ⟨r, hr, c, by rw [hmembers]; simpa using hc, h⟩
      · exact .inl rfl
    · exact .inl rfl
  · exact .inl rfl

theorem sameFaults_held (s : State) (l : Leaf) (hold : MemberHold) : SameFaults s (s.held l hold) := SameFaults.of_units rfl

theorem sameFaults_holdLeading (s : State) (l : Leaf) : SameFaults s (s.holdLeading l) := by
  unfold State.holdLeading
  rw [holdMember_eq]
  exact (sameFaults_held s l _).trans (sameFaults_checkReach _ l)

theorem local_holdLeading {s : State} {w l : Leaf} (hs : s.Belongs w) (hl : s.cfg.leader l = w) : Local w s (s.holdLeading l) := by
  have hheld : Local w s (s.holdMember l) := (local_switchOff hl).trans (local_setMember (s := s.switchOff l) hl _)
  unfold State.holdLeading
  exact hheld.trans (local_checkReach (hheld.belongs hs) (by rw [hheld.cfg]; exact hl))

theorem movesOn_syncGang (s : State) (l : Leaf) : MovesOn s (s.syncGang l) := by
  obtain h | ⟨r, -, c, -, h | h⟩ := syncGang_cases s l <;> rw [h]
  · exact .of_units rfl
  · exact .of_units rfl
  · exact movesOn_holdLeading _ c

theorem sameFaults_syncGang (s : State) (l : Leaf) : SameFaults s (s.syncGang l) := by
  obtain h | ⟨r, -, c, -, h | h⟩ := syncGang_cases s l <;> rw [h]
  · exact SameFaults.refl _
  · exact sameFaults_switchOn _ c _
  · exact sameFaults_holdLeading _ c

theorem local_syncGang {s : State} {w l : Leaf} (hs : s.Belongs w) (hl : s.cfg.leader l = w) : Local w s (s.syncGang l) := by
  obtain h | ⟨r, hr, c, hc, h⟩ := syncGang_cases s l
  · rw [h]
    exact Local.refl w _
  · have hc' : s.cfg.leader c = w := hs r (hl ▸ (runOf_eq_some_iff.1 hr).1) c hc
    obtain h | h := h <;> rw [h]
    · exact local_switchOn hc' _
    · exact local_holdLeading hs hc'

theorem movesOn_moved (s : State) (l : Leaf) : MovesOn s (s.moved l) := (movesOn_checkReach s l).trans (movesOn_syncGang _ l)

theorem sameFaults_moved (s : State) (l : Leaf) : SameFaults s (s.moved l) := (sameFaults_checkReach s l).trans (sameFaults_syncGang _ l)

theorem local_moved {s : State} {w l : Leaf} (hs : s.Belongs w) (hl : s.cfg.leader l = w) : Local w s (s.moved l) := by
  have hreach := local_checkReach hs hl
  exact hreach.trans (local_syncGang (hreach.belongs hs) (by rw [hreach.cfg]; exact hl))

/-! ### The content of a report -/

theorem content_congr {s t : State} (hout : SameOutside s t) (hpresence : ∀ k, (t.feedback.get k).presence = (s.feedback.get k).presence)
    (hentry : ∀ k, (t.leafEntry k).blank = (s.leafEntry k).blank) : t.content = s.content := by
  have hcfg : t.cfg = s.cfg := congrArg SettingsStore.inForce hout.store
  have hleaves : t.leafEntries.map LeafEntry.blank = s.leafEntries.map LeafEntry.blank := by
    have hhas : t.hasEntry = s.hasEntry := funext fun k => by
      unfold State.hasEntry
      rw [hcfg, hpresence]
    unfold State.leafEntries
    rw [List.map_map, List.map_map, hhas]
    exact List.map_congr_left fun k _ => hentry k
  obtain ⟨now, phase, pending, draws, store, line, composer, peers, detection, zones, weather, supply, port⟩ := hout
  unfold State.content State.composeReport Report.content
  dsimp only
  rw [hleaves]
  unfold State.condition State.reportFlags State.fire State.origin State.latchSet State.marks State.ownWeather State.key
  rw [hcfg, detection, zones, weather, supply, peers, line]

end Sys2Proof.Machine
end

section
/-! SUPPORT. The reports of an edge of a gang's member: the content stays as it is (R30, R152, R159). -/

namespace Sys2Proof.Machine

theorem eq_or_partner_of_leader_eq {c : Settings} {k l : Leaf} (h : c.leader k = c.leader l) : k = l ∨ k = partner l := by
  revert h
  unfold Settings.leader
  cases k <;> cases l <;> cases h12 : c.gang12 <;> cases h34 : c.gang34 <;> simp [Settings.ganged, pairLeader, partner, h12, h34]

/-- The leaves of a gang are the two members of its run. -/
theorem mem_gang {c : Settings} {k l m : Leaf} (hlm : l ≠ m) (hm : c.leader m = c.leader l) (hk : c.leader k = c.leader l) :
    k = l ∨ k = m := by
  obtain h | h := eq_or_partner_of_leader_eq hk
  · exact .inl h
  · obtain h' | h' := eq_or_partner_of_leader_eq hm
    · exact absurd h'.symm hlm
    · exact .inr (h.trans h'.symm)

/-- The motion state of a member of a run that moves, as a report says it. -/
theorem motion_of_moving {s : State} {k : Leaf} {q : Run} (hq : (s.unitOf k).status = .inFlight q) (hk : k ∈ q.members)
    (hmoves : q.stage.moves = true) :
    (s.motion k).summary = (if (s.feedback.get k).presence = .absent then .out else .moving) ∧ s.motion k ≠ .idle := by
  have hk : q.members.contains k = true := List.contains_iff_mem.2 hk
  unfold State.motion
  rw [hq]
  dsimp only
  by_cases hp : (s.feedback.get k).presence = .absent
  · rw [if_pos hp, if_pos hp]
    exact ⟨rfl, nofun⟩
  · rw [if_neg hp, if_neg hp, if_pos hk]
    cases hst : q.stage with
    | starting due =>
      rw [hst] at hmoves
      cases hmoves
    | running =>
      dsimp only
      split <;> exact ⟨rfl, nofun⟩
    | rundown due e => exact ⟨rfl, nofun⟩

theorem leafEntry_of_moving {s t : State} {k : Leaf} {r q : Run}
    (hr : (s.unitOf k).status = .inFlight r) (hrk : k ∈ r.members) (hrm : r.stage.moves = true)
    (hq : (t.unitOf k).status = .inFlight q) (hqk : k ∈ q.members) (hqm : q.stage.moves = true)
    (hpresence : (t.feedback.get k).presence = (s.feedback.get k).presence) (hmode : (t.feedback.get k).mode = (s.feedback.get k).mode)
    (hpair : (t.unitOf k).pair = (s.unitOf k).pair) (hfailed : (t.unitOf k).lastRunFailed = (s.unitOf k).lastRunFailed) :
    (t.leafEntry k).blank = (s.leafEntry k).blank := by
  obtain ⟨hsummary, hidle⟩ := motion_of_moving hr hrk hrm
  obtain ⟨hsummary', hidle'⟩ := motion_of_moving hq hqk hqm
  have htarget : s.atTarget k = false := by
    unfold State.atTarget
    rw [decide_eq_false hidle, Bool.false_and]
  have htarget' : t.atTarget k = false := by
    unfold State.atTarget
    rw [decide_eq_false hidle', Bool.false_and]
  unfold State.leafEntry LeafEntry.blank
  dsimp only
  rw [hsummary, hsummary', hpresence, htarget, htarget', hmode, hpair, hfailed]

/-- The entry of a leaf of another unit. -/
theorem leafEntry_of_other {s t : State} {k u : Leaf} (hcfg : t.cfg = s.cfg) (hk : s.cfg.leader k ≠ u)
    (hunit : ∀ v ≠ u, t.units.get v = s.units.get v) (hleaf : ∀ m, s.cfg.leader m ≠ u → SameLeaf m s t) :
    t.leafEntry k = s.leafEntry k := by
  obtain ⟨hmember, hfeedback⟩ := hleaf k hk
  have hunitOf : t.unitOf k = s.unitOf k := by
    unfold State.unitOf
    rw [hcfg]
    exact hunit _ hk
  have hposition : t.unitPosition (s.cfg.leader k) = s.unitPosition (s.cfg.leader k) := by
    refine unitPosition_congr hcfg fun m hm => .of_eq (hleaf m ?_).2
    rw [leader_of_mem_membersOf (leader_leader s.cfg k) hm]
    exact hk
  have hown : t.position k = s.position k := by
    unfold State.position
    rw [hfeedback, hcfg]
  have hmotion : t.motion k = s.motion k := by
    unfold State.motion State.restMotion State.referencedUnit
    rw [hfeedback, hunitOf, hmember, hcfg, hposition]
  unfold State.leafEntry State.atTarget
  rw [hcfg, hposition, hmotion, hunitOf, hown, hfeedback]

/-- An edge of a member that moves leaves the reportable content as it is. -/
theorem content_countEdge_moved {s : State} {l m : Leaf} {r : Run} (hs : membersBelong s) (hlm : l ≠ m) (hl : s.runOf l = some r)
    (hm : s.runOf m = some r) (hst : r.stage = .running) (line : FeedbackLine) (dir : Dir) :
    ((s.countEdge l line dir).moved l).content = s.content := by
  obtain ⟨hlstatus, hlmem⟩ := runOf_eq_some_iff.1 hl
  obtain ⟨-, hmmem⟩ := runOf_eq_some_iff.1 hm
  have hb : (s.countEdge l line dir).Belongs (s.cfg.leader l) := fun q hq => hs _ q hq
  have hdriven := driven_moved (s.countEdge l line dir) l
  have hlocal := local_moved (l := l) hb rfl
  have hmoves := movesOn_moved (s.countEdge l line dir) l
  have hpair := (moved_moved (s.countEdge l line dir) l).pair
  have hedge (k : Leaf) : ((s.countEdge l line dir).feedback.get k).presence = (s.feedback.get k).presence ∧
      ((s.countEdge l line dir).feedback.get k).mode = (s.feedback.get k).mode ∧
      (k ≠ l → (s.countEdge l line dir).feedback.get k = s.feedback.get k) := by
    unfold State.countEdge
    rw [State.setFeedback_feedback, Four.get_set]
    split
    next hk =>
      rw [hk]
      exact ⟨rfl, rfl, fun h => absurd rfl h⟩
    next => exact ⟨rfl, rfl, fun _ => rfl⟩
  generalize hv : (s.countEdge l line dir).moved l = t at hdriven hlocal hmoves hpair ⊢
  have hcfg : t.cfg = s.cfg := hdriven.sameInputs.cfg
  refine content_congr ((sameOutside_setFeedback s l _).trans hdriven.sameOutside)
    (fun k => (hdriven.presence k).trans (hedge k).1) fun k => ?_
  by_cases hk : s.cfg.leader k = s.cfg.leader l
  · have hkmem : k ∈ r.members := by
      obtain rfl | rfl := mem_gang hlm (hs _ r hlstatus m hmmem) hk
      · exact hlmem
      · exact hmmem
    have hstatus : (s.unitOf k).status = .inFlight r := by
      unfold State.unitOf
      rw [hk]
      exact hlstatus
    obtain ⟨hfailed, hflight⟩ := hmoves (s.cfg.leader k)
    obtain ⟨q, hq, hmembers, hqm⟩ := hflight r hstatus (by rw [hst]; rfl)
    have hunitOf : t.unitOf k = t.units.get (s.cfg.leader k) := by
      unfold State.unitOf
      rw [hcfg]
    refine leafEntry_of_moving hstatus hkmem (by rw [hst]; rfl) (by rw [hunitOf]; exact hq) (hmembers ▸ hkmem) hqm
      ((hdriven.presence k).trans (hedge k).1) ((hdriven.mode k).trans (hedge k).2.1) ?_ ?_
    · rw [hunitOf]
      exact hpair _
    · rw [hunitOf]
      exact hfailed
  · refine congrArg LeafEntry.blank (leafEntry_of_other hcfg hk hlocal.unit fun x hx => ?_)
    obtain ⟨hmember, hfeedback⟩ := hlocal.leaf x hx
    exact ⟨hmember, hfeedback.trans ((hedge x).2.2 fun h => hx (by rw [h]))⟩

/-- An event in which only units, members and feedback records change, and the content does not. -/
theorem reports_of_same {s t : State} (hout : SameOutside s t) (htables : t.tables = s.tables) (hcontent : t.content = s.content) :
    Reports s { s with units := t.units, members := t.members, feedback := t.feedback } t.refresh false where
  rest := by
    have hline : { s.line with pendingSlot := t.refresh.line.pendingSlot } = s.line := by
      rw [show t.refresh.line = s.line from hout.line]
    refine hout.refresh_eq.trans ?_
    rw [htables]
    exact congrArg (fun line : LineInterface => State.refresh { s with
      line := line, units := t.units, members := t.members, feedback := t.feedback }) hline.symm
  slot := by
    have hnot : ¬ (false = true ∨ (t.refresh.content ≠ s.content ∧
        t.refresh.composer.lastComposed.map Report.content ≠ some t.refresh.content)) := by
      rintro (h | ⟨h, -⟩)
      · cases h
      · exact h hcontent
    exact ⟨fun h => absurd h hnot, fun _ => congrArg LineInterface.pendingSlot hout.line⟩

end Sys2Proof.Machine
end

section
/-! SUPPORT. The synchronisation of a gang's two members, by what holds each of them (R152). -/

namespace Sys2Proof.Machine

theorem lead_comm (dir : Dir) (p q : Nat) : lead dir q p = -lead dir p q := by
  unfold lead
  cases dir <;> dsimp only <;> omega

section
variable {t : State} {r : Run} {a b : Leaf} {p q : Nat}

/-- A held member that no longer leads by more than 10 per mille is switched on. -/
theorem syncPair_first_held (ha : t.position a = some p) (hb : t.position b = some q) (hold : (t.members.get a).hold = .syncHeld) :
    t.syncPair r a b = if lead r.direction p q ≤ 10 then t.switchOn a r.speed else t := by
  unfold State.syncPair
  rw [ha, hb]
  exact if_pos hold

theorem syncPair_second_held (ha : t.position a = some p) (hb : t.position b = some q) (hfirst : (t.members.get a).hold ≠ .syncHeld)
    (hold : (t.members.get b).hold = .syncHeld) :
    t.syncPair r a b = if -lead r.direction p q ≤ 10 then t.switchOn b r.speed else t := by
  unfold State.syncPair
  rw [ha, hb]
  exact (if_neg hfirst).trans (if_pos hold)

/-- Two driving members outside PROBING. -/
def State.FreePair (t : State) (a b : Leaf) : Prop := (t.members.get a).hold = .driving ∧ (t.members.get b).hold = .driving ∧
  (t.members.get a).slice = none ∧ (t.members.get b).slice = none

theorem syncPair_neither_held (ha : t.position a = some p) (hb : t.position b = some q)
    (hfirst : (t.members.get a).hold ≠ .syncHeld) (hsecond : (t.members.get b).hold ≠ .syncHeld) :
    (t.FreePair a b → t.syncPair r a b = if 30 < lead r.direction p q then t.holdLeading a
      else if 30 < -lead r.direction p q then t.holdLeading b else t) ∧
    (¬ t.FreePair a b → t.syncPair r a b = t) := by
  have hfree : ((t.members.get a).hold = .driving && (t.members.get b).hold = .driving && (t.members.get a).slice.isNone &&
      (t.members.get b).slice.isNone) = true ↔ t.FreePair a b := by
    unfold State.FreePair
    simp only [Bool.and_eq_true, decide_eq_true_eq, Option.isNone_iff_eq_none, and_assoc]
  unfold State.syncPair
  rw [ha, hb]
  dsimp only
  rw [if_neg hfirst, if_neg hsecond]
  constructor
  · intro h
    rw [hfree.2 h, Bool.true_and, Bool.true_and]
    simp only [decide_eq_true_eq]
  · intro h
    rw [Bool.eq_false_iff.2 (mt hfree.1 h), Bool.false_and, Bool.false_and]
    rfl

end

/-- Two members of a run in RUNNING that stand at known positions. -/
structure GangAt (t : State) (r : Run) (l m : Leaf) (p q : Nat) : Prop where
  run : t.runOf l = some r
  stage : r.stage = .running
  members : r.members = [l, m] ∨ r.members = [m, l]
  position : t.position l = some p
  other : t.position m = some q

section
variable {t : State} {r : Run} {l m : Leaf} {p q : Nat}

theorem GangAt.syncGang (h : GangAt t r l m p q) : t.syncGang l = t.syncPair r l m ∨ t.syncGang l = t.syncPair r m l := by
  unfold State.syncGang
  rw [h.run]
  dsimp only
  rw [if_pos (by rw [h.stage]; rfl)]
  obtain hmembers | hmembers := h.members <;> rw [hmembers]
  · exact .inl rfl
  · exact .inr rfl

theorem GangAt.syncGang_held (h : GangAt t r l m p q) (hold : (t.members.get l).hold = .syncHeld)
    (hother : (t.members.get m).hold ≠ .syncHeld) :
    t.syncGang l = if lead r.direction p q ≤ 10 then t.switchOn l r.speed else t := by
  obtain hsync | hsync := h.syncGang <;> rw [hsync]
  · exact syncPair_first_held h.position h.other hold
  · rw [syncPair_second_held h.other h.position hother hold, lead_comm, neg_neg]

theorem GangAt.syncGang_other_held (h : GangAt t r l m p q) (hold : (t.members.get l).hold ≠ .syncHeld)
    (hother : (t.members.get m).hold = .syncHeld) :
    t.syncGang l = if -10 ≤ lead r.direction p q then t.switchOn m r.speed else t := by
  have hiff : -lead r.direction p q ≤ 10 ↔ -10 ≤ lead r.direction p q := by omega
  obtain hsync | hsync := h.syncGang <;> rw [hsync]
  · rw [syncPair_second_held h.position h.other hold hother]
    simp only [hiff]
  · rw [syncPair_first_held h.other h.position hother, lead_comm]
    simp only [hiff]

theorem GangAt.syncGang_free (h : GangAt t r l m p q) (hfree : t.FreePair l m) :
    (30 < lead r.direction p q → t.syncGang l = t.holdLeading l) ∧ (lead r.direction p q < -30 → t.syncGang l = t.holdLeading m) ∧
      (-30 ≤ lead r.direction p q → lead r.direction p q ≤ 30 → t.syncGang l = t) := by
  obtain ⟨hl, hm, hlslice, hmslice⟩ := hfree
  have hl' : (t.members.get l).hold ≠ .syncHeld := by rw [hl]; nofun
  have hm' : (t.members.get m).hold ≠ .syncHeld := by rw [hm]; nofun
  obtain hsync | hsync := h.syncGang <;> rw [hsync]
  · rw [(syncPair_neither_held h.position h.other hl' hm').1 ⟨hl, hm, hlslice, hmslice⟩]
    exact ⟨fun h => if_pos h, fun h => by rw [if_neg (by omega), if_pos (by omega)],
      fun h k => by rw [if_neg (by omega), if_neg (by omega)]⟩
  · rw [(syncPair_neither_held h.other h.position hm' hl').1 ⟨hm, hl, hmslice, hlslice⟩, lead_comm]
    exact ⟨fun h => by rw [if_neg (by omega), if_pos (by omega)], fun h => if_pos (by omega),
      fun h k => by rw [if_neg (by omega), if_neg (by omega)]⟩

theorem GangAt.syncGang_busy (h : GangAt t r l m p q) (hold : (t.members.get l).hold ≠ .syncHeld)
    (hother : (t.members.get m).hold ≠ .syncHeld) (hfree : ¬ t.FreePair l m) : t.syncGang l = t := by
  obtain hsync | hsync := h.syncGang <;> rw [hsync]
  · exact (syncPair_neither_held h.position h.other hold hother).2 hfree
  · refine (syncPair_neither_held h.other h.position hother hold).2 fun hf => hfree ?_
    obtain ⟨hm, hl, hmslice, hlslice⟩ := hf
    exact ⟨hl, hm, hlslice, hmslice⟩

/-- The other member goes on where it is held and no longer leads by more than 10 per mille; the member itself stays as it is. -/
def Resumes (t v : State) (l m : Leaf) (ahead : Int) : Prop := v.units = t.units ∧ v.members.get l = t.members.get l ∧
  v.members.get m = if (t.members.get m).hold = .syncHeld ∧ -10 ≤ ahead then switchedOnAt (t.members.get m) t.now else t.members.get m

theorem GangAt.resumes (h : GangAt t r l m p q) (hlm : l ≠ m) (hold : (t.members.get l).hold ≠ .syncHeld) (hfree : ¬ t.FreePair l m) :
    Resumes t (t.syncGang l) l m (lead r.direction p q) := by
  by_cases hother : (t.members.get m).hold = .syncHeld
  · rw [h.syncGang_other_held hold hother]
    split
    next hahead =>
      rw [switchOn_eq]
      refine ⟨rfl, ?_, ?_⟩ <;> dsimp only <;> rw [Four.get_set]
      · exact if_neg hlm
      · rw [if_pos rfl, if_pos ⟨hother, hahead⟩]
    next hahead => exact ⟨rfl, rfl, (if_neg fun h => hahead h.2).symm⟩
  · rw [h.syncGang_busy hold hother hfree]
    exact ⟨rfl, rfl, (if_neg fun h => hother h.1).symm⟩

end

end Sys2Proof.Machine
end

section
/-! SUPPORT. A gang's member compared with its run's target at an edge (R143, R144, R152, R159). -/

namespace Sys2Proof.Machine

/-! ### Comparing a count with the target -/

theorem position_of_count {t : State} {l : Leaf} {n : Nat} (hmode : (t.feedback.get l).mode = .pulse)
    (hcount : (t.feedback.get l).count = some n) : t.position l = some (n * 1000 / t.cfg.stroke.get l) := by
  unfold State.position FeedbackRecord.position
  rw [hmode]
  dsimp only
  rw [hcount]
  rfl

theorem reached_iff {t : State} {r : Run} {l : Leaf} {n : Nat} (hmode : (t.feedback.get l).mode = .pulse)
    (hcount : (t.feedback.get l).count = some n) : t.reached r l = true ↔ countReaches t r l n := by
  unfold State.reached countReaches targetCount
  dsimp only
  rw [hmode]
  dsimp only
  rw [hcount]
  cases r.direction <;> exact decide_eq_true_iff

theorem countReaches_congr {s t : State} (hcfg : t.cfg = s.cfg) {r : Run} {l : Leaf} {n : Nat} : countReaches t r l n ↔ countReaches s r l n := by
  unfold countReaches
  rw [hcfg]

theorem toEnd_iff (r : Run) : r.toEnd = true ↔ r.backoff = false ∧ r.target = match r.direction with
    | .opening => 1000
    | .closing => 0 := by
  unfold Run.toEnd endOf
  cases r.direction <;> simp

section
variable {t : State} {r : Run} {l : Leaf}

theorem checkReach_of_not_reached (hr : t.runOf l = some r) (h : (t.members.get l).hold = .done ∨ t.reached r l = false) :
    t.checkReach l = t := by
  unfold State.checkReach
  rw [hr]
  dsimp only
  refine if_neg fun hif => ?_
  simp only [Bool.and_eq_true, decide_eq_true_eq] at hif
  obtain ⟨⟨⟨⟨-, -⟩, hhold⟩, -⟩, hreached⟩ := hif
  obtain h | h := h
  · exact hhold h
  · rw [h] at hreached
    cases hreached

theorem checkReach_of_reached (hr : t.runOf l = some r) (hst : r.stage = .running) (hkind : r.kind = .normal)
    (hhold : (t.members.get l).hold ≠ .done) (hslice : (t.members.get l).slice = none) (hreached : t.reached r l = true) :
    t.checkReach l = if r.toEnd then t.beginProbing (t.cfg.leader l) r l else t.finishMember (t.cfg.leader l) r l := by
  unfold State.checkReach
  rw [hr]
  dsimp only
  refine if_pos ?_
  rw [hst, hkind, hslice, hreached]
  simp [hhold, Stage.isRunning]

/-- A leading member that has not reached the target is held. -/
theorem holdLeading_of_not_reached (hr : t.runOf l = some r) {n : Nat} (hmode : (t.feedback.get l).mode = .pulse)
    (hcount : (t.feedback.get l).count = some n) (hnot : ¬ countReaches t r l n) : t.holdLeading l = t.held l .syncHeld := by
  unfold State.holdLeading
  rw [holdMember_eq]
  have hget : (t.held l .syncHeld).feedback.get l = t.offRecord l := by
    unfold State.held
    dsimp only
    rw [Four.get_set, if_pos rfl]
  have hreached := reached_iff (t := t.held l .syncHeld) (r := r) (l := l) (n := n) (by rw [hget]; exact hmode) (by rw [hget]; exact hcount)
  exact checkReach_of_not_reached (t := t.held l .syncHeld) (r := r) hr (.inr (Bool.eq_false_iff.2 fun h => hnot (hreached.1 h)))

theorem held_member (t : State) (l m : Leaf) (hold : MemberHold) : (t.held l hold).members.get m =
    if m = l then { t.members.get l with motorOn := false, hold := hold, checks := .off, slice := none } else t.members.get m :=
  Four.get_set _ _ _ _

end

/-! ### A member that reaches the target -/

/-- The record of a member that enters PROBING. -/
def probingRecord (x : MemberRecord) (now ends : Nat) : MemberRecord :=
  { (if x.hold = .syncHeld then switchedOnAt x now else x) with slice := some ⟨1, ends⟩ }

theorem probingMotor_member (t : State) (r : Run) (l m : Leaf) : (t.probingMotor r l).members.get m =
    if m = l ∧ (t.members.get l).hold = .syncHeld then switchedOnAt (t.members.get l) t.now else t.members.get m := by
  unfold State.probingMotor
  split
  next h =>
    rw [switchOn_eq]
    dsimp only
    rw [Four.get_set]
    simp [h]
  next h => rw [if_neg fun k => h k.2]

theorem probingMotor_cfg (t : State) (r : Run) (l : Leaf) : (t.probingMotor r l).cfg = t.cfg ∧ (t.probingMotor r l).now = t.now := by
  unfold State.probingMotor
  split <;> exact ⟨rfl, rfl⟩

theorem beginProbing_member (t : State) (u : Leaf) (r : Run) (l m : Leaf) : (t.beginProbing u r l).members.get m =
    if m = l then probingRecord (t.members.get l) t.now (t.now + t.cfg.strokeTime l r.speed * 20 / 1000) else t.members.get m := by
  obtain ⟨hcfg, hnow⟩ := probingMotor_cfg t r l
  unfold State.beginProbing
  dsimp only
  rw [settleTimeout_members, State.setFeedback_members, State.setMember_members, Four.get_set, probingMotor_member,
    probingMotor_member]
  unfold State.sliceLength probingRecord
  rw [hcfg, hnow]
  by_cases hm : m = l
  · rw [if_pos hm, if_pos hm]
    simp only [true_and]
  · rw [if_neg hm, if_neg hm, if_neg fun h => hm h.1]

/-- The timeout stops where the other member is done. -/
theorem beginProbing_units {t : State} {u : Leaf} {r : Run} {l m : Leaf} (hlm : l ≠ m) (hmembers : r.members = [l, m] ∨ r.members = [m, l])
    (hslice : (t.members.get m).slice = none) : (t.beginProbing u r l).units =
      if (t.members.get m).hold = .done then t.units.set u { t.units.get u with status := .inFlight { r with timeoutDue := none } }
      else t.units := by
  have hmember := beginProbing_member t u r l
  have hunits := probingMotor_units t r l
  unfold State.beginProbing at hmember ⊢
  dsimp only at hmember ⊢
  simp only [settleTimeout_members] at hmember
  generalize hv : State.setFeedback _ l _ = v at hmember ⊢
  have hvunits : v.units = t.units := by
    rw [← hv]
    exact hunits
  have hall : (r.members.all fun k => (v.members.get k).finished || (v.members.get k).slice.isSome) = true ↔
      (t.members.get m).hold = .done := by
    have hl : ((v.members.get l).finished || (v.members.get l).slice.isSome) = true := by
      rw [hmember l, if_pos rfl]
      exact Bool.or_true _
    have hm : ((v.members.get m).finished || (v.members.get m).slice.isSome) = true ↔ (t.members.get m).hold = .done := by
      rw [hmember m, if_neg (Ne.symm hlm), hslice]
      exact (Bool.or_false _ ▸ decide_eq_true_iff)
    obtain h | h := hmembers <;> rw [h] <;> simp only [List.all_cons, List.all_nil, hl, Bool.true_and, Bool.and_true] <;> exact hm
  unfold State.settleTimeout State.setRun State.setStatus
  by_cases hdone : (t.members.get m).hold = .done
  · rw [if_pos (hall.2 hdone), if_pos hdone, State.setUnit_units, hvunits]
  · rw [if_neg (mt hall.1 hdone), if_neg hdone, hvunits]

/-- A member that arrives is held; with the other one the unit passes to RUNDOWN. -/
theorem finishMember_gang {t : State} {u : Leaf} {r : Run} {l m : Leaf} (hlm : l ≠ m) (hmembers : r.members = [l, m] ∨ r.members = [m, l])
    (hslice : (t.members.get m).slice = none) : t.finishMember u r l =
      if (t.members.get m).hold = .done then (t.held l .done).toRundown u r r.arrivalEnding else t.held l .done := by
  have hl : (t.held l .done).members.get l = { t.members.get l with motorOn := false, hold := .done, checks := .off, slice := none } := by
    rw [held_member, if_pos rfl]
  have hm : (t.held l .done).members.get m = t.members.get m := by rw [held_member, if_neg (Ne.symm hlm)]
  have hlfin : ((t.held l .done).members.get l).finished = true := by
    rw [hl]
    rfl
  have hmfin : ((t.held l .done).members.get m).finished = true ↔ (t.members.get m).hold = .done := by
    rw [hm]
    exact decide_eq_true_iff
  rw [finishMember_eq]
  have hall : (r.members.all fun k => ((t.held l .done).members.get k).finished) = true ↔ (t.members.get m).hold = .done := by
    obtain h | h := hmembers <;> rw [h] <;> simp only [List.all_cons, List.all_nil, hlfin, Bool.true_and, Bool.and_true] <;> exact hmfin
  have hsettle : (t.members.get m).hold ≠ .done → (t.held l .done).settleTimeout u r = t.held l .done := by
    intro hnot
    unfold State.settleTimeout
    refine if_neg fun hif => hnot (hmfin.1 ?_)
    have hmem : m ∈ r.members := by
      obtain h | h := hmembers <;> rw [h] <;> simp
    have hone := List.all_eq_true.1 hif m hmem
    rw [hm, hslice] at hone
    rw [hm]
    simpa using hone
  by_cases hdone : (t.members.get m).hold = .done
  · rw [if_pos (hall.2 hdone), if_pos hdone]
  · rw [if_neg (mt hall.1 hdone), if_neg hdone, hsettle hdone]

end Sys2Proof.Machine
end

section
/-! SUPPORT. The edge of a gang's member (R152, R159). -/

namespace Sys2Proof.Machine

/-! ### The edge counted -/

section
variable {s : State} {l m : Leaf} {r : Run} {n : Nat} {line : FeedbackLine}

/-- The count after an edge in the direction of the run. -/
def countAfter (s : State) (r : Run) (l : Leaf) (n : Nat) : Nat :=
  match r.direction with
  | .opening => min (s.cfg.stroke.get l) (n + 1)
  | .closing => n - 1

theorem stepCount_eq (s : State) (r : Run) (l : Leaf) (n : Nat) : stepCount r.direction (s.cfg.stroke.get l) n = countAfter s r l n := by
  unfold stepCount countAfter
  cases r.direction <;> rfl

theorem takeEdge_running (hr : s.runOf l = some r) (hst : r.stage = .running) (hmode : (s.feedback.get l).mode = .pulse)
    (hcount : (s.feedback.get l).count = some n) (hline : (s.feedback.get l).lastLine ≠ some line)
    (hprobe : (s.feedback.get l).probe = .none ∨ (s.feedback.get l).probe = .requested) :
    s.takeEdge l line = (s.countEdge l line r.direction).moved l := by
  have hdirection : State.drivenDirection.runDirection s l = some r.direction := by
    unfold State.drivenDirection.runDirection
    rw [hr, Option.bind_some, hst]
    rfl
  have hdriven : s.drivenDirection l = some r.direction := by
    unfold State.drivenDirection
    obtain h | h := hprobe <;> rw [h] <;> exact hdirection
  have htaking : s.edgeTaking l line = .accepted r.direction := by
    unfold State.edgeTaking
    rw [if_neg (by rw [hmode]; nofun), hdriven]
    exact if_neg hline
  unfold State.takeEdge
  rw [htaking]
  exact if_pos (by rw [hcount]; rfl)

theorem countEdge_feedback (s : State) (l k : Leaf) (line : FeedbackLine) (dir : Dir) :
    ((s.countEdge l line dir).feedback.get k).mode = (s.feedback.get k).mode ∧
    ((s.countEdge l line dir).feedback.get k).count =
      if k = l then (s.feedback.get l).count.map (stepCount dir (s.cfg.stroke.get l)) else (s.feedback.get k).count := by
  unfold State.countEdge
  rw [State.setFeedback_feedback, Four.get_set]
  split
  next h =>
    rw [h]
    exact ⟨rfl, rfl⟩
  next => exact ⟨rfl, rfl⟩

end

/-! ### The two members after the edge -/

/-- A gang's two members in RUNNING, outside PROBING, with their counts. -/
structure GangCounted (t : State) (r : Run) (l m : Leaf) (n k : Nat) : Prop where
  ne : l ≠ m
  run : t.runOf l = some r
  other : t.runOf m = some r
  members : r.members = [l, m] ∨ r.members = [m, l]
  stage : r.stage = .running
  kind : r.kind = .normal
  mode : (t.feedback.get l).mode = .pulse
  count : (t.feedback.get l).count = some n
  otherMode : (t.feedback.get m).mode = .pulse
  otherCount : (t.feedback.get m).count = some k
  slice : (t.members.get l).slice = none
  otherSlice : (t.members.get m).slice = none

section
variable {t : State} {r : Run} {l m : Leaf} {n k : Nat}

/-- By how far the first of two members leads. -/
def aheadOf (t : State) (r : Run) (l m : Leaf) (n k : Nat) : Int :=
  lead r.direction (n * 1000 / t.cfg.stroke.get l) (k * 1000 / t.cfg.stroke.get m)

theorem GangCounted.gangAt (h : GangCounted t r l m n k) :
    GangAt t r l m (n * 1000 / t.cfg.stroke.get l) (k * 1000 / t.cfg.stroke.get m) :=
  ⟨h.run, h.stage, h.members, position_of_count h.mode h.count, position_of_count h.otherMode h.otherCount⟩

/-- After an operation of the drive the counts and the configuration are as they were. -/
theorem GangCounted.gangAt_driven {q : Run} {v : State} (h : GangCounted t r l m n k) (hd : Driven t v) (hrun : v.runOf l = some q)
    (hst : q.stage = .running) (hmembers : q.members = r.members) :
    GangAt v q l m (n * 1000 / t.cfg.stroke.get l) (k * 1000 / t.cfg.stroke.get m) := by
  have hcfg := hd.sameInputs.cfg
  refine ⟨hrun, hst, hmembers ▸ h.members, ?_, ?_⟩
  · rw [position_of_count ((hd.mode l).trans h.mode) ((hd.count l).trans h.count), hcfg]
  · rw [position_of_count ((hd.mode m).trans h.otherMode) ((hd.count m).trans h.otherCount), hcfg]

theorem GangCounted.not_reached (h : GangCounted t r l m n k) (hnot : ¬ countReaches t r l n ∨ (t.members.get l).hold = .done) :
    t.moved l = t.syncGang l := by
  have hself : t.checkReach l = t := checkReach_of_not_reached h.run
    (hnot.symm.imp_right fun hn => Bool.eq_false_iff.2 fun hreached => hn ((reached_iff h.mode h.count).1 hreached))
  unfold State.moved
  rw [hself]

/-- Two driving members: a leader by more than 30 per mille is held. -/
theorem GangCounted.moved_driving (h : GangCounted t r l m n k) (hnot : ¬ countReaches t r l n) (hother : ¬ countReaches t r m k)
    (hl : (t.members.get l).hold = .driving) (hm : (t.members.get m).hold = .driving) :
    (30 < aheadOf t r l m n k → t.moved l = t.held l .syncHeld) ∧ (aheadOf t r l m n k < -30 → t.moved l = t.held m .syncHeld) ∧
      (-30 ≤ aheadOf t r l m n k → aheadOf t r l m n k ≤ 30 → t.moved l = t) := by
  obtain ⟨hahead, hbehind, hnear⟩ := h.gangAt.syncGang_free ⟨hl, hm, h.slice, h.otherSlice⟩
  rw [h.not_reached (.inl hnot)]
  refine ⟨fun hlead => (hahead hlead).trans ?_, fun hlead => (hbehind hlead).trans ?_, hnear⟩
  · exact holdLeading_of_not_reached h.run h.mode h.count hnot
  · exact holdLeading_of_not_reached h.other h.otherMode h.otherCount hother

/-- The member held itself goes on where it leads by no more than 10 per mille. -/
theorem GangCounted.moved_held (h : GangCounted t r l m n k) (hnot : ¬ countReaches t r l n)
    (hl : (t.members.get l).hold = .syncHeld) (hm : (t.members.get m).hold ≠ .syncHeld) :
    t.moved l = if aheadOf t r l m n k ≤ 10 then t.switchOn l r.speed else t := by
  rw [h.not_reached (.inl hnot)]
  exact h.gangAt.syncGang_held hl hm

theorem GangCounted.moved_resumes (h : GangCounted t r l m n k) (hnot : ¬ countReaches t r l n ∨ (t.members.get l).hold = .done)
    (hl : (t.members.get l).hold ≠ .syncHeld) (hfree : ¬ t.FreePair l m) : Resumes t (t.moved l) l m (aheadOf t r l m n k) := by
  rw [h.not_reached hnot]
  exact h.gangAt.resumes h.ne hl hfree

/-- The member reaches an inner target while the other one still runs: it is held there. -/
theorem GangCounted.moved_arrives (h : GangCounted t r l m n k) (hreach : countReaches t r l n)
    (hl : (t.members.get l).hold ≠ .done) (hend : r.toEnd = false) (hm : (t.members.get m).hold ≠ .done) :
    Resumes (t.held l .done) (t.moved l) l m (aheadOf t r l m n k) := by
  have hstep : t.checkReach l = t.held l .done := by
    rw [checkReach_of_reached h.run h.stage h.kind hl h.slice ((reached_iff h.mode h.count).2 hreach), hend, if_neg (by decide),
      finishMember_gang h.ne h.members h.otherSlice, if_neg hm]
  have hdriven : Driven t (t.held l .done) := hstep ▸ driven_checkReach t l
  have hgang := h.gangAt_driven hdriven (q := r) h.run h.stage rfl
  have hhold : ((t.held l .done).members.get l).hold = .done := by rw [held_member, if_pos rfl]
  unfold State.moved
  rw [hstep]
  refine hgang.resumes h.ne (by rw [hhold]; nofun) fun hfree => ?_
  rw [hfree.1] at hhold
  cases hhold

/-- Both members have arrived: the unit passes to RUNDOWN. -/
theorem GangCounted.moved_ends (h : GangCounted t r l m n k) (hreach : countReaches t r l n)
    (hl : (t.members.get l).hold ≠ .done) (hend : r.toEnd = false) (hm : (t.members.get m).hold = .done) :
    t.moved l = (t.held l .done).toRundown (t.cfg.leader l) r r.arrivalEnding := by
  have hstep : t.checkReach l = (t.held l .done).toRundown (t.cfg.leader l) r r.arrivalEnding := by
    rw [checkReach_of_reached h.run h.stage h.kind hl h.slice ((reached_iff h.mode h.count).2 hreach), hend, if_neg (by decide),
      finishMember_gang h.ne h.members h.otherSlice, if_pos hm]
  have hrun : ((t.held l .done).toRundown (t.cfg.leader l) r r.arrivalEnding).runOf l =
      some { r with stage := .rundown (t.now + 150) r.arrivalEnding, timeoutDue := none } := by
    refine runOf_eq_some_iff.2 ⟨?_, (runOf_eq_some_iff.1 h.run).2⟩
    unfold State.unitOf
    rw [toRundown_eq]
    dsimp only
    exact congrArg UnitRecord.status ((Four.get_set _ _ _ _).trans (if_pos rfl))
  unfold State.moved
  rw [hstep]
  unfold State.syncGang
  rw [hrun]
  rfl

/-- The member reaches its end and enters PROBING. -/
theorem GangCounted.moved_probes (h : GangCounted t r l m n k) (hreach : countReaches t r l n)
    (hl : (t.members.get l).hold ≠ .done) (hend : r.toEnd = true) :
    Resumes (t.beginProbing (t.cfg.leader l) r l) (t.moved l) l m (aheadOf t r l m n k) := by
  have hstep : t.checkReach l = t.beginProbing (t.cfg.leader l) r l := by
    rw [checkReach_of_reached h.run h.stage h.kind hl h.slice ((reached_iff h.mode h.count).2 hreach), hend, if_pos rfl]
  have hunits := beginProbing_units (u := t.cfg.leader l) h.ne h.members h.otherSlice
  have hdriven := driven_beginProbing t (t.cfg.leader l) r l
  have hmember := beginProbing_member t (t.cfg.leader l) r l l
  rw [if_pos rfl] at hmember
  obtain ⟨hstatus, hmem⟩ := runOf_eq_some_iff.1 h.run
  unfold State.moved
  rw [hstep]
  generalize t.beginProbing (t.cfg.leader l) r l = v at hunits hdriven hmember
  have hrun : ∃ q, v.runOf l = some q ∧ q.stage = .running ∧ q.members = r.members ∧ q.direction = r.direction := by
    have hget : (v.unitOf l).status = .inFlight r ∨ (v.unitOf l).status = .inFlight { r with timeoutDue := none } := by
      unfold State.unitOf
      rw [hdriven.sameInputs.cfg, hunits]
      split
      · rw [Four.get_set, if_pos rfl]
        exact .inr rfl
      · exact .inl hstatus
    obtain hget | hget := hget
    · exact ⟨r, runOf_eq_some_iff.2 ⟨hget, hmem⟩, h.stage, rfl, rfl⟩
    · exact ⟨_, runOf_eq_some_iff.2 ⟨hget, hmem⟩, h.stage, rfl, rfl⟩
  obtain ⟨q, hq, hst, hmembers, hdirection⟩ := hrun
  have hgang := h.gangAt_driven hdriven hq hst hmembers
  unfold aheadOf
  rw [← hdirection]
  refine hgang.resumes h.ne ?_ fun hfree => ?_
  · rw [hmember]
    unfold probingRecord
    dsimp only
    split
    · nofun
    next hnot => exact hnot
  · obtain ⟨-, -, hslice, -⟩ := hfree
    rw [hmember] at hslice
    cases hslice

end

end Sys2Proof.Machine
end

section
/-! SUPPORT. The statement of gang synchronisation (R152). -/

namespace Sys2Proof.Machine

theorem gangCounted_countEdge {s : State} {r : Run} {l m : Leaf} {n k : Nat} {line : FeedbackLine} (hlm : l ≠ m)
    (hl : s.runOf l = some r) (hm : s.runOf m = some r) (hmembers : r.members = [l, m] ∨ r.members = [m, l])
    (hst : r.stage = .running) (hkind : r.kind = .normal) (hmode : (s.feedback.get l).mode = .pulse)
    (hcount : (s.feedback.get l).count = some n) (hmode' : (s.feedback.get m).mode = .pulse)
    (hcount' : (s.feedback.get m).count = some k) (hslice : (s.members.get l).slice = none)
    (hslice' : (s.members.get m).slice = none) : GangCounted (s.countEdge l line r.direction) r l m (countAfter s r l n) k where
  ne := hlm
  run := hl
  other := hm
  members := hmembers
  stage := hst
  kind := hkind
  mode := (countEdge_feedback s l l line r.direction).1.trans hmode
  count := by rw [(countEdge_feedback s l l line r.direction).2, if_pos rfl, hcount, Option.map_some, stepCount_eq]
  otherMode := (countEdge_feedback s l m line r.direction).1.trans hmode'
  otherCount := by rw [(countEdge_feedback s l m line r.direction).2, if_neg hlm.symm, hcount']
  slice := hslice
  otherSlice := hslice'

theorem leadAfterEdge_eq (s : State) (r : Run) (l m : Leaf) (n k : Nat) : leadAfterEdge s r l m n k = aheadOf s r l m n k := by
  unfold leadAfterEdge aheadOf lead
  cases r.direction <;> rfl

section
variable {t : State} {r : Run} {l m : Leaf} {n k : Nat}

/-- Two driving members: the leader by more than 30 per mille is switched off and held, and the unit goes on. -/
theorem GangCounted.both_driving (h : GangCounted t r l m n k) (hnot : ¬ countReaches t r l n) (hother : ¬ countReaches t r m k)
    (hl : (t.members.get l).hold = .driving) (hm : (t.members.get m).hold = .driving) :
    (t.moved l).units = t.units ∧
    (30 < aheadOf t r l m n k → (t.moved l).members.get l = { (t.members.get l).switchedOff with hold := .syncHeld } ∧
      (t.moved l).members.get m = t.members.get m) ∧
    (aheadOf t r l m n k < -30 → (t.moved l).members.get l = t.members.get l ∧
      (t.moved l).members.get m = { (t.members.get m).switchedOff with hold := .syncHeld }) ∧
    (-30 ≤ aheadOf t r l m n k → aheadOf t r l m n k ≤ 30 → (t.moved l).members.get l = t.members.get l ∧
      (t.moved l).members.get m = t.members.get m) := by
  obtain ⟨hleads, htrails, hnear⟩ := h.moved_driving hnot hother hl hm
  refine ⟨?_, fun hahead => ?_, fun hahead => ?_, fun hlow hhigh => ?_⟩
  · obtain hahead | hahead | hahead : 30 < aheadOf t r l m n k ∨ aheadOf t r l m n k < -30 ∨
        (-30 ≤ aheadOf t r l m n k ∧ aheadOf t r l m n k ≤ 30) := by omega
    · rw [hleads hahead]
      rfl
    · rw [htrails hahead]
      rfl
    · rw [hnear hahead.1 hahead.2]
  · rw [hleads hahead]
    exact ⟨(held_member t l l _).trans (if_pos rfl), (held_member t l m _).trans (if_neg h.ne.symm)⟩
  · rw [htrails hahead]
    exact ⟨(held_member t m l _).trans (if_neg h.ne), (held_member t m m _).trans (if_pos rfl)⟩
  · rw [hnear hlow hhigh]
    exact ⟨rfl, rfl⟩

/-- A member that is held: it is switched on again within 10 per mille, and the other one stays as it is. -/
theorem GangCounted.held_back (h : GangCounted t r l m n k) (hnot : ¬ countReaches t r l n)
    (hl : (t.members.get l).hold = .syncHeld) (hm : (t.members.get m).hold ≠ .syncHeld) :
    (t.moved l).units = t.units ∧ (t.moved l).members.get m = t.members.get m ∧
      (aheadOf t r l m n k ≤ 10 → (t.moved l).members.get l = switchedOnAt (t.members.get l) t.now) ∧
      (10 < aheadOf t r l m n k → (t.moved l).members.get l = t.members.get l) := by
  rw [h.moved_held hnot hl hm]
  split
  next hahead =>
    rw [switchOn_eq]
    dsimp only
    exact ⟨rfl, (Four.get_set _ _ _ _).trans (if_neg h.ne.symm), fun _ => (Four.get_set _ _ _ _).trans (if_pos rfl),
      fun hlead => absurd hahead (not_le.2 hlead)⟩
  next hahead => exact ⟨rfl, rfl, fun hlead => absurd hlead hahead, fun _ => rfl⟩

/-- The record of a member that has arrived. -/
theorem GangCounted.arrived_member (h : GangCounted t r l m n k) (hreach : countReaches t r l n)
    (hl : (t.members.get l).hold ≠ .done) (hend : r.toEnd = false) :
    (t.moved l).members.get l = { (t.members.get l).switchedOff with hold := .done } := by
  have hheld : (t.held l .done).members.get l = { (t.members.get l).switchedOff with hold := .done } :=
    (held_member t l l _).trans (if_pos rfl)
  by_cases hm : (t.members.get m).hold = .done
  · rw [h.moved_ends hreach hl hend hm, toRundown_eq]
    dsimp only
    rw [Four.get_ofFn, if_pos (runOf_eq_some_iff.1 h.run).2, hheld]
    rfl
  · exact (h.moved_arrives hreach hl hend hm).2.1.trans hheld

/-- The run when both members have arrived. -/
theorem GangCounted.ended_status (h : GangCounted t r l m n k) (hreach : countReaches t r l n)
    (hl : (t.members.get l).hold ≠ .done) (hend : r.toEnd = false) (hm : (t.members.get m).hold = .done) :
    ((t.moved l).units.get (t.cfg.leader l)).status = .inFlight { r with
      stage := .rundown (t.now + 150) (if r.backoff then .fault .pinch else .clean), timeoutDue := none } := by
  rw [h.moved_ends hreach hl hend hm, toRundown_eq]
  dsimp only
  exact congrArg UnitRecord.status ((Four.get_set _ _ _ _).trans (if_pos rfl))

/-- The other member after an edge in which it is not held, and is switched on again within 10 per mille. -/
def resumed (t : State) (m : Leaf) (ahead : Int) : MemberRecord :=
  if (t.members.get m).hold = .syncHeld ∧ -10 ≤ ahead then switchedOnAt (t.members.get m) t.now else t.members.get m

theorem GangCounted.arrived_other (h : GangCounted t r l m n k) (hreach : countReaches t r l n)
    (hl : (t.members.get l).hold ≠ .done) (hend : r.toEnd = false) (hm : (t.members.get m).hold ≠ .done) :
    (t.moved l).units = t.units ∧ (t.moved l).members.get m = resumed t m (aheadOf t r l m n k) := by
  obtain ⟨hunits, -, hmember⟩ := h.moved_arrives hreach hl hend hm
  rw [held_member, if_neg h.ne.symm] at hmember
  exact ⟨hunits, hmember⟩

/-- A member that has reached its end is in PROBING; the timeout stops where the other one is done. -/
theorem GangCounted.probing (h : GangCounted t r l m n k) (hreach : countReaches t r l n)
    (hl : (t.members.get l).hold ≠ .done) (hend : r.toEnd = true) :
    (t.moved l).members.get l = probingRecord (t.members.get l) t.now (t.now + t.cfg.strokeTime l r.speed * 20 / 1000) ∧
      (t.moved l).members.get m = resumed t m (aheadOf t r l m n k) ∧
      ((t.members.get m).hold ≠ .done → (t.moved l).units = t.units) ∧
      ((t.members.get m).hold = .done →
        ((t.moved l).units.get (t.cfg.leader l)).status = .inFlight { r with timeoutDue := none }) := by
  obtain ⟨hunits, hmember, hother⟩ := h.moved_probes hreach hl hend
  rw [beginProbing_member, if_neg h.ne.symm, (driven_beginProbing t _ r l).now] at hother
  rw [beginProbing_member, if_pos rfl] at hmember
  rw [beginProbing_units h.ne h.members h.otherSlice] at hunits
  refine ⟨hmember, hother, fun hm => hunits.trans (if_neg hm), fun hm => ?_⟩
  rw [hunits, if_pos hm, Four.get_set, if_pos rfl]

/-- A member that does not reach the target and is not held, or has arrived before: the other one may resume. -/
theorem GangCounted.other_resumes (h : GangCounted t r l m n k) (hnot : ¬ countReaches t r l n ∨ (t.members.get l).hold = .done)
    (hl : (t.members.get l).hold ≠ .syncHeld) (hdriving : (t.members.get l).hold ≠ .driving ∨ (t.members.get m).hold ≠ .driving) :
    (t.moved l).units = t.units ∧ (t.moved l).members.get l = t.members.get l ∧
      (t.moved l).members.get m = resumed t m (aheadOf t r l m n k) :=
  h.moved_resumes hnot hl fun hfree => hdriving.elim (· hfree.1) (· hfree.2.1)

end

/-- An event that moves units, members and feedback records alone. -/
theorem follows_of_same {s t : State} (hout : SameOutside s t) (htables : t.tables = s.tables) (hfaults : SameFaults s t) :
    Follows { s with feedback := t.feedback } t.refresh := by
  obtain ⟨now, phase, pending, draws, store, line, composer, peers, detection, zones, weather, supply, port⟩ := hout
  exact SameOutside.follows ⟨now, phase, pending, draws, store, line, composer, peers, detection, zones, weather, supply, port⟩
    (fun u => by rw [htables]) (fun _ => ⟨rfl, rfl, rfl, rfl⟩) hfaults

/-- Settles O51. -/
theorem gangSynchronised : Obligations.GangSynchronised := by
  intro s o l m line r n k hs hlaw hleaf hlm hl hm hmembers hst hkind hmode hcount hline hprobe hmode' hcount' hslice hslice' hshort
  have hgang := gangCounted_countEdge (line := line) hlm hl hm hmembers hst hkind hmode hcount hmode' hcount' hslice hslice'
  have hcontent := content_countEdge_moved hlaw.members hlm hl hm hst line r.direction
  have hdriven := driven_moved (s.countEdge l line r.direction) l
  have hfaults := sameFaults_moved (s.countEdge l line r.direction) l
  have htables := (moved_moved (s.countEdge l line r.direction) l).tables
  have hexec : exec (.feedbackEdge o line) s = .next ((s.countEdge l line r.direction).moved l).refresh := by
    refine next_act hs _ ?_
    rw [hleaf]
    dsimp only
    rw [takeEdge_running hl hst hmode hcount hline hprobe, composeDue_of_same hcontent]
  intro n' ahead a b heldOff onAgain
  have hn : n' = countAfter s r l n := by
    dsimp only [n']
    unfold countAfter
    cases r.direction <;> rfl
  have hahead : ahead = aheadOf (s.countEdge l line r.direction) r l m n' k := leadAfterEdge_eq s r l m n' k
  have hout : SameOutside s (s.countEdge l line r.direction) := sameOutside_setFeedback s l _
  have hunits : (s.countEdge l line r.direction).units = s.units := rfl
  have htables0 : (s.countEdge l line r.direction).tables = s.tables := rfl
  have hal : (s.countEdge l line r.direction).members.get l = a := rfl
  have hbm : (s.countEdge l line r.direction).members.get m = b := rfl
  replace hshort : b.hold ≠ .done → ¬ countReaches s r m k := hshort
  rw [← hn] at hgang
  clear_value n' ahead a b
  generalize s.countEdge l line r.direction = c at hgang hcontent hdriven hfaults htables hexec hahead hout hunits htables0 hal hbm
  subst hal hbm hahead
  have hnow : s.now = c.now := hout.now.symm
  have hcfg : s.cfg = c.cfg := congrArg SettingsStore.inForce hout.store.symm
  have hreaches (x : Leaf) (j : Nat) : countReaches s r x j ↔ countReaches c r x j := countReaches_congr hcfg
  have hunitOf : (c.moved l).refresh.unitOf l = (c.moved l).units.get (c.cfg.leader l) := by
    rw [← hdriven.sameInputs.cfg]
    rfl
  have hgoes (h : (c.moved l).units = c.units) : ((c.moved l).refresh.unitOf l).status = .inFlight r := by
    rw [hunitOf, h, hunits, ← hcfg]
    exact (runOf_eq_some_iff.1 hl).1
  have honAgain (x : MemberRecord) : onAgain x = switchedOnAt x c.now := congrArg (switchedOnAt x) hnow
  have hsame : SameOutside s (c.moved l) := hout.trans hdriven.sameOutside
  have hsameTables : (c.moved l).tables = s.tables := htables.trans htables0
  have hrest := And.intro (follows_of_same hsame hsameTables ((SameFaults.of_units hunits).trans hfaults))
    (reports_of_same hsame hsameTables hcontent)
  simp only [hreaches, honAgain, hnow, hcfg] at hshort hrest ⊢
  refine ⟨(c.moved l).refresh, hexec, (hdriven.count l).trans hgang.count,
    fun hnot => ⟨fun ha hb => ?_, fun ha hb => ?_, fun ha hb => ?_, fun ha hb => ?_, fun ha hb => ?_⟩,
    fun ha hb => ?_, fun hreach ha => ⟨fun hend => ?_, fun hend => ?_⟩, hrest⟩
  · obtain ⟨hu, h⟩ := hgang.both_driving hnot (hshort (by rw [hb]; nofun)) ha hb
    exact ⟨hgoes hu, h⟩
  · obtain ⟨hu, h⟩ := hgang.other_resumes (.inl hnot) (by rw [ha]; nofun) (.inr (by rw [hb]; nofun))
    exact ⟨hgoes hu, h⟩
  · obtain ⟨hu, h⟩ := hgang.held_back hnot ha (by rw [hb]; nofun)
    exact ⟨hgoes hu, h⟩
  · obtain ⟨hu, hself, hother⟩ := hgang.other_resumes (.inl hnot) (by rw [ha]; nofun) (.inr (by rw [hb]; nofun))
    exact ⟨hgoes hu, hself, hother.trans (if_neg fun h => by rw [hb] at h; cases h.1)⟩
  · obtain ⟨hu, h⟩ := hgang.held_back hnot ha (by rw [hb]; nofun)
    exact ⟨hgoes hu, h⟩
  · obtain ⟨hu, h⟩ := hgang.other_resumes (.inr ha) (by rw [ha]; nofun) (.inl (by rw [ha]; nofun))
    exact ⟨hgoes hu, h⟩
  · have hend' : r.toEnd = false := Bool.eq_false_iff.2 (mt (toEnd_iff r).1 hend)
    refine ⟨hgang.arrived_member hreach ha hend', fun hb => ?_, fun hb => ?_⟩
    · obtain ⟨hu, h⟩ := hgang.arrived_other hreach ha hend' hb
      exact ⟨hgoes hu, h⟩
    · rw [hunitOf]
      exact hgang.ended_status hreach ha hend' hb
  · obtain ⟨hself, hother, hu, hdone⟩ := hgang.probing hreach ha ((toEnd_iff r).2 hend)
    unfold probingRecord at hself
    refine ⟨fun ha' => hself.trans ?_, fun ha' => hself.trans ?_, hother, fun hb => hgoes (hu hb), fun hb => ?_⟩
    · rw [if_neg (by rw [ha']; nofun)]
    · rw [if_pos ha']
    · rw [hunitOf]
      exact hdone hb

end Sys2Proof.Machine
end
